-- ==== Sys2Proof/Word.lean ====
section
/-! DEFINITION. The word types of the TNE-6's line formats: the byte of a frame or of the configuration memory
(R143, R177), and the 16-bit word of the frame check and the random generator (R143, R152). Addresses, call ids,
network codes, counts and times are numbers the manual compares and counts, and are Nat. -/

namespace Sys2Proof

/-- One byte of a frame on the signalling channel or of the configuration memory. -/
abbrev Byte := BitVec 8

/-- The 16-bit register of the frame check (R143) and of the random generator (R152). -/
abbrev Word16 := BitVec 16

end Sys2Proof
end

