-- ==== Sys2Proof/Syntax.lean ====
section
/-! DEFINITION. The commands of the TNE-6: one constructor of `Instr` per row of spec/opcode_table.json, with the
operands the event brings. The table gives its rows no fields; each operand is taken from the rule that owns the event.

Two operands recur. `ms` is the millisecond, 0..999, within the present uptime second at which an event from outside
the part is taken (R180: one time base, counted in milliseconds; log 2). A frame command holds the frame as received:
its `Header` and its payload fields as numbers of their bytes (R144). -/

namespace Sys2Proof

/-- The two modem slots (R62). -/
inductive Slot where
  | a | b
  deriving DecidableEq, Repr

/-- The four corridor trunks (R112). -/
inductive Trunk where
  | t1 | t2 | t3 | t4
  deriving DecidableEq, Repr

/-- The radio types a modem or an advert names (R33). -/
inductive RadioType where
  | g2 | g3 | g4 | g5
  deriving DecidableEq, Repr

/-- One item of a NETS message as the module sent it (R48, R78); `radio` is none where the type is none of the four. -/
structure NetItem where
  code : Nat
  radio : Option RadioType
  level : Option Nat
  permitted : Bool
  deriving DecidableEq, Repr

/-- The reason of a DNAK (R80). -/
inductive DnakReason where
  | noService | barred | rejected
  deriving DecidableEq, Repr

/-- The cause of a GONE (R84). -/
inductive GoneCause where
  | farCleared | lost | localCleared
  deriving DecidableEq, Repr

/-- The reason of a CNAK (R94, R145). -/
inductive CnakReason where
  | full | noTrunk | noNetwork | notCarrying | supply
  deriving DecidableEq, Repr

/-- The reason of a CPRG FAILED, and of a FAILED log outcome (R100, R145). -/
inductive CprgReason where
  | noService | barred | rejected | timeout | retry | busy | lost | noTrunk | farCleared
  deriving DecidableEq, Repr

/-- The stage of a CPRG, with its reason where it is FAILED (5.4, R145). -/
inductive CprgStage where
  | ringing | talking | failed (reason : CprgReason)
  deriving DecidableEq, Repr

/-- The cause of a CEND (R104, R145). -/
inductive CendCause where
  | callerCleared | lost | limit
  deriving DecidableEq, Repr

/-- The header fields of a received frame (R143): segment id, destination and source, as the bytes' numbers. -/
structure Header where
  seg : Nat
  dst : Nat
  src : Nat
  deriving DecidableEq, Repr

/-- The identity of a carry record: requester address and requester call id (R89). -/
structure CarryId where
  requester : Nat
  callId : Nat
  deriving DecidableEq, Repr

/-- Which quality counter a decay timer belongs to (R44): a network entry's or a neighbour entry's. -/
inductive CounterRef where
  | network (sl : Slot) (code : Nat)
  | neighbour (addr : Nat)
  deriving DecidableEq, Repr

/-- The commands, in the order of spec/opcode_table.json. -/
inductive Instr where
  /-- COLD_RESET (R181): power-on or the reset pin asserted. -/
  | coldReset
  /-- RESET_RELEASE (R181): the reset pin released, or power come up. -/
  | resetRelease
  /-- CONFIG_READ_COMPLETE (R177): the 32 bytes taken, and the supply level of the start-up's first sample (R182). -/
  | configReadComplete (bytes : List Byte) (level : Nat)
  /-- CONFIG_READ_DEADLINE (R177): the 100 ms deadline, and the supply level of the start-up's first sample (R182). -/
  | configReadDeadline (level : Nat)
  /-- INPUT_WATCH_END (R160): the steady levels, button held down and handset lifted. -/
  | inputWatchEnd (buttonDown : Bool) (handsetLifted : Bool)
  /-- SUPPLY_SAMPLE (R171): the level read from the supply sense input. -/
  | supplySample (level : Nat)
  /-- UPTIME_TICK (R180). -/
  | uptimeTick
  /-- BUTTON_INPUT_CHANGE (R161): the new level, true for pressed. -/
  | buttonInputChange (down : Bool) (ms : Nat)
  /-- BUTTON_TIMER_EXPIRY (R161). -/
  | buttonTimerExpiry
  /-- HOOK_INPUT_CHANGE (R162): the new level, true for lifted. -/
  | hookInputChange (lifted : Bool) (ms : Nat)
  /-- HOOK_TIMER_EXPIRY (R162). -/
  | hookTimerExpiry
  /-- PAUSE_TIMER_EXPIRY (R11). -/
  | pauseTimerExpiry
  /-- ANSWER_TIMER_EXPIRY (R17). -/
  | answerTimerExpiry
  /-- REQUESTER_HOLD_REFRESH (R19). -/
  | requesterHoldRefresh
  /-- CARRIER_SILENCE_EXPIRY (R22). -/
  | carrierSilenceExpiry
  /-- RING_LIMIT_EXPIRY (R24). -/
  | ringLimitExpiry
  /-- PLACEMENT_LIMIT_EXPIRY (R28). -/
  | placementLimitExpiry
  /-- BELL_TIMER_EXPIRY (R31). -/
  | bellTimerExpiry
  /-- CALLBACK_WINDOW_EXPIRY (R29). -/
  | callbackWindowExpiry
  /-- QUALITY_DECAY_EXPIRY (R44): the counter whose decay timer expires. -/
  | qualityDecayExpiry (counter : CounterRef)
  /-- NETWORK_ENTRY_REMOVAL (R54). -/
  | networkEntryRemoval (sl : Slot) (code : Nat)
  /-- BAR_EXPIRY (R57). -/
  | barExpiry (sl : Slot) (code : Nat)
  /-- RDY (R77). -/
  | rdy (sl : Slot) (ms : Nat)
  /-- NETS (R78): 0..8 items. -/
  | nets (sl : Slot) (items : List NetItem) (ms : Nat)
  /-- DACK (R79). -/
  | dack (sl : Slot) (ms : Nat)
  /-- DNAK (R80). -/
  | dnak (sl : Slot) (reason : DnakReason) (ms : Nat)
  /-- DRTY (R81). -/
  | drty (sl : Slot) (ms : Nat)
  /-- DIAL_REPEAT (R81): the modem line is free for the repeated DIAL. -/
  | dialRepeat (sl : Slot) (ms : Nat)
  /-- RING (R82). -/
  | ring (sl : Slot) (ms : Nat)
  /-- LIVE (R83). -/
  | live (sl : Slot) (ms : Nat)
  /-- GONE (R84). -/
  | gone (sl : Slot) (cause : GoneCause) (ms : Nat)
  /-- BEAT (R85): the camped network code or none, and the level or none. -/
  | beat (sl : Slot) (camped : Option Nat) (level : Option Nat) (ms : Nat)
  /-- CALLIN (R86). -/
  | callin (sl : Slot) (ms : Nat)
  /-- MODEM_SIGNAL_DISCARDED (R65). -/
  | modemSignalDiscarded (sl : Slot) (ms : Nat)
  /-- WARM_UP_DEADLINE_EXPIRY (R64). -/
  | warmUpDeadlineExpiry (sl : Slot)
  /-- HEARTBEAT_WATCH_EXPIRY (R65). -/
  | heartbeatWatchExpiry (sl : Slot)
  /-- SCAN_DEADLINE_EXPIRY (R73). -/
  | scanDeadlineExpiry (sl : Slot)
  /-- DIAL_DEADLINE_EXPIRY (R74). -/
  | dialDeadlineExpiry (sl : Slot)
  /-- SLOT_RING_LIMIT_EXPIRY (R82). -/
  | slotRingLimitExpiry (sl : Slot)
  /-- CLEAR_DEADLINE_EXPIRY (R75). -/
  | clearDeadlineExpiry (sl : Slot)
  /-- IDLE_TIMER_EXPIRY (R71). -/
  | idleTimerExpiry (sl : Slot)
  /-- SCAN_TIMER_EXPIRY (R72). -/
  | scanTimerExpiry (sl : Slot)
  /-- RESTART_TIMER_EXPIRY (R67). -/
  | restartTimerExpiry (sl : Slot)
  /-- CREQ (R91): call id and network code. -/
  | creq (h : Header) (callId code ms : Nat)
  /-- QUEUE_TIMER_EXPIRY (R97): the carry record whose timer expires. -/
  | queueTimerExpiry (id : CarryId)
  /-- REQUESTER_SILENCE_EXPIRY (R103). -/
  | requesterSilenceExpiry (id : CarryId)
  /-- CACK (R19): call id and trunk field. -/
  | cack (h : Header) (callId trunk ms : Nat)
  /-- CNAK (R18). -/
  | cnak (h : Header) (callId : Nat) (reason : CnakReason) (ms : Nat)
  /-- CPRG (R20). -/
  | cprg (h : Header) (callId : Nat) (stage : CprgStage) (ms : Nat)
  /-- CEND (R104). -/
  | cend (h : Header) (callId : Nat) (cause : CendCause) (ms : Nat)
  /-- THLD (R120): trunk, holder, partner and call id fields. -/
  | thld (h : Header) (trunk holder partner callId ms : Nat)
  /-- TMOV (R21): call id, old trunk and new trunk fields. -/
  | tmov (h : Header) (callId oldTrunk newTrunk ms : Nat)
  /-- TFRE (R121): trunk field. -/
  | tfre (h : Header) (trunk ms : Nat)
  /-- REACH (R135): the payload as received, any length (R156). -/
  | reach (h : Header) (payload : List Byte) (ms : Nat)
  /-- NEIGHBOUR_STALE (R138). -/
  | neighbourStale (addr : Nat)
  /-- NEIGHBOUR_REMOVAL (R138). -/
  | neighbourRemoval (addr : Nat)
  /-- GUARD_TIMER_EXPIRY (R115). -/
  | guardTimerExpiry (t : Trunk)
  /-- HOLD_REFRESH (R116): the carry record whose refresh expires. -/
  | holdRefresh (id : CarryId)
  /-- HOLD_TIMER_EXPIRY (R120). -/
  | holdTimerExpiry (t : Trunk)
  /-- ADVERT_TIMER_EXPIRY (R131). -/
  | advertTimerExpiry
  /-- START_WAIT_EXPIRY (R133). -/
  | startWaitExpiry
  /-- EARLY_ADVERT_SPACING_END (R132). -/
  | earlyAdvertSpacingEnd
  /-- GAP_END (R149). -/
  | gapEnd
  /-- FRAME_SENT (R149). -/
  | frameSent (ms : Nat)
  /-- COLLISION (R150). -/
  | collision (ms : Nat)
  /-- BACKOFF_TIMER_EXPIRY (R149). -/
  | backoffTimerExpiry
  /-- RECEIVED_FRAME_DROPPED (R154): the bytes between two quiet spaces (R153). -/
  | receivedFrameDropped (bytes : List Byte) (ms : Nat)
  /-- SQRY (R185). -/
  | sqry (h : Header) (ms : Nat)
  /-- LQRY (R186). -/
  | lqry (h : Header) (index ms : Nat)
  /-- ERST (R187). -/
  | erst (h : Header) (ms : Nat)
  /-- TONE_CADENCE (R169). -/
  | toneCadence
  /-- BELL_CADENCE (R163). -/
  | bellCadence
  /-- LAMP_CADENCE (R164). -/
  | lampCadence
  /-- FAST_FLASH_TIMER_EXPIRY (R164). -/
  | fastFlashTimerExpiry
  deriving DecidableEq, Repr

end Sys2Proof
end

