-- ==== Sys2Proof/Decode.lean ====
section
/-! DEFINITION. The words of the commands. spec/opcode_table.json gives none of its 74 rows any bits, so no word
spells a command (log 29). -/

namespace Sys2Proof

/-- The command that a word of `nbits` bits spells by the table's bits: none, because the table gives no row bits. -/
def decodeTableWord (_nbits _w : Nat) : Option Instr := none

end Sys2Proof
end

