-- ==== Sys2Proof/Config.lean ====
section
/-! DEFINITION. The free values of the model: what the manual leaves open and no proof can see. -/

namespace Sys2Proof.Config

/-- R157: the blocks that one frame is handed to "take it in no order among themselves". A CACK or TMOV addressed to
this box is handed to PLE and to TKM, and both may queue frames, so the order shows in the transmit queue. Where
such a frame makes the `n`-th draw this says whether PLE takes it before TKM. It has no body: nothing can be proved of it
(log 6). -/
opaque pleFirst (n : Nat) : Bool

/-- R149, R153: the bytes that the other boxes put on the corridor line in the run that the `n`-th draw starts, each as
the time-base millisecond at which it is heard. The manual bounds neither their number nor their moments, and no command
tells of one. It has no body: nothing can be proved of it (log 24). -/
opaque otherBytes (n : Nat) : List Nat

end Sys2Proof.Config
end

