-- ==== Sys2Proof/Machine/Durations.lean ====
section
/-! DEFINITION. The lengths of the part's timers, in milliseconds, each with the rule that names it. -/

namespace Sys2Proof.Machine

/-- R160, R161, R162: the debounce span and the watch after a reset. -/
def debounceMs : Nat := 50
/-- R17. -/
def answerMs : Nat := 2000
/-- R19, R116: the requester's and the carrier's hold refresh. -/
def holdRefreshMs : Nat := 2000
/-- R22, R103: the carrier silence timer and the requester silence timer. -/
def silenceMs : Nat := 8000
/-- R24, R82: PLE's ring limit and the slot's ring limit. -/
def ringLimitMs : Nat := 120000
/-- R28. -/
def placementLimitMs : Nat := 1800000
/-- R30. -/
def bellMs : Nat := 60000
/-- R44. -/
def decayMs : Nat := 600000
/-- R64. -/
def warmUpMs : Nat := 20000
/-- R65. -/
def heartbeatMs : Nat := 15000
/-- R66. -/
def restartMs : Nat := 2000
/-- R71. -/
def idleMs : Nat := 30000
/-- R73. -/
def scanDeadlineMs : Nat := 45000
/-- R74. -/
def dialDeadlineMs : Nat := 10000
/-- R75. -/
def clearDeadlineMs : Nat := 5000
/-- R93. -/
def queueMs : Nat := 20000
/-- R114. -/
def guardMs : Nat := 300
/-- R119, R120. -/
def holdMs : Nat := 8000
/-- R132. -/
def earlySpacingMs : Nat := 5000
/-- R133. -/
def startWaitMs : Nat := 45000
/-- R149. -/
def lineGapMs : Nat := 2
/-- R150: one backoff step. -/
def backoffStepMs : Nat := 4
/-- R153: the quiet that ends a received frame. -/
def frameEndMs : Nat := 1
/-- R163: the driven and the released phase of the bell. -/
def bellOnMs : Nat := 1000
def bellOffMs : Nat := 2000
/-- R164: half a period of SLOW and of FAST, and the fast flash. -/
def lampSlowMs : Nat := 500
def lampFastMs : Nat := 125
def fastFlashMs : Nat := 60000
/-- R169: the burst and the silence of the CONNECTING cue. -/
def toneOnMs : Nat := 500
def toneOffMs : Nat := 3500
/-- R171: the busy and the unhurried sampling interval. -/
def sampleFastMs : Nat := 10000
def sampleSlowMs : Nat := 60000

/-- R29: the callback window, in seconds. -/
def windowSeconds : Nat := 900
/-- R56: a bar, in seconds. -/
def barSeconds : Nat := 300
/-- R54: the age at which a network entry is removed, in seconds. -/
def removalSeconds : Nat := 3600
/-- R66: the span within which three faults disable a slot, in seconds. -/
def faultWindowSeconds : Nat := 600

end Sys2Proof.Machine
end

