-- ==== Sys2Proof/Machine/Bits.lean ====
section
/-! DEFINITION. Bytes and words: byte order (R143: most significant byte first), the frame check (R143) and the step of
the random generator (R152). -/

namespace Sys2Proof.Machine

/-- The byte of a number's eight least significant bits. -/
def byteOf (n : Nat) : Byte := BitVec.ofNat 8 n

/-- A number in two bytes, most significant first (R143). -/
def bytes2 (n : Nat) : List Byte := [byteOf (n / 256), byteOf n]

/-- A number in three bytes, most significant first (R144: a network code). -/
def bytes3 (n : Nat) : List Byte := [byteOf (n / 65536), byteOf (n / 256), byteOf n]

/-- A number in four bytes, most significant first (R144: an uptime). -/
def bytes4 (n : Nat) : List Byte := [byteOf (n / 16777216), byteOf (n / 65536), byteOf (n / 256), byteOf n]

/-- The number of two bytes, most significant first. -/
def num2 (x y : Byte) : Nat := x.toNat * 256 + y.toNat

/-- The number of three bytes, most significant first. -/
def num3 (x y z : Byte) : Nat := x.toNat * 65536 + y.toNat * 256 + z.toNat

/-- One bit of the frame check: generator x^16 + x^12 + x^5 + 1, most significant bit first (R143). -/
def checkBit (c : Word16) : Word16 := if c.msb then (c <<< 1) ^^^ 0x1021 else c <<< 1

/-- The first `n` bits of a byte already added to the register. -/
def checkBits : Nat → Word16 → Word16
  | 0, c => c
  | n + 1, c => checkBits n (checkBit c)

/-- One byte of the frame check (R143). -/
def checkByte (c : Word16) (b : Byte) : Word16 := checkBits 8 (c ^^^ (b.zeroExtend 16 <<< 8))

/-- The check of R143 over a list of bytes: the register starts at 65535. -/
def frameCheck (bytes : List Byte) : Word16 := bytes.foldl checkByte 0xFFFF

/-- One step of the random generator (R152): the exclusive-or of bits 16, 14, 13 and 11, numbered from 1, goes into
bit 1 as every bit moves one place toward bit 16. -/
def rngStep (r : Word16) : Word16 :=
  let feedback := (r.getLsbD 15 ^^ r.getLsbD 13 ^^ r.getLsbD 12 ^^ r.getLsbD 10)
  (r <<< 1) ||| (if feedback then 1 else 0)

/-- The seed of the generator at a start-up (R152): (address × 1021) mod 65536, or 1 where that is 0. An ISOLATED box
takes its address as 0. -/
def rngSeed (address : Nat) : Word16 :=
  if address * 1021 % 65536 = 0 then 1 else BitVec.ofNat 16 (address * 1021 % 65536)

end Sys2Proof.Machine
end

