-- ==== Sys2Proof/Machine/State.lean ====
section
/-! DEFINITION. The state of the TNE-6, one structure per block (00 "Blocks"), as plain data, and its values after
reset. A timer is `Option Nat`: none while stopped, and the time-base millisecond at which it expires while it runs
(R180: every timer runs on the one time base); its remaining time is that minus `clock.now`. -/

namespace Sys2Proof.Machine

/-- Why the machine stops: never. The spec names no event that stops the part; a slot fault (R66) is an effect on the
slot. No constructor, so no step can answer a fault. -/
inductive Fault where
  deriving DecidableEq, Repr

/-- Why the machine gives a command no meaning. -/
inductive Refusal where
  /-- Raised by `exec` for a command that has no meaning yet (safe: it stops). No arm answers it. -/
  | notModelled (mnemonic : String)
  deriving DecidableEq, Repr

/-- What the part as a whole is doing (R174, R177, R181). -/
inductive Phase where
  /-- Held by the reset pin or without power (R181). -/
  | resetHeld
  /-- The configuration record is being read, under its 100 ms deadline (R177). -/
  | readingConfig
  /-- Held in brown-out (R174). -/
  | brownOutHeld
  | running
  deriving DecidableEq, Repr

/-- The time base (R180): `now` in milliseconds since the start-up, `second` its value at the present second's begin. -/
structure Clock where
  now : Nat
  second : Nat
  deriving DecidableEq, Repr

/-! ### CPI (R160) -/

inductive ButtonState where
  | released | pressPending | pressed | releasePending
  deriving DecidableEq, Repr

inductive HookState where
  | onHook | liftPending | lifted | replacePending
  deriving DecidableEq, Repr

/-- The bell with its cadence phase (R163): `driven` while the output is driven. -/
inductive BellState where
  | silent | ringing (driven : Bool)
  deriving DecidableEq, Repr

inductive LampMode where
  | off | slow | steady | fast
  deriving DecidableEq, Repr

structure Cpi where
  button : ButtonState
  hook : HookState
  buttonTimer : Option Nat
  hookTimer : Option Nat
  /-- The 50 ms watch of the button input after a reset (R160). -/
  buttonWatch : Option Nat
  /-- The 50 ms watch of the hook input after a reset (R160). -/
  hookWatch : Option Nat
  bell : BellState
  bellCadence : Option Nat
  lamp : LampMode
  /-- The CALL lamp's cadence phase: lit or dark (R164). -/
  lampLit : Bool
  lampCadence : Option Nat
  fastFlash : Option Nat
  outLamp : Bool
  deriving DecidableEq, Repr

/-! ### XPT (R166) -/

/-- The eight audio endpoints (9.3). -/
inductive Endpoint where
  | handset | tone | slot (sl : Slot) | trunk (t : Trunk)
  deriving DecidableEq, Repr

/-- Who asks for a connection: the local call or one carry record (R166). -/
inductive Owner where
  | localCall | carry (id : CarryId)
  deriving DecidableEq, Repr

/-- A pair of endpoints and its owner: a connection in force, or a join that waits (R166). -/
structure Join where
  x : Endpoint
  y : Endpoint
  owner : Owner
  deriving DecidableEq, Repr

/-- What TONE carries (R169): `burst` is the phase with the tone on. -/
inductive ToneCue where
  | silent | connecting (burst : Bool)
  deriving DecidableEq, Repr

structure Xpt where
  joins : List Join
  waiting : List Join
  cue : ToneCue
  cadence : Option Nat
  deriving DecidableEq, Repr

/-! ### SLC (R62) -/

inductive SlotState where
  | absent | off | warming | idle | scanning | dialling | ringing | talking | clearing | offered | restarting | disabled
  deriving DecidableEq, Repr

inductive ScanKind where
  | emergency | periodic
  deriving DecidableEq, Repr

/-- The grant holder, with the scan kind of a scan's grant (R62). -/
inductive Holder where
  | nobody | localCall | carry (id : CarryId) | scan (kind : ScanKind)
  deriving DecidableEq, Repr

/-- A LOCAL claim is for a dial (R13) or is an emergency scan (R12, R68). -/
inductive LocalClaim where
  | dial | emergencyScan
  deriving DecidableEq, Repr

/-- The outstanding request (R62). -/
inductive Request where
  | nothing | scan | dial (code : Nat) | drop
  deriving DecidableEq, Repr

/-- A message the part sends on a modem line (4.6). A DIAL's class is always EMERGENCY. -/
inductive ModemOut where
  | scan | dial (code : Nat) | drop | take | refuse
  deriving DecidableEq, Repr

structure SlotRec where
  state : SlotState
  /-- The module power output: true for raised. -/
  power : Bool
  grant : Holder
  waitingLocal : Option LocalClaim
  waitingCarry : List CarryId
  waitingScan : Bool
  request : Request
  deadline : Option Nat
  repeats : Nat
  /-- The repeated DIALs that wait for the modem line to be free (R81; log 13). -/
  repeatsDue : Nat
  /-- The first RING of this RINGING has been taken (R82). -/
  rung : Bool
  faultTimes : List Nat
  heartbeat : Option Nat
  idleTimer : Option Nat
  scanTimer : Option Nat
  restartTimer : Option Nat
  /-- The model's trace of the modem line: every message sent on it, oldest first (log 11). -/
  sent : List ModemOut
  deriving DecidableEq, Repr

structure Slc where
  a : SlotRec
  b : SlotRec
  deriving DecidableEq, Repr

/-! ### NWT (R46) and the quality counters (R43, R44) -/

/-- A quality counter with its decay timer (R44). -/
structure Quality where
  value : Nat
  decay : Option Nat
  deriving DecidableEq, Repr

structure NetEntry where
  code : Nat
  radio : RadioType
  level : Option Nat
  permitted : Bool
  quality : Quality
  barredUntil : Option Nat
  age : Nat
  deriving DecidableEq, Repr

structure Nwt where
  a : List NetEntry
  b : List NetEntry
  deriving DecidableEq, Repr

/-! ### NBT (R134) -/

inductive NeighbourState where
  | fresh | usable | stale
  deriving DecidableEq, Repr

inductive Supply where
  | ok | low | critical
  deriving DecidableEq, Repr

/-- A reach item (R134); `radio` is none where the code is none of the four types (R135; log 25). -/
structure ReachItem where
  code : Nat
  radio : Option RadioType
  level : Nat
  q : Nat
  deriving DecidableEq, Repr

/-- The peer filter action of a neighbour entry (R134). -/
inductive PeerAction where
  | normal | prefer
  deriving DecidableEq, Repr

/-- `state` is NEW (here `fresh`), USABLE or STALE. -/
structure NeighbourEntry where
  addr : Nat
  state : NeighbourState
  seq : Nat
  age : Nat
  capacity : Nat
  supply : Supply
  items : List ReachItem
  quality : Quality
  action : PeerAction
  deriving DecidableEq, Repr

/-! ### ADV (R128) -/

inductive AdvertTimer where
  | stopped | startWait (expires : Nat) | periodic (expires : Nat)
  deriving DecidableEq, Repr

/-- The last advertised best (R128). -/
inductive Advertised where
  | notYet | noItem | item (code level : Nat)
  deriving DecidableEq, Repr

structure Adv where
  seq : Nat
  timer : AdvertTimer
  lastBuild : Option Nat
  lastBest : Advertised
  early : Bool
  deriving DecidableEq, Repr

/-! ### RSL (R32, R38) and PLE (R1) -/

/-- The via of a route: a slot or a neighbour address (R1, R32). -/
inductive Via where
  | slot (sl : Slot) | box (addr : Nat)
  deriving DecidableEq, Repr

/-- A route: its via and its network code, absent for a callback's slot (R30). -/
structure Route where
  via : Via
  code : Option Nat
  deriving DecidableEq, Repr

/-- A route of the candidate list with its score and Q as computed at the build (R38). -/
structure Candidate where
  via : Via
  code : Nat
  score : Nat
  q : Nat
  deriving DecidableEq, Repr

inductive Origin where
  | button | handset | callback
  deriving DecidableEq, Repr

inductive CallState where
  | idle | bell | dialling | relaying | ringing | talking | waiting
  deriving DecidableEq, Repr

/-- The local call record with its timers, and the callback window beside it (R1). -/
structure Ple where
  callId : Nat
  origin : Origin
  state : CallState
  limitStart : Nat
  rounds : Nat
  attempts : Nat
  route : Option Route
  trunk : Option Trunk
  tried : List Route
  handsetLifted : Bool
  reachedTalking : Bool
  resumptions : Nat
  /-- The pause length in seconds. -/
  pauseLength : Nat
  talkRoute : Option Route
  talkSeconds : Nat
  answerTimer : Option Nat
  holdRefresh : Option Nat
  carrierSilence : Option Nat
  ringLimit : Option Nat
  pauseTimer : Option Nat
  bellTimer : Option Nat
  placementLimit : Option Nat
  /-- The slots whose claimed emergency scan has not ended (R12). -/
  awaited : List Slot
  /-- The callback window: none while closed, else its remaining seconds (R29). -/
  window : Option Nat
  deriving DecidableEq, Repr

/-! ### CYE (R89) and TKM (R112) -/

inductive CarryState where
  | queued | dialling | ringing | talking
  deriving DecidableEq, Repr

structure CarryRec where
  id : CarryId
  code : Nat
  slot : Slot
  trunk : Trunk
  state : CarryState
  dialSent : Bool
  queueTimer : Option Nat
  silence : Option Nat
  talkSeconds : Nat
  deriving DecidableEq, Repr

/-- A trunk entry with the fields its state calls for (R112). `refresh` is the hold refresh timer of the carry record
the entry belongs to (R116). -/
inductive TrunkEntry where
  | free
  | held (holder expires : Nat)
  | claiming (id : CarryId) (guard : Nat) (beaten : List Nat) (refresh : Nat)
  | owned (id : CarryId) (refresh : Nat)
  deriving DecidableEq, Repr

structure Tkm where
  t1 : TrunkEntry
  t2 : TrunkEntry
  t3 : TrunkEntry
  t4 : TrunkEntry
  deriving DecidableEq, Repr

/-! ### LNC (R142) -/

/-- The kind and payload of a frame (R144). REACH, SREP and LREP hold their payload bytes as built or received. -/
inductive Body where
  | reach (payload : List Byte)
  | creq (callId code : Nat)
  | cack (callId trunk : Nat)
  | cnak (callId : Nat) (reason : CnakReason)
  | cprg (callId : Nat) (stage : CprgStage)
  | cend (callId : Nat) (cause : CendCause)
  | thld (trunk holder partner callId : Nat)
  | tmov (callId oldTrunk newTrunk : Nat)
  | tfre (trunk : Nat)
  | sqry
  | srep (payload : List Byte)
  | lqry (index : Nat)
  | lrep (payload : List Byte)
  | erst
  deriving DecidableEq, Repr

/-- A frame as a block hands it to LNC: destination, kind and payload (R143). -/
structure TxFrame where
  dst : Nat
  body : Body
  deriving DecidableEq, Repr

inductive TxState where
  | idle | gap | sending | backoff
  deriving DecidableEq, Repr

structure Lnc where
  queue : List TxFrame
  tx : TxState
  inHand : Option TxFrame
  collisions : Nat
  backoff : Option Nat
  turn : Nat
  /-- The last byte of this box, or of a received frame that has ended (R149, R153). -/
  lastActive : Nat
  /-- The bytes of the other boxes in this run, heard already or to come: the time-base millisecond of each, in no order.
  A start-up draws them as a free value (log 24). The line idle time is the time since the last byte of the two fields
  that has been heard (R142, R153). -/
  heard : List Nat
  errors : Nat
  clash : Bool
  rng : Word16
  /-- The frame being sent is dropped at its end or next collision: an engine reset was taken in SENDING (R142). -/
  dropAfter : Bool
  /-- The model's trace of the corridor line: the bytes of every frame this box sent whole, oldest first (log 11). -/
  sent : List (List Byte)
  deriving DecidableEq, Repr

/-! ### SPM (R170), CFG (R176, R178) and SVC (R183) -/

structure Spm where
  level : Nat
  supply : Supply
  pendingSupply : Option Supply
  /-- The debounce count. -/
  count : Nat
  settling : Bool
  timer : Option Nat
  deriving DecidableEq, Repr

inductive FilterType where
  | off | range | pair | mask
  deriving DecidableEq, Repr

inductive FilterAction where
  | ignore | prefer
  deriving DecidableEq, Repr

/-- A peer filter entry (R159). -/
structure PeerFilter where
  type : FilterType
  a : Nat
  b : Nat
  action : FilterAction
  deriving DecidableEq, Repr

inductive Policy where
  | none | one | both
  deriving DecidableEq, Repr

/-- The configuration record as decoded (R178). -/
structure ConfigRecord where
  boxAddress : Nat
  segment : Nat
  fittedA : Bool
  fittedB : Bool
  advertInterval : Nat
  scanInterval : Nat
  relayPenalty : Nat
  policy : Policy
  lowThreshold : Nat
  carrying : Bool
  filters : List PeerFilter
  deriving DecidableEq, Repr

inductive LoadOutcome where
  | valid | defaulted
  deriving DecidableEq, Repr

inductive AddressState where
  | isolated | assigned (addr : Nat)
  deriving DecidableEq, Repr

structure Cfg where
  record : ConfigRecord
  load : LoadOutcome
  address : AddressState
  uptime : Nat
  deriving DecidableEq, Repr

inductive LogKind where
  | localCall | callback | carried
  deriving DecidableEq, Repr

inductive LogOutcome where
  | talked | callerCleared | noRoute | lost | failed (reason : CprgReason)
  deriving DecidableEq, Repr

structure LogRecord where
  callId : Nat
  kind : LogKind
  partner : Option Via
  code : Option Nat
  rounds : Nat
  attempts : Nat
  outcome : LogOutcome
  talkSeconds : Nat
  endUptime : Nat
  deriving DecidableEq, Repr

structure Svc where
  log : List LogRecord
  nextCallId : Nat
  deriving DecidableEq, Repr

end Sys2Proof.Machine

namespace Sys2Proof.Machine

/-- The whole machine. `pending` is the queue of the commands that wait, `choices` counts the free values drawn, block
orders and the bytes of the other boxes (logs 6, 24); both are the model's own. -/
structure State where
  phase : Phase
  clock : Clock
  cpi : Cpi
  xpt : Xpt
  slc : Slc
  nwt : Nwt
  nbt : List NeighbourEntry
  adv : Adv
  rsl : List Candidate
  ple : Ple
  cye : List CarryRec
  tkm : Tkm
  lnc : Lnc
  spm : Spm
  cfg : Cfg
  svc : Svc
  choices : Nat
  pending : List Instr
  deriving DecidableEq, Repr

/-! ### The values after reset, block by block -/

/-- R160 after a cold or brown-out reset. The button and hook states are learnt 50 ms after the start-up; until then
they hold RELEASED and ON_HOOK (log 4). -/
def resetCpi : Cpi :=
  { button := .released, hook := .onHook, buttonTimer := none, hookTimer := none, buttonWatch := none,
    hookWatch := none, bell := .silent, bellCadence := none, lamp := .off, lampLit := false, lampCadence := none,
    fastFlash := none, outLamp := false }

/-- R166 after any reset. -/
def resetXpt : Xpt := { joins := [], waiting := [], cue := .silent, cadence := none }

/-- R63: a slot with power lowered, no grant, no claims, nothing outstanding and every timer stopped. `st` is OFF for a
fitted slot and ABSENT for an unfitted one; `sent` is the trace of what its line has carried. -/
def resetSlot (st : SlotState) (sent : List ModemOut) : SlotRec :=
  { state := st, power := false, grant := .nobody, waitingLocal := none, waitingCarry := [], waitingScan := false,
    request := .nothing, deadline := none, repeats := 0, repeatsDue := 0, rung := false, faultTimes := [],
    heartbeat := none, idleTimer := none, scanTimer := none, restartTimer := none, sent := sent }

/-- R128 after a cold or brown-out reset, before the start-up starts the advert timer (R133). -/
def resetAdv : Adv := { seq := 0, timer := .stopped, lastBuild := none, lastBest := .notYet, early := false }

/-- R3: the record in IDLE and the callback window closed. Origin and limit start have no value there in the spec; they
hold BUTTON and 0 (log 4). -/
def resetPle : Ple :=
  { callId := 0, origin := .button, state := .idle, limitStart := 0, rounds := 0, attempts := 0, route := none,
    trunk := none, tried := [], handsetLifted := false, reachedTalking := false, resumptions := 0, pauseLength := 5,
    talkRoute := none, talkSeconds := 0, answerTimer := none, holdRefresh := none, carrierSilence := none,
    ringLimit := none, pauseTimer := none, bellTimer := none, placementLimit := none, awaited := [], window := none }

/-- R113 after any reset. -/
def resetTkm : Tkm := { t1 := .free, t2 := .free, t3 := .free, t4 := .free }

/-- R142 after a cold or brown-out reset. The generator is seeded at the start-up (R152) and holds 1 until then
(log 4). `sent` is the trace of the frames this box has sent. -/
def resetLnc (sent : List (List Byte)) : Lnc :=
  { queue := [], tx := .idle, inHand := none, collisions := 0, backoff := none, turn := 0, lastActive := 0, heard := [],
    errors := 0, clash := false, rng := 1, dropAfter := false, sent := sent }

/-- R170 after a cold or brown-out reset; `timer` is stopped after a cold reset and runs in the brown-out hold. -/
def resetSpm (timer : Option Nat) : Spm :=
  { level := 0, supply := .ok, pendingSupply := none, count := 0, settling := true, timer := timer }

/-- A peer filter entry of type OFF (R178's default). The values and the action that it holds are the model's (log 34);
an OFF entry matches no source, so nothing reads them. -/
def offFilter : PeerFilter := { type := .off, a := 0, b := 0, action := .ignore }

/-- The defaults of R178. The box address has none; the byte holds 0, which is no box's address. -/
def defaultRecord : ConfigRecord :=
  { boxAddress := 0, segment := 0, fittedA := true, fittedB := true, advertInterval := 30, scanInterval := 600,
    relayPenalty := 24, policy := .one, lowThreshold := 118, carrying := true,
    filters := [offFilter, offFilter, offFilter, offFilter] }

/-- CFG before the record is read, the uptime 0 included (log 4); the start-up sets every field afresh (R176). -/
def resetCfg : Cfg := { record := defaultRecord, load := .defaulted, address := .isolated, uptime := 0 }

/-- R183 after a cold reset. -/
def resetSvc : Svc := { log := [], nextCallId := 0 }

/-- The part just after a cold reset, still held by the reset pin (R181): every block at its cold values. A sender
brings it up with RESET_RELEASE and one of the two CONFIG_READ commands (log 3). -/
def State.reset : State :=
  { phase := .resetHeld, clock := { now := 0, second := 0 }, cpi := resetCpi, xpt := resetXpt,
    slc := { a := resetSlot .off [], b := resetSlot .off [] }, nwt := { a := [], b := [] }, nbt := [], adv := resetAdv,
    rsl := [], ple := resetPle, cye := [], tkm := resetTkm, lnc := resetLnc [], spm := resetSpm none, cfg := resetCfg,
    svc := resetSvc, choices := 0, pending := [] }

end Sys2Proof.Machine
end

