-- ==== Sys2Proof/Machine/Operands.lean ====
section
/-! DEFINITION. Operand forms: the codes of the frame fields (R144, R145), the frame as bytes and back (R143, R154 to
R156), the payload of a REACH and the making good of its values (R129, R135), the checks of a NETS (R48), and the
decoding of the configuration record (R177, R178). -/

namespace Sys2Proof.Machine

/-! ### Codes (R145) -/

/-- The trunk that a trunk field of 1..4 names (R118). -/
def trunkOf (n : Nat) : Option Trunk :=
  match n with
  | 1 => some .t1
  | 2 => some .t2
  | 3 => some .t3
  | 4 => some .t4
  | _ => none

/-- The number of a trunk. -/
def trunkNum : Trunk → Nat
  | .t1 => 1
  | .t2 => 2
  | .t3 => 3
  | .t4 => 4

def radioCode : RadioType → Nat
  | .g2 => 2
  | .g3 => 3
  | .g4 => 4
  | .g5 => 5

def radioOfCode (n : Nat) : Option RadioType :=
  match n with
  | 2 => some .g2
  | 3 => some .g3
  | 4 => some .g4
  | 5 => some .g5
  | _ => none

def supplyCode : Supply → Nat
  | .ok => 0
  | .low => 1
  | .critical => 2

def cnakCode : CnakReason → Nat
  | .full => 1
  | .noTrunk => 2
  | .noNetwork => 3
  | .notCarrying => 4
  | .supply => 5

def cnakOfCode (n : Nat) : Option CnakReason :=
  match n with
  | 1 => some .full
  | 2 => some .noTrunk
  | 3 => some .noNetwork
  | 4 => some .notCarrying
  | 5 => some .supply
  | _ => none

def cprgReasonCode : CprgReason → Nat
  | .noService => 1
  | .barred => 2
  | .rejected => 3
  | .timeout => 4
  | .retry => 5
  | .busy => 6
  | .lost => 7
  | .noTrunk => 8
  | .farCleared => 9

def cprgReasonOfCode (n : Nat) : Option CprgReason :=
  match n with
  | 1 => some .noService
  | 2 => some .barred
  | 3 => some .rejected
  | 4 => some .timeout
  | 5 => some .retry
  | 6 => some .busy
  | 7 => some .lost
  | 8 => some .noTrunk
  | 9 => some .farCleared
  | _ => none

/-- The stage byte of a CPRG. -/
def stageCode : CprgStage → Nat
  | .ringing => 1
  | .talking => 2
  | .failed _ => 3

/-- The reason byte of a CPRG: 0 with RINGING and TALKING (R144). -/
def stageReasonCode : CprgStage → Nat
  | .ringing => 0
  | .talking => 0
  | .failed r => cprgReasonCode r

/-- The stage that a stage byte and a reason byte name; the reason is read with FAILED only (R144, R156). -/
def stageOfCodes (stage reason : Nat) : Option CprgStage :=
  match stage with
  | 1 => some .ringing
  | 2 => some .talking
  | 3 => (cprgReasonOfCode reason).map .failed
  | _ => none

def cendCode : CendCause → Nat
  | .callerCleared => 1
  | .lost => 3
  | .limit => 4

def cendOfCode (n : Nat) : Option CendCause :=
  match n with
  | 1 => some .callerCleared
  | 3 => some .lost
  | 4 => some .limit
  | _ => none

def slotStateCode : SlotState → Nat
  | .absent => 0
  | .off => 1
  | .warming => 2
  | .idle => 3
  | .scanning => 4
  | .dialling => 5
  | .ringing => 6
  | .talking => 7
  | .clearing => 8
  | .offered => 9
  | .restarting => 10
  | .disabled => 11

def callStateCode : CallState → Nat
  | .idle => 0
  | .bell => 1
  | .dialling => 2
  | .relaying => 3
  | .ringing => 4
  | .talking => 5
  | .waiting => 6

def trunkStateCode : TrunkEntry → Nat
  | .free => 0
  | .held _ _ => 1
  | .claiming _ _ _ _ => 2
  | .owned _ _ => 3

def logKindCode : LogKind → Nat
  | .localCall => 1
  | .callback => 2
  | .carried => 3

def logOutcomeCode : LogOutcome → Nat
  | .talked => 1
  | .callerCleared => 2
  | .noRoute => 3
  | .lost => 4
  | .failed _ => 5

/-- The outcome reason byte: sent with FAILED, 0 otherwise (R146, R186). -/
def logReasonCode : LogOutcome → Nat
  | .failed r => cprgReasonCode r
  | _ => 0

/-- The log partner byte: 0 absent, a neighbour's address, 64 SLOT_A, 65 SLOT_B. -/
def partnerCode : Option Via → Nat
  | none => 0
  | some (.box n) => n
  | some (.slot .a) => 64
  | some (.slot .b) => 65

/-- The CPRG reason that a DNAK's reason becomes (R101). -/
def dnakToCprg : DnakReason → CprgReason
  | .noService => .noService
  | .barred => .barred
  | .rejected => .rejected

/-! ### Frames as bytes (R143, R144) -/

/-- The classes of the transmit queue (8.4); a tool's own frames have none, since the TNE-6 does not send them. -/
inductive FrameClass where
  | hold | call | reach | tool | unsent
  deriving DecidableEq, Repr

def bodyClass : Body → FrameClass
  | .reach _ => .reach
  | .creq _ _ | .cack _ _ | .cnak _ _ | .cprg _ _ | .cend _ _ | .tmov _ _ _ => .call
  | .thld _ _ _ _ | .tfre _ => .hold
  | .srep _ | .lrep _ => .tool
  | .sqry | .lqry _ | .erst => .unsent

def bodyKind : Body → Nat
  | .reach _ => 1
  | .creq _ _ => 2
  | .cack _ _ => 3
  | .cnak _ _ => 4
  | .cprg _ _ => 5
  | .cend _ _ => 6
  | .thld _ _ _ _ => 7
  | .tmov _ _ _ => 8
  | .tfre _ => 9
  | .sqry => 16
  | .srep _ => 17
  | .lqry _ => 18
  | .lrep _ => 19
  | .erst => 20

/-- The payload fields of R144, in order. -/
def bodyPayload : Body → List Byte
  | .reach p => p
  | .creq callId code => byteOf callId :: bytes3 code
  | .cack callId trunk => [byteOf callId, byteOf trunk]
  | .cnak callId r => [byteOf callId, byteOf (cnakCode r)]
  | .cprg callId st => [byteOf callId, byteOf (stageCode st), byteOf (stageReasonCode st)]
  | .cend callId c => [byteOf callId, byteOf (cendCode c)]
  | .thld trunk holder partner callId => [byteOf trunk, byteOf holder, byteOf partner, byteOf callId]
  | .tmov callId old new => [byteOf callId, byteOf old, byteOf new]
  | .tfre trunk => [byteOf trunk]
  | .sqry => []
  | .srep p => p
  | .lqry index => [byteOf index]
  | .lrep p => p
  | .erst => []

/-- The bytes under the check: segment id, destination, source, kind, payload length, payload (R143). -/
def frameBytes (h : Header) (kind : Nat) (payload : List Byte) : List Byte :=
  byteOf h.seg :: byteOf h.dst :: byteOf h.src :: byteOf kind :: byteOf payload.length :: payload

/-- The two bytes of the check, most significant first (R143). -/
def checkBytes (bytes : List Byte) : List Byte :=
  [byteOf ((frameCheck bytes).toNat / 256), byteOf (frameCheck bytes).toNat]

/-- A frame as it goes out on the line (R143). -/
def encodeFrame (h : Header) (b : Body) : List Byte :=
  frameBytes h (bodyKind b) (bodyPayload b) ++ checkBytes (frameBytes h (bodyKind b) (bodyPayload b))

/-- The fifth check (R156): the kind is one of R144, the payload length is that kind's, and the enumerated fields hold
listed codes. A REACH is passed with any payload length. -/
def parseBody (kind : Nat) (payload : List Byte) : Option Body :=
  match kind with
  | 1 => some (.reach payload)
  | 2 => match payload with
    | [c, x, y, z] => some (.creq c.toNat (num3 x y z))
    | _ => none
  | 3 => match payload with
    | [c, t] => some (.cack c.toNat t.toNat)
    | _ => none
  | 4 => match payload with
    | [c, r] => (cnakOfCode r.toNat).map (.cnak c.toNat)
    | _ => none
  | 5 => match payload with
    | [c, st, r] => (stageOfCodes st.toNat r.toNat).map (.cprg c.toNat)
    | _ => none
  | 6 => match payload with
    | [c, x] => (cendOfCode x.toNat).map (.cend c.toNat)
    | _ => none
  | 7 => match payload with
    | [t, h, p, c] => some (.thld t.toNat h.toNat p.toNat c.toNat)
    | _ => none
  | 8 => match payload with
    | [c, o, n] => some (.tmov c.toNat o.toNat n.toNat)
    | _ => none
  | 9 => match payload with
    | [t] => some (.tfre t.toNat)
    | _ => none
  | 16 => if payload = [] then some .sqry else none
  | 17 => if payload.length = 21 then some (.srep payload) else none
  | 18 => match payload with
    | [i] => some (.lqry i.toNat)
    | _ => none
  | 19 => if payload.length = 18 then some (.lrep payload) else none
  | 20 => if payload = [] then some .erst else none
  | _ => none

/-- What the five receive checks (R154, R155, R156) make of a received frame. -/
inductive FrameFate where
  /-- Fails the length or the check: dropped, and the line error count rises (R154). -/
  | damaged
  /-- Another segment's: dropped silently (R155). -/
  | otherSegment
  /-- Claims this box's address: dropped, and the address-clash flag is set (R155). -/
  | ownSource
  /-- A kind or field this box cannot read: dropped with no count (R156). -/
  | unreadable
  | passes (h : Header) (b : Body)
  deriving DecidableEq, Repr

/-- Checks 3 and 4 (R155): the segment, and the source against this box's own address, if it has one. -/
def headerFate (seg : Nat) (own : Option Nat) (h : Header) (b : Option Body) : FrameFate :=
  if h.seg ≠ seg then .otherSegment
  else if own = some h.src then .ownSource
  else match b with
    | some b => .passes h b
    | none => .unreadable

/-- The five checks in order over the bytes of a received frame (R154 to R156). -/
def frameFate (seg : Nat) (own : Option Nat) (bytes : List Byte) : FrameFate :=
  match bytes with
  | g :: d :: s :: k :: n :: rest =>
    if bytes.length = 7 + n.toNat ∧ n.toNat ≤ 40 then
      let payload := rest.take n.toNat
      let covered := g :: d :: s :: k :: n :: payload
      if rest.drop n.toNat = checkBytes covered then
        headerFate seg own { seg := g.toNat, dst := d.toNat, src := s.toNat } (parseBody k.toNat payload)
      else .damaged
    else .damaged
  | _ => .damaged

/-! ### REACH payloads (R129, R135, R144) -/

/-- The fields of a REACH as NBT takes them, made good (R135). -/
structure ReachAdvert where
  seq : Nat
  capacity : Nat
  supply : Supply
  localCall : Bool
  items : List ReachItem
  deriving DecidableEq, Repr

/-- The flags byte: the supply flag in the two least significant bits, the local-call flag above them (R144). -/
def reachFlags (supply : Supply) (localCall : Bool) : Nat := supplyCode supply + (if localCall then 4 else 0)

/-- One item of a REACH: network code, radio type, level, q (R144). A type that is none of the four is never sent. -/
def itemBytes (i : ReachItem) : List Byte :=
  bytes3 i.code ++ [byteOf ((i.radio.map radioCode).getD 0), byteOf i.level, byteOf i.q]

/-- The payload of a REACH (R144). -/
def reachPayload (r : ReachAdvert) : List Byte :=
  byteOf r.seq :: byteOf r.capacity :: byteOf (reachFlags r.supply r.localCall) :: byteOf r.items.length ::
    r.items.flatMap itemBytes

/-- R135: a supply flag value other than OK or LOW is taken as CRITICAL. -/
def supplyOfFlag (n : Nat) : Supply :=
  match n with
  | 0 => .ok
  | 1 => .low
  | _ => .critical

/-- The network codes there are (00 "Network codes"). -/
def isNetworkCode (n : Nat) : Bool := 10000 ≤ n && n ≤ 999999

/-- R135: the items of a payload, six bytes each; none where the bytes do not agree with the item count. A code out of
range drops the item; a level above 31 is taken as 31 and a q above 15 as 15. -/
def readItems : Nat → List Byte → Option (List ReachItem)
  | 0, [] => some []
  | n + 1, x :: y :: z :: t :: l :: q :: rest =>
    (readItems n rest).map fun items =>
      if isNetworkCode (num3 x y z) then
        { code := num3 x y z, radio := radioOfCode t.toNat, level := min l.toNat 31, q := min q.toNat 15 } :: items
      else items
  | _, _ => none

/-- R135: the shape check (an item count of at most 4 that agrees with the payload length) and the making good of the
values; none where the shape fails. -/
def readReach (payload : List Byte) : Option ReachAdvert :=
  match payload with
  | s :: c :: f :: n :: rest =>
    if n.toNat ≤ 4 then
      (readItems n.toNat rest).map fun items =>
        { seq := s.toNat, capacity := min c.toNat 3, supply := supplyOfFlag (f.toNat % 4),
          localCall := f.getLsbD 2, items := items }
    else none
  | _ => none

/-! ### NETS (R48) -/

/-- An item of a NETS that passes the checks of R48, with its level taken as at most 31. -/
structure GoodItem where
  code : Nat
  radio : RadioType
  level : Option Nat
  permitted : Bool
  deriving DecidableEq, Repr

/-- R48: the items kept, in message order. `seen` holds the codes of the earlier items that were not dropped. -/
def goodItems (seen : List Nat) : List NetItem → List GoodItem
  | [] => []
  | i :: rest =>
    match i.radio with
    | some t =>
      if isNetworkCode i.code && !seen.contains i.code then
        { code := i.code, radio := t, level := i.level.map (min · 31), permitted := i.permitted } ::
          goodItems (i.code :: seen) rest
      else goodItems seen rest
    | none => goodItems seen rest

/-! ### The configuration record (R177, R178) -/

/-- R178: a numeric value outside its range is clamped to the nearest end. -/
def clamp (lo hi n : Nat) : Nat := max lo (min hi n)

/-- R177: the sum of all 32 bytes modulo 256 is 0. -/
def sumIsZero (bytes : List Byte) : Bool := (bytes.map BitVec.toNat).sum % 256 == 0

/-- R178: one peer filter entry of four bytes. A type or action code not listed makes the entry OFF, with the values of
its bytes and the action IGNORE, which nothing reads (log 34). -/
def decodeFilter (t a b x : Byte) : PeerFilter :=
  let type? : Option FilterType :=
    match t.toNat with
    | 0 => some .off
    | 1 => some .range
    | 2 => some .pair
    | 3 => some .mask
    | _ => none
  let action? : Option FilterAction :=
    match x.toNat with
    | 0 => some .ignore
    | 1 => some .prefer
    | _ => none
  match type?, action? with
  | some type, some action => { type := type, a := min a.toNat 63, b := min b.toNat 63, action := action }
  | _, _ => { type := .off, a := min a.toNat 63, b := min b.toNat 63, action := .ignore }

/-- R178: four bytes an entry, entries in order. -/
def decodeFilters : Nat → List Byte → List PeerFilter
  | n + 1, t :: a :: b :: x :: rest => decodeFilter t a b x :: decodeFilters n rest
  | _, _ => []

/-- R178: the standby policy. -/
def decodePolicy (n : Nat) : Policy :=
  match n with
  | 0 => .none
  | 2 => .both
  | _ => .one

/-- R178: the fields of a valid record in the order they stand; none where there are not 32 bytes. -/
def decodeRecord (bytes : List Byte) : Option ConfigRecord :=
  match bytes with
  | addr :: seg :: fitted :: adv :: s1 :: s0 :: pen :: pol :: thr :: car :: rest =>
    if rest.length = 22 then
      some { boxAddress := addr.toNat
             segment := seg.toNat
             fittedA := fitted.toNat ≠ 0 ∧ fitted.toNat ≠ 2
             fittedB := fitted.toNat ≠ 0 ∧ fitted.toNat ≠ 1
             advertInterval := clamp 10 120 adv.toNat
             scanInterval := clamp 300 3600 (num2 s1 s0)
             relayPenalty := clamp 0 63 pen.toNat
             policy := decodePolicy pol.toNat
             lowThreshold := clamp 100 140 thr.toNat
             carrying := car.toNat ≠ 0
             filters := decodeFilters 4 rest }
    else none
  | _ => none

/-- CFG after the read of the record has ended (R177, R178, R179, R180): `bytes` is none where the read deadline
expired. ASSIGNED where the outcome is VALID and the box address lies in 1..62. -/
def cfgOfRead (bytes : Option (List Byte)) : Cfg :=
  match bytes with
  | some bs =>
    match (if sumIsZero bs then decodeRecord bs else none) with
    | some r =>
      { record := r, load := .valid,
        address := if 1 ≤ r.boxAddress ∧ r.boxAddress ≤ 62 then .assigned r.boxAddress else .isolated, uptime := 0 }
    | none => resetCfg
  | none => resetCfg

/-! ### Peer filters (R159) -/

/-- Whether a source address matches one entry (R159). Addresses and masks are six bits. -/
def filterMatches (f : PeerFilter) (src : Nat) : Bool :=
  match f.type with
  | .off => false
  | .range => f.a ≤ src && src ≤ f.b
  | .pair => src == f.a || src == f.b
  | .mask => (src &&& f.b) == (f.a &&& f.b)

/-- The action of the first entry a source matches, in order; none is NORMAL (R159, R141). -/
def filterAction (fs : List PeerFilter) (src : Nat) : Option FilterAction :=
  (fs.find? fun f => filterMatches f src).map PeerFilter.action

end Sys2Proof.Machine
end

