-- ==== Sys2Proof/Machine/Flags.lean ====
section
/-! DEFINITION. The conditions the blocks read from the state: address state, bars, slot conditions, the standby policy
in force, whether the box is busy, the supply thresholds, and the outputs that follow from the state. -/

namespace Sys2Proof.Machine

/-! ### The records of the two slots and the four trunks -/

def State.slot (s : State) : Slot → SlotRec
  | .a => s.slc.a
  | .b => s.slc.b

def otherSlot : Slot → Slot
  | .a => .b
  | .b => .a

def State.table (s : State) : Slot → List NetEntry
  | .a => s.nwt.a
  | .b => s.nwt.b

def Tkm.get (m : Tkm) : Trunk → TrunkEntry
  | .t1 => m.t1
  | .t2 => m.t2
  | .t3 => m.t3
  | .t4 => m.t4

def Tkm.set (m : Tkm) (t : Trunk) (e : TrunkEntry) : Tkm :=
  match t with
  | .t1 => { m with t1 := e }
  | .t2 => { m with t2 := e }
  | .t3 => { m with t3 := e }
  | .t4 => { m with t4 := e }

/-! ### Configuration (R178, R179) -/

/-- This box's own address; none in the ISOLATED state (R179). -/
def State.own (s : State) : Option Nat :=
  match s.cfg.address with
  | .assigned n => some n
  | .isolated => none

/-- The source address this box puts in its frames and in the frames' fields; read only where it is ASSIGNED. -/
def State.ownNum (s : State) : Nat := s.own.getD 0

def ConfigRecord.fitted (r : ConfigRecord) : Slot → Bool
  | .a => r.fittedA
  | .b => r.fittedB

/-! ### Network entries (R54, R55, R57) -/

/-- R57: barred while barred-until is present and the uptime is below it. A bar whose end the uptime has reached, and
whose BAR_EXPIRY has still to be taken, bars no more (log 32). -/
def isBarred (uptime : Nat) (e : NetEntry) : Bool :=
  match e.barredUntil with
  | some u => uptime < u
  | none => false

/-- An entry that may be dialled or offered: not barred, and emergency-permitted (R55, R57). -/
def isServing (uptime : Nat) (e : NetEntry) : Bool := !isBarred uptime e && e.permitted

def findEntry (table : List NetEntry) (code : Nat) : Option NetEntry := table.find? fun e => e.code == code

/-! ### Slot conditions -/

/-- R165, R111: the slot is ABSENT or DISABLED. -/
def isOut : SlotState → Bool
  | .absent | .disabled => true
  | _ => false

/-- R39, R92: the slot is ABSENT, DISABLED or RESTARTING. -/
def isExcluded : SlotState → Bool
  | .absent | .disabled | .restarting => true
  | _ => false

/-- R65: powered and past warm-up, the states in which the heartbeat watch runs. -/
def isPastWarmUp : SlotState → Bool
  | .idle | .scanning | .dialling | .ringing | .talking | .clearing | .offered => true
  | _ => false

/-- R12: the states in which PLE claims an emergency scan. -/
def takesEmergencyScan : SlotState → Bool
  | .off | .idle | .warming => true
  | _ => false

/-- R71: the condition under which the idle timer runs. -/
def SlotRec.isUnused (r : SlotRec) : Bool :=
  r.state == .idle && r.grant == .nobody && r.waitingLocal.isNone && r.waitingCarry.isEmpty && !r.waitingScan

/-- R13: the grant is held by a carry record. -/
def Holder.isCarry : Holder → Bool
  | .carry _ => true
  | _ => false

/-- R71: the configured policy while the supply state is OK, NONE otherwise. -/
def State.policyInForce (s : State) : Policy := if s.spm.supply = .ok then s.cfg.record.policy else .none

/-- R71: the slots the policy in force keeps. -/
def State.keeps (s : State) (sl : Slot) : Bool :=
  match s.policyInForce, sl with
  | .none, _ => false
  | .both, _ => true
  | .one, .a => true
  | .one, .b => isOut s.slc.a.state

/-- R72: the scan timer's length in force, in ms; none while the supply state is CRITICAL. -/
def State.scanLength (s : State) : Option Nat :=
  match s.spm.supply with
  | .ok => some (s.cfg.record.scanInterval * 1000)
  | .low => some (2 * s.cfg.record.scanInterval * 1000)
  | .critical => none

/-! ### The local call and the carries -/

/-- R171: the box is busy while the local call record is not IDLE or the carry queue holds a record. -/
def State.isBusy (s : State) : Bool := s.ple.state != .idle || !s.cye.isEmpty

/-- R162: the hook state reads as lifted in LIFTED and REPLACE_PENDING. -/
def hookReadsLifted : HookState → Bool
  | .lifted | .replacePending => true
  | .onHook | .liftPending => false

def findCarry (queue : List CarryRec) (id : CarryId) : Option CarryRec := queue.find? fun c => c.id == id

/-- The neighbour address of the relay attempt in hand (R17): the record in RELAYING, RINGING or TALKING on a route
through a neighbour. -/
def Ple.relayCarrier (p : Ple) : Option Nat :=
  match p.state, p.route with
  | .relaying, some ⟨.box n, _⟩ => some n
  | .ringing, some ⟨.box n, _⟩ => some n
  | .talking, some ⟨.box n, _⟩ => some n
  | _, _ => none

/-- R17: the frame's source is the current route's neighbour and its call id the record's. -/
def Ple.isMatch (p : Ple) (src callId : Nat) : Bool := p.relayCarrier == some src && p.callId == callId

/-! ### Supply (R172, R173, R174) -/

/-- R174: a sample below 95 triggers a brown-out reset, and one of 105 or more ends the hold. -/
def brownOutLevel : Nat := 95
def recoveryLevel : Nat := 105

/-- R172: the state a sample points to, or none. `low` is the LOW threshold. -/
def pointsTo (low : Nat) (st : Supply) (level : Nat) : Option Supply :=
  match st with
  | .ok => if level < low then some .low else none
  | .low => if level < 108 then some .critical else if low + 4 ≤ level then some .ok else none
  | .critical => if 112 ≤ level then some .low else none

/-- R173: the state set from the two settling samples. -/
def settledSupply (low first second : Nat) : Supply :=
  if first < 108 ∧ second < 108 then .critical
  else if first < low ∧ second < low then .low
  else .ok

/-! ### Status bits -/

/-- The status flags byte of an SREP (R146): ISOLATED, DEFAULTED, address clash, reset refused. -/
def State.statusFlags (s : State) (refused : Bool) : Nat :=
  (if s.own.isNone then 1 else 0) + (if s.cfg.load = .defaulted then 2 else 0) + (if s.lnc.clash then 4 else 0) +
    (if refused then 8 else 0)

/-! ### Outputs that follow from the state -/

/-- R163: the bell output is driven. -/
def State.bellOutput (s : State) : Bool := s.cpi.bell == .ringing true

/-- R164: the CALL lamp is lit. -/
def State.callLamp (s : State) : Bool := s.cpi.lampLit

/-- R162: the handset audio pair goes to the handset's earpiece and microphone; else to the hands-free pair. -/
def State.handsetInUse (s : State) : Bool := hookReadsLifted s.cpi.hook

/-- R153: when the last byte was heard on the line, as the time base stands. A byte of another box comes before what
else happens in its millisecond (log 10). -/
def State.lastByte (s : State) : Nat :=
  s.lnc.heard.foldl (fun last b => if b ≤ s.clock.now then max last b else last) s.lnc.lastActive

/-- R142: the line idle time. While this box sends, its own bytes keep it at 0, with less than 1 ms of quiet between
them (R149, R153). -/
def State.lineIdle (s : State) : Nat := if s.lnc.tx = .sending then 0 else s.clock.now - s.lastByte

end Sys2Proof.Machine
end

