-- ==== Sys2Proof/Machine/Ops.lean ====
section
/-! DEFINITION. Shared operations: replacing one block of the state, the time base and timer expiries (R180), quality
counters (R43, R44), the crosspoint (R166 to R169), the call point's outputs (R163 to R165), the transmit queue and
transmitter (R147 to R152), the call log (R184) and the receive checks of a frame command (R155, R157). -/

namespace Sys2Proof.Machine

/-! ### Replacing one block -/

def State.withClock (s : State) (x : Clock) : State := { s with clock := x }
def State.withCpi (s : State) (x : Cpi) : State := { s with cpi := x }
def State.withXpt (s : State) (x : Xpt) : State := { s with xpt := x }
def State.withSlc (s : State) (x : Slc) : State := { s with slc := x }
def State.withNwt (s : State) (x : Nwt) : State := { s with nwt := x }
def State.withNbt (s : State) (x : List NeighbourEntry) : State := { s with nbt := x }
def State.withAdv (s : State) (x : Adv) : State := { s with adv := x }
def State.withRsl (s : State) (x : List Candidate) : State := { s with rsl := x }
def State.withPle (s : State) (x : Ple) : State := { s with ple := x }
def State.withCye (s : State) (x : List CarryRec) : State := { s with cye := x }
def State.withTkm (s : State) (x : Tkm) : State := { s with tkm := x }
def State.withLnc (s : State) (x : Lnc) : State := { s with lnc := x }
def State.withSpm (s : State) (x : Spm) : State := { s with spm := x }
def State.withCfg (s : State) (x : Cfg) : State := { s with cfg := x }
def State.withSvc (s : State) (x : Svc) : State := { s with svc := x }
def State.withChoices (s : State) (x : Nat) : State := { s with choices := x }

/-- The network table of one slot replaced; the other slot's stands (R52). -/
def State.withTable (s : State) (sl : Slot) (es : List NetEntry) : State :=
  match sl with
  | .a => s.withNwt { s.nwt with a := es }
  | .b => s.withNwt { s.nwt with b := es }

/-! ### The time base (R180) -/

/-- An event from outside comes at millisecond `ms` of the present second, and never before what has happened. -/
def State.arrive (s : State) (ms : Nat) : State :=
  s.withClock { s.clock with now := max s.clock.now (s.clock.second + min ms 999) }

/-- A time-base instant lies in the present second or before it. One at the next whole second is reached after the
uptime's step to that second, since the uptime is the time base's whole-second part (R180). -/
def State.isDue (s : State) (at_ : Nat) : Bool := at_ < s.clock.second + 1000

/-- The time base stands at `at_`, or later where later events have been taken. -/
def State.advanceTo (s : State) (at_ : Nat) : State := s.withClock { s.clock with now := max s.clock.now at_ }

/-- A timer expires: it runs and is due, and the effect is taken at its end. A stopped timer, or one not yet due, does
not expire, and the command changes nothing (log 2). -/
def State.expire (s : State) (timer : Option Nat) (effect : State → State) : State :=
  match timer with
  | some at_ => if s.isDue at_ then effect (s.advanceTo at_) else s
  | none => s

/-- An event from outside is taken only while the part runs (R174, R177, R181; log 5). -/
def State.whenRunning (s : State) (effect : State → State) : State :=
  if s.phase = .running then effect s else s

/-! ### Quality counters (R43, R44) -/

/-- R43: what an outcome report does to a counter. -/
inductive Report where
  | failure | credit | noChange
  deriving DecidableEq, Repr

/-- R44: on a change of value the decay timer restarts, or stops at 0; a value left as it was leaves the timer. -/
def Quality.change (q : Quality) (now value : Nat) : Quality :=
  if value = q.value then q else { value := value, decay := if value = 0 then none else some (now + decayMs) }

/-- The decay timer's end has come, and its expiry has still to be taken. -/
def Quality.isDue (q : Quality) (now : Nat) : Bool :=
  match q.decay with
  | some at_ => at_ ≤ now
  | none => false

/-- R44: the value a report gives. A decay that came due with the report, or before it, is not lost: its expiry is
still to be taken, and restarts the timer then (log 35). A value of 0 stops the timer, and no expiry follows. -/
def Quality.reported (q : Quality) (now value : Nat) : Quality :=
  if q.isDue now ∧ value ≠ 0 then { q with value := value } else q.change now value

/-- R43: a failure adds 2 up to 15, a connection credit takes 3 down to 0. -/
def Quality.report (q : Quality) (now : Nat) : Report → Quality
  | .failure => q.reported now (min 15 (q.value + 2))
  | .credit => q.reported now (q.value - 3)
  | .noChange => q

/-- R44: decay takes 1. -/
def Quality.decayed (q : Quality) (now : Nat) : Quality := q.change now (q.value - 1)

/-- R45: a counter as an entry is made. -/
def freshQuality : Quality := { value := 0, decay := none }

/-! ### The crosspoint (R166 to R169) -/

def Join.has (j : Join) (e : Endpoint) : Bool := j.x == e || j.y == e

/-- The same two endpoints; a connection has no direction (00 "Endpoints"). -/
def Join.samePair (j k : Join) : Bool := (j.x == k.x && j.y == k.y) || (j.x == k.y && j.y == k.x)

/-- R167 step 5: an endpoint in a connection of another owner. -/
def Xpt.isTaken (x : Xpt) (owner : Owner) (e : Endpoint) : Bool := x.joins.any fun j => j.owner != owner && j.has e

/-- R167 step 4 may be taken for a join. -/
def Xpt.canMake (x : Xpt) (j : Join) : Bool := !x.isTaken j.owner j.x && !x.isTaken j.owner j.y

/-- R167 step 4: the owner's own connection is broken and the new one made. -/
def Xpt.make (x : Xpt) (j : Join) : Xpt := { x with joins := x.joins.filter (fun k => k.owner != j.owner) ++ [j] }

/-- R168: the oldest waiting joins that can now be made are made, looking again after each. The bound is the number of
waiting joins, and each made join leaves the list. -/
def Xpt.serveWaiting : Nat → Xpt → Xpt
  | 0, x => x
  | n + 1, x =>
    match x.waiting.find? x.canMake with
    | some j => Xpt.serveWaiting n ({ x with waiting := x.waiting.filter fun k => k.owner != j.owner }.make j)
    | none => x

/-- HANDSET is joined to TONE. -/
def Xpt.hasTone (x : Xpt) : Bool := x.joins.any fun j => j.has .tone

/-- A connection to TONE that stood stands on. -/
def Xpt.keepsTone (old new : Xpt) : Bool := old.joins.any fun j => j.has .tone && new.joins.contains j

/-- R169: the cue starts when a connection to TONE is made and ends when it is broken; one that stands runs on. -/
def Xpt.cueAfter (old new : Xpt) (now : Nat) : Xpt :=
  if new.hasTone then
    (if old.keepsTone new then new else { new with cue := .connecting true, cadence := some (now + toneOnMs) })
  else { new with cue := .silent, cadence := none }

/-- R167 step 1: the pairs XPT does not join. -/
def isJoinable (x y : Endpoint) : Bool :=
  x != y && (x != .tone || y == .handset) && (y != .tone || x == .handset)

/-- R167: an owner asks to join two endpoints. -/
def Xpt.join (x : Xpt) (j : Join) (now : Nat) : Xpt :=
  if isJoinable j.x j.y then
    let quiet := { x with waiting := x.waiting.filter fun k => k.owner != j.owner }
    if x.joins.any (fun k => k.owner == j.owner && k.samePair j) then quiet
    else if quiet.canMake j then x.cueAfter ((quiet.make j).serveWaiting quiet.waiting.length) now
    else { quiet with waiting := quiet.waiting ++ [j] }
  else x

/-- R168: an owner asks to break its join. -/
def Xpt.break (x : Xpt) (owner : Owner) (now : Nat) : Xpt :=
  let cut := { x with joins := x.joins.filter (fun k => k.owner != owner),
                      waiting := x.waiting.filter fun k => k.owner != owner }
  if x.joins.any (fun k => k.owner == owner) then x.cueAfter (cut.serveWaiting cut.waiting.length) now else cut

def State.xptJoin (s : State) (owner : Owner) (x y : Endpoint) : State :=
  s.withXpt (s.xpt.join { x := x, y := y, owner := owner } s.clock.now)

def State.xptBreak (s : State) (owner : Owner) : State := s.withXpt (s.xpt.break owner s.clock.now)

/-- PLE asks for HANDSET to TONE with cue CONNECTING (R11, R13, R17, R26). -/
def State.joinTone (s : State) : State := s.xptJoin .localCall .handset .tone

/-! ### The call point's outputs (R163 to R165) -/

/-- R164: a lamp mode is entered with its lit phase; the mode in force runs on. -/
def Cpi.setLamp (c : Cpi) (mode : LampMode) (now : Nat) : Cpi :=
  if c.lamp = mode then c
  else
    { c with
      lamp := mode
      lampLit := mode != .off
      lampCadence :=
        match mode with
        | .slow => some (now + lampSlowMs)
        | .fast => some (now + lampFastMs)
        | .off | .steady => none }

/-- R164: the lamp mode of each record state. -/
def lampOf : CallState → LampMode
  | .idle | .bell => .off
  | .dialling | .relaying | .ringing | .waiting => .slow
  | .talking => .steady

/-- R163: a ring request. -/
def Cpi.ringBell (c : Cpi) (now : Nat) : Cpi :=
  match c.bell with
  | .silent => { c with bell := .ringing true, bellCadence := some (now + bellOnMs) }
  | .ringing _ => c

/-- R163: a stop request. -/
def Cpi.stopBell (c : Cpi) : Cpi := { c with bell := .silent, bellCadence := none }

/-- R165: the OUT lamp is lit while both slots are ABSENT or DISABLED. -/
def State.setOutLamp (s : State) : State :=
  s.withCpi { s.cpi with outLamp := isOut s.slc.a.state && isOut s.slc.b.state }

/-- R171: the box becomes busy; a sample timer with more than 10 s left is cut to 10 s. -/
def State.cutSampleTimer (s : State) : State :=
  s.withSpm { s.spm with timer := s.spm.timer.map fun d => min d (s.clock.now + sampleFastMs) }

/-- The record enters a state other than IDLE; CPI sets the lamp and ends a fast flash (R164), and the box becomes busy
where the record leaves IDLE (R171). -/
def State.enterCallState (s : State) (st : CallState) : State :=
  let s' := if s.ple.state = .idle then s.cutSampleTimer else s
  (s'.withPle { s'.ple with state := st }).withCpi
    ({ s'.cpi with fastFlash := none }.setLamp (lampOf st) s'.clock.now)

/-! ### The transmit queue and the transmitter (R147 to R152) -/

def TxFrame.frameClass (f : TxFrame) : FrameClass := bodyClass f.body

def isClass (c : FrameClass) (f : TxFrame) : Bool := f.frameClass == c

/-- The first frame that satisfies `p` is taken out. -/
def dropFirst (p : TxFrame → Bool) : List TxFrame → List TxFrame
  | [] => []
  | f :: fs => if p f then fs else f :: dropFirst p fs

/-- R147: what the queue becomes when a frame is handed to LNC. -/
def enqueue (queue : List TxFrame) (f : TxFrame) : List TxFrame :=
  match f.frameClass with
  | .reach =>
    if queue.any (isClass .reach) then dropFirst (isClass .reach) queue ++ [f]
    else if queue.length < 8 then queue ++ [f] else queue
  | .tool => if queue.length < 8 then queue ++ [f] else queue
  | .hold | .call =>
    if queue.length < 8 then queue ++ [f]
    else if queue.any (isClass .tool) then dropFirst (isClass .tool) queue ++ [f]
    else if queue.any (isClass .reach) then dropFirst (isClass .reach) queue ++ [f]
    else queue
  | .unsent => queue

/-- R148: the class the transmitter takes next; none from an empty queue. -/
def nextClass (queue : List TxFrame) (turn : Nat) : Option FrameClass :=
  if turn = 4 ∧ queue.any (isClass .reach) then some .reach
  else if queue.any (isClass .hold) then some .hold
  else if queue.any (isClass .call) then some .call
  else if queue.any (isClass .reach) then some .reach
  else if queue.any (isClass .tool) then some .tool
  else none

/-- R148: the turn count after a take of class `c` from `queue`. -/
def turnAfter (queue : List TxFrame) (turn : Nat) (c : FrameClass) : Nat :=
  match c with
  | .hold | .call => if queue.any (isClass .reach) then turn + 1 else 0
  | _ => 0

/-- R149: an IDLE transmitter takes a frame by R148, sets the collision count to 0 and enters GAP. -/
def Lnc.takeFrame (l : Lnc) : Lnc :=
  if l.tx = .idle then
    match nextClass l.queue l.turn with
    | some c =>
      { l with
        tx := .gap
        inHand := l.queue.find? (isClass c)
        queue := dropFirst (isClass c) l.queue
        collisions := 0
        turn := turnAfter l.queue l.turn c }
    | none => l
  else l

/-- A byte of this box is on the line now: the line idle time starts again (R149, R153). -/
def State.lineActive (s : State) : State := s.withLnc { s.lnc with lastActive := s.clock.now }

/-- R149: the transmitter enters SENDING, and its first byte makes the line active (R153). -/
def State.beginSending (s : State) : State := (s.withLnc { s.lnc with tx := .sending }).lineActive

/-- R149: a transmitter that has just entered GAP begins to send at once where the line idle time stands at 2 ms or
more. -/
def State.sendIfQuiet (s : State) : State := if s.lnc.tx = .gap ∧ lineGapMs ≤ s.lineIdle then s.beginSending else s

/-- A block hands LNC a frame (R147), and an IDLE transmitter takes it (R149). An ISOLATED box discards it. -/
def State.hand (s : State) (dst : Nat) (body : Body) : State :=
  match s.own with
  | some _ =>
    let s' := s.withLnc { s.lnc with queue := enqueue s.lnc.queue { dst := dst, body := body } }
    if s.lnc.tx = .idle then (s'.withLnc s'.lnc.takeFrame).sendIfQuiet else s'
  | none => s

/-- R152: a draw takes one step; the value drawn is the register's new value. -/
def State.draw (s : State) : State := s.withLnc { s.lnc with rng := rngStep s.lnc.rng }

/-- The transmitter is done with the frame in hand and enters IDLE, where it takes the next (R149, R151). R151 sets the
collision count to 0 as a frame is dropped; that it is 0 as a frame is sent too, and not only from the next take on, is
the model's choice (log 40). -/
def Lnc.finishFrame (l : Lnc) : Lnc :=
  { l with tx := .idle, inHand := none, collisions := 0, dropAfter := false }.takeFrame

/-! ### The call log (R184) -/

/-- R184: the new record takes index 0; the 33rd is lost. -/
def State.logAppend (s : State) (r : LogRecord) : State :=
  s.withSvc { s.svc with log := (r :: s.svc.log).take 32 }

/-! ### Received frames (R153, R155, R157) -/

/-- A received frame ended 1 ms after its last byte (R153). -/
def State.frameHeard (s : State) (ms : Nat) : State :=
  let s' := s.arrive ms
  s'.withLnc { s'.lnc with lastActive := max s'.lnc.lastActive (s'.clock.now - frameEndMs) }

/-- What is left of a frame that a check drops (R154 to R156). -/
def State.dropFrame (s : State) : FrameFate → State
  | .damaged => s.withLnc { s.lnc with errors := min 65535 (s.lnc.errors + 1) }
  | .ownSource => s.withLnc { s.lnc with clash := true }
  | .otherSegment | .unreadable | .passes _ _ => s

/-- A frame command: the frame is heard while the part runs, passes the segment and source checks (R155), and is
dispatched where its source lies in 1..63 (R157). -/
def State.receive (s : State) (h : Header) (body : Body) (ms : Nat) (take : State → State) : State :=
  s.whenRunning fun s =>
    let s' := s.frameHeard ms
    match headerFate s'.cfg.record.segment s'.own h (some body) with
    | .passes _ _ => if 1 ≤ h.src ∧ h.src ≤ 63 then take s' else s'
    | fate => s'.dropFrame fate

/-- R157: the destination is this box's own address. -/
def State.isMine (s : State) (h : Header) : Bool := s.own == some h.dst

/-- R157: the destination is this box's own address or all boxes. -/
def State.isMineOrAll (s : State) (h : Header) : Bool := s.isMine h || h.dst == 0

end Sys2Proof.Machine
end

