-- ==== Sys2Proof/Machine/Routes.lean ====
section
/-! DEFINITION. The route selector RSL: the route score and the candidate list (R32 to R42). -/

namespace Sys2Proof.Machine

/-! ### The score (R33 to R37) -/

/-- R33: the signal level L of a network entry; absent is taken as 8. -/
def scoreLevel (level : Option Nat) : Nat := level.getD 8

/-- R33: the radio type bonus T; a type that is none of the four scores 0. -/
def typeBonus : Option RadioType → Nat
  | some .g2 => 0
  | some .g3 => 2
  | some .g4 => 4
  | some .g5 => 6
  | none => 0

/-- R34: floor(A/30) capped at 40. -/
def agePenalty (age : Nat) : Nat := min (age / 30) 40

/-- R36 step 1: raw = 4L + T − 5Q − min(floor(A/30), 40) − P − S. -/
def rawScore (l t q age p s : Nat) : Int :=
  4 * (l : Int) + t - 5 * q - agePenalty age - p - s

/-- R36 step 2: raw where it is 0 or more, and 0 below. -/
def routeScore (l t q age p s : Nat) : Nat := (rawScore l t q age p s).toNat

/-- R37: the own score of a network entry: P and S both 0. -/
def ownScore (e : NetEntry) : Nat :=
  routeScore (scoreLevel e.level) (typeBonus (some e.radio)) e.quality.value e.age 0 0

/-- R35: the relay penalty P. -/
def relayPenalty (r : Nat) : PeerAction → Nat
  | .normal => r
  | .prefer => r / 2

/-- R35: the supply penalty S of a relay route. -/
def supplyPenalty : Supply → Nat
  | .low => 10
  | .ok | .critical => 0

/-- R34: the Q of a relay route: the greater of the item's q and the carry quality counter. -/
def relayQ (n : NeighbourEntry) (i : ReachItem) : Nat := max i.q n.quality.value

/-! ### Forming routes (R32, R39, R40) -/

/-- R32: the own route formed from an entry, scored. -/
def ownCandidate (sl : Slot) (e : NetEntry) : Candidate :=
  { via := .slot sl, code := e.code, score := ownScore e, q := e.quality.value }

/-- R32: the relay route formed from a reach item, scored. -/
def relayCandidate (penalty : Nat) (n : NeighbourEntry) (i : ReachItem) : Candidate :=
  { via := .box n.addr, code := i.code,
    score := routeScore i.level (typeBonus i.radio) (relayQ n i) n.age (relayPenalty penalty n.action) (supplyPenalty n.supply)
    q := relayQ n i }

/-- R39: the own routes of one slot that are not excluded. -/
def ownRoutes (s : State) (sl : Slot) : List Candidate :=
  if isExcluded (s.slot sl).state then []
  else ((s.table sl).filter (isServing s.cfg.uptime)).map (ownCandidate sl)

/-- R39: a neighbour entry whose relay routes may stand in a list. -/
def NeighbourEntry.mayCarry (n : NeighbourEntry) : Bool :=
  n.state == .usable && n.capacity != 0 && n.supply != .critical

/-- R40: of two routes of one identity, the later one replaces the earlier where its score is higher, or equal with a
lower Q. -/
def mergeRoute (kept : List Candidate) (c : Candidate) : List Candidate :=
  match kept with
  | [] => [c]
  | k :: ks =>
    if k.via = c.via ∧ k.code = c.code then
      (if c.score > k.score ∨ (c.score = k.score ∧ c.q < k.q) then c :: ks else k :: ks)
    else k :: mergeRoute ks c

/-- R39, R40: the relay routes of one neighbour. -/
def relayRoutes (s : State) (n : NeighbourEntry) : List Candidate :=
  if n.mayCarry && s.own.isSome then (n.items.map (relayCandidate s.cfg.record.relayPenalty n)).foldl mergeRoute []
  else []

/-! ### Ordering (R41, R42) -/

/-- R41 test 3: SLOT_A, SLOT_B, then neighbours by address. -/
def viaRank : Via → Nat
  | .slot .a => 0
  | .slot .b => 1
  | .box n => n + 2

def Via.isBox : Via → Bool
  | .box _ => true
  | .slot _ => false

/-- R41: `c` stands before `d`: score highest first, then own before relay, lower Q, via, lower code. -/
def Candidate.before (c d : Candidate) : Bool :=
  if c.score ≠ d.score then d.score < c.score
  else if c.via.isBox ≠ d.via.isBox then !c.via.isBox
  else if c.q ≠ d.q then c.q < d.q
  else if viaRank c.via ≠ viaRank d.via then viaRank c.via < viaRank d.via
  else c.code < d.code

def insertRoute (c : Candidate) : List Candidate → List Candidate
  | [] => [c]
  | d :: ds => if c.before d then c :: d :: ds else d :: insertRoute c ds

def orderRoutes (cs : List Candidate) : List Candidate := cs.foldr insertRoute []

/-- R38: the build: form, exclude, merge, order, and keep the first 12 (R42). -/
def buildList (s : State) : List Candidate :=
  (orderRoutes (ownRoutes s .a ++ ownRoutes s .b ++ s.nbt.flatMap (relayRoutes s))).take 12

def Candidate.route (c : Candidate) : Route := { via := c.via, code := some c.code }

/-- R10: the exclusions as they stand just before the attempt on a route. -/
def isShutOut (s : State) (c : Candidate) : Bool :=
  match c.via with
  | .slot sl =>
    isExcluded (s.slot sl).state ||
      match findEntry (s.table sl) c.code with
      | some e => !isServing s.cfg.uptime e
      | none => true
  | .box n =>
    match s.nbt.find? (fun e => e.addr == n) with
    | some e => !e.mayCarry
    | none => true

end Sys2Proof.Machine
end

