-- ==== Sys2Proof/Machine/Adverts.lean ====
section
/-! DEFINITION. The advert generator ADV (R128 to R133), the network table NWT's events, each of which ADV watches
(R46 to R61, R132), and the neighbour table NBT (R134 to R141). -/

namespace Sys2Proof.Machine

/-! ### Choosing the items of a REACH (R130) -/

/-- R111: the advertised capacity. -/
def State.capacity (s : State) : Nat :=
  if !s.cfg.record.carrying then 0
  else if s.spm.supply = .critical then 0
  else if isOut s.slc.a.state && isOut s.slc.b.state then 0
  else if s.spm.supply = .low then min 1 (3 - s.cye.length)
  else 3 - s.cye.length

/-- R130 step 1: the eligible entries of one slot. -/
def eligible (s : State) (sl : Slot) : List NetEntry :=
  if isOut (s.slot sl).state then [] else (s.table sl).filter (isServing s.cfg.uptime)

/-- R130 step 2: a level compared, an absent one below 0. -/
def levelRank (level : Option Nat) : Nat :=
  match level with
  | some l => l + 1
  | none => 0

/-- R130 step 2: of SLOT_A's entry `x` and SLOT_B's entry `y` for one code, SLOT_A's is kept. -/
def keepsA (x y : NetEntry) : Bool :=
  if levelRank x.level ≠ levelRank y.level then levelRank y.level < levelRank x.level
  else ownScore y ≤ ownScore x

/-- R130 step 2: one entry per network. -/
def onePerNetwork (as bs : List NetEntry) : List NetEntry :=
  as.filter (fun x => match findEntry bs x.code with
    | some y => keepsA x y
    | none => true) ++
  bs.filter fun y => match findEntry as y.code with
    | some x => !keepsA x y
    | none => true

/-- R130 step 3: `x` stands before `y`. -/
def advertBefore (x y : NetEntry) : Bool :=
  if ownScore x ≠ ownScore y then ownScore y < ownScore x
  else if x.quality.value ≠ y.quality.value then x.quality.value < y.quality.value
  else x.code < y.code

def insertEntry (x : NetEntry) : List NetEntry → List NetEntry
  | [] => [x]
  | y :: ys => if advertBefore x y then x :: y :: ys else y :: insertEntry x ys

/-- R130 step 4: an entry as a reach item; an absent level is advertised as 8. -/
def toItem (e : NetEntry) : ReachItem :=
  { code := e.code, radio := some e.radio, level := scoreLevel e.level, q := e.quality.value }

/-- R130: the items of a REACH built now. -/
def advertItems (s : State) : List ReachItem :=
  (((onePerNetwork (eligible s .a) (eligible s .b)).foldr insertEntry []).take 4).map toItem

/-- R129: the last advertised best that items give. -/
def bestOf (items : List ReachItem) : Advertised :=
  match items with
  | i :: _ => .item i.code i.level
  | [] => .noItem

/-- R131: the jitter of a draw, in ms. -/
def jitterMs (r : Word16) : Nat := r.toNat % 31 * 100

/-- R129: the REACH of this moment. -/
def reachNow (s : State) : ReachAdvert :=
  { seq := s.adv.seq, capacity := s.capacity, supply := s.spm.supply, localCall := s.ple.state != .idle,
    items := advertItems s }

/-- R129: a REACH is built and handed to LNC; the periodic timer restarts with a fresh draw (R131). -/
def State.buildReach (s : State) : State :=
  let frame := reachNow s
  let s' := s.draw
  (s'.withAdv
    { seq := (s.adv.seq + 1) % 256
      timer := .periodic (s.clock.now + s.cfg.record.advertInterval * 1000 + jitterMs s'.lnc.rng)
      lastBuild := some s.clock.now
      lastBest := bestOf frame.items
      early := false }).hand 0 (.reach (reachPayload frame))

/-- R132: an early advert is due: the first item's code differs, or its level by 6 or more. -/
def isEarlyDue (last now : Advertised) : Bool :=
  match last, now with
  | .notYet, _ => false
  | .item c l, .item c' l' => c != c' || 6 ≤ l' - l || 6 ≤ l - l'
  | .item _ _, _ => true
  | .noItem, .item _ _ => true
  | .noItem, _ => false

/-- R132: 5 s or more have passed since the last build. -/
def State.spacingPassed (s : State) : Bool :=
  match s.adv.lastBuild with
  | some at_ => at_ + earlySpacingMs ≤ s.clock.now
  | none => true

/-- R132: ADV recomputes the first item; an early advert that is due is built at once or set pending. -/
def State.watchAdvert (s : State) : State :=
  if s.own.isSome && isEarlyDue s.adv.lastBest (bestOf (advertItems s)) then
    (if s.spacingPassed then s.buildReach else s.withAdv { s.adv with early := true })
  else s

/-- R133: the first scan end after a start-up or an engine reset brings the first REACH. -/
def State.advScanEnded (s : State) : State :=
  match s.adv.timer with
  | .startWait _ => s.buildReach
  | _ => s

/-! ### The network table (R46 to R61) -/

/-- An event of one slot's table, taken whole (R61), after which ADV looks at its first item (R132). -/
def State.tableEvent (s : State) (sl : Slot) (f : List NetEntry → List NetEntry) : State :=
  (s.withTable sl (f (s.table sl))).watchAdvert

/-- One entry changed, found by its code. -/
def updateEntry (code : Nat) (f : NetEntry → NetEntry) (es : List NetEntry) : List NetEntry :=
  es.map fun e => if e.code = code then f e else e

/-- R49: a matching item updates its entry. -/
def applyItem (i : GoodItem) (e : NetEntry) : NetEntry :=
  { e with radio := i.radio, level := i.level, permitted := i.permitted, age := 0 }

/-- R50: a new item's entry. -/
def entryOf (i : GoodItem) : NetEntry :=
  { code := i.code, radio := i.radio, level := i.level, permitted := i.permitted, quality := freshQuality,
    barredUntil := none, age := 0 }

/-- R51: `x` is replaced rather than `y`: greater age, then lower level, then lower code. -/
def replacedBefore (x y : NetEntry) : Bool :=
  if x.age ≠ y.age then y.age < x.age
  else if levelRank x.level ≠ levelRank y.level then levelRank x.level < levelRank y.level
  else x.code < y.code

/-- The first entry by `replacedBefore`. -/
def pickReplaced : List NetEntry → Option NetEntry
  | [] => none
  | e :: es =>
    match pickReplaced es with
    | some d => if replacedBefore e d then some e else some d
    | none => some e

/-- R48 to R51: one kept item of a NETS; `touched` holds the codes of the items before it. -/
def takeItem (touched : List Nat) (i : GoodItem) (es : List NetEntry) : List NetEntry :=
  match findEntry es i.code with
  | some _ => updateEntry i.code (applyItem i) es
  | none =>
    if es.length < 8 then es ++ [entryOf i]
    else
      match pickReplaced (es.filter fun e => !touched.contains e.code) with
      | some d => es.filter (fun e => e.code != d.code) ++ [entryOf i]
      | none => es

/-- R48: the kept items are applied one after the other. -/
def takeItems (touched : List Nat) : List GoodItem → List NetEntry → List NetEntry
  | [], es => es
  | i :: is, es => takeItems (i.code :: touched) is (takeItem touched i es)

/-- R48 to R52: a NETS taken in answer to SCAN. -/
def State.takeNets (s : State) (sl : Slot) (items : List NetItem) : State :=
  s.tableEvent sl (takeItems [] (goodItems [] items))

/-- R53: a BEAT. -/
def State.takeBeat (s : State) (sl : Slot) (camped : Option Nat) (level : Option Nat) : State :=
  match camped with
  | some code => s.tableEvent sl (updateEntry code fun e => { e with level := level.map (min · 31), age := 0 })
  | none => s

/-- R56: a DNAK BARRED bars the entry of the DIAL's code for 300 s. -/
def State.barEntry (s : State) (sl : Slot) (code : Nat) : State :=
  s.tableEvent sl (updateEntry code fun e => { e with barredUntil := some (s.cfg.uptime + barSeconds) })

/-- R58, R59: an outcome report at the entry of a slot and code; dropped where there is none. -/
def State.reportEntry (s : State) (sl : Slot) (code : Nat) (r : Report) : State :=
  s.tableEvent sl (updateEntry code fun e => { e with quality := e.quality.report s.clock.now r })

/-- R54: one second of age. An entry whose age stands at 3600 waits for its removal (log 17). -/
def ageEntry (e : NetEntry) : NetEntry := { e with age := min removalSeconds (e.age + 1) }

/-! ### The neighbour table (R134 to R141) -/

def updateNeighbour (addr : Nat) (f : NeighbourEntry → NeighbourEntry) (ns : List NeighbourEntry) :
    List NeighbourEntry :=
  ns.map fun n => if n.addr = addr then f n else n

/-- R137: the entry's state after a REACH. -/
def stateAfterReach (n : NeighbourEntry) (seq : Nat) : NeighbourState :=
  match n.state with
  | .fresh => if seq = (n.seq + 1) % 256 then .usable else .fresh
  | .usable => .usable
  | .stale => .fresh

/-- R137: a REACH updates its source's entry. -/
def takeReach (r : ReachAdvert) (n : NeighbourEntry) : NeighbourEntry :=
  { n with state := stateAfterReach n r.seq, seq := r.seq, age := 0, capacity := r.capacity, supply := r.supply,
           items := r.items }

/-- R136: the entry a REACH makes. -/
def neighbourOf (src : Nat) (action : PeerAction) (r : ReachAdvert) : NeighbourEntry :=
  { addr := src, state := .fresh, seq := r.seq, age := 0, capacity := r.capacity, supply := r.supply, items := r.items,
    quality := freshQuality, action := action }

/-- R136: the entry of state `st` with the greatest age, the lower address at equal ages. -/
def oldestIn (st : NeighbourState) : List NeighbourEntry → Option NeighbourEntry
  | [] => none
  | n :: ns =>
    match oldestIn st ns with
    | some m => if n.state = st ∧ (m.age < n.age ∨ (m.age = n.age ∧ n.addr < m.addr)) then some n else some m
    | none => if n.state = st then some n else none

/-- R136: the entry that an unknown source's REACH replaces in a full table: a STALE one, else a NEW one. -/
def replacedNeighbour (ns : List NeighbourEntry) : Option NeighbourEntry :=
  match oldestIn .stale ns with
  | some n => some n
  | none => oldestIn .fresh ns

/-- R136, R137: the table after a REACH from `src`. -/
def neighboursAfter (ns : List NeighbourEntry) (src : Nat) (action : PeerAction) (r : ReachAdvert) :
    List NeighbourEntry :=
  if ns.any (fun n => n.addr == src) then updateNeighbour src (takeReach r) ns
  else if ns.length < 16 then ns ++ [neighbourOf src action r]
  else
    match replacedNeighbour ns with
    | some d => ns.filter (fun n => n.addr != d.addr) ++ [neighbourOf src action r]
    | none => ns

/-- R135: NBT takes a REACH: source, peer filter, shape, then the frame whole. -/
def State.takeReachFrame (s : State) (src : Nat) (payload : List Byte) : State :=
  if 1 ≤ src ∧ src ≤ 62 then
    match filterAction s.cfg.record.filters src with
    | some .ignore => s
    | some .prefer =>
      match readReach payload with
      | some r => s.withNbt (neighboursAfter s.nbt src .prefer r)
      | none => s
    | none =>
      match readReach payload with
      | some r => s.withNbt (neighboursAfter s.nbt src .normal r)
      | none => s
  else s

/-- R139: an outcome report at a neighbour's carry quality counter; dropped where there is no entry. -/
def State.reportNeighbour (s : State) (addr : Nat) (r : Report) : State :=
  s.withNbt (updateNeighbour addr (fun n => { n with quality := n.quality.report s.clock.now r }) s.nbt)

/-- R138: one second of age, saturating at 65535. An entry whose age has reached 3·I or 10·I keeps its state and its
place, and goes on ageing, until NEIGHBOUR_STALE or NEIGHBOUR_REMOVAL is taken (log 36). -/
def ageNeighbour (n : NeighbourEntry) : NeighbourEntry := { n with age := min 65535 (n.age + 1) }

end Sys2Proof.Machine
end

