-- ==== Sys2Proof/Machine/Slots.lean ====
section
/-! DEFINITION. The slot controller SLC: the slot record, warm-up, the requests to the module, claims and the arbiter,
grants and their release (R62 to R76), with the carry engine's part in a grant (R98). Where SLC reports to an engine,
its own transition is done first (log 7). -/

namespace Sys2Proof.Machine

/-! ### Writing a slot record -/

/-- R71: the idle timer runs exactly while the slot is IDLE with no grant held and no claim waiting. -/
def SlotRec.settleIdle (r : SlotRec) (now : Nat) : SlotRec :=
  if r.isUnused then { r with idleTimer := some (r.idleTimer.getD (now + idleMs)) } else { r with idleTimer := none }

def State.withSlot (s : State) (sl : Slot) (r : SlotRec) : State :=
  match sl with
  | .a => s.withSlc { s.slc with a := r }
  | .b => s.withSlc { s.slc with b := r }

/-- A slot record changes; the idle timer and the OUT lamp follow (R71, R165). -/
def State.setSlot (s : State) (sl : Slot) (f : SlotRec → SlotRec) : State :=
  (s.withSlot sl ((f (s.slot sl)).settleIdle s.clock.now)).setOutLamp

/-- SLC sends a message on the modem line. -/
def SlotRec.send (r : SlotRec) (m : ModemOut) : SlotRec := { r with sent := r.sent ++ [m] }

/-- A slot enters a state with nothing outstanding and no request deadline. A repeated DIAL that still waits for the
modem line is not sent any more (log 13). -/
def SlotRec.settled (r : SlotRec) (st : SlotState) : SlotRec :=
  { r with state := st, request := .nothing, deadline := none, repeatsDue := 0, rung := false }

/-! ### Warm-up, scan, dial, drop (R64, R73, R74, R75) -/

/-- R64: power is raised and WARMING entered under the 20 s warm-up deadline. -/
def SlotRec.warm (now : Nat) (r : SlotRec) : SlotRec :=
  { r.settled .warming with power := true, deadline := some (now + warmUpMs), restartTimer := none }

/-- R73: a granted scan sends SCAN and enters SCANNING under the 45 s scan deadline. -/
def SlotRec.startScan (now : Nat) (kind : ScanKind) (r : SlotRec) : SlotRec :=
  { (r.settled .scanning).send .scan with
    grant := .scan kind, request := .scan, deadline := some (now + scanDeadlineMs) }

/-- R74: DIAL is sent and DIALLING entered under the 10 s dial deadline. -/
def SlotRec.startDial (now code : Nat) (r : SlotRec) : SlotRec :=
  { (r.settled .dialling).send (.dial code) with
    request := .dial code, deadline := some (now + dialDeadlineMs), repeats := 0 }

/-- R75: DROP is sent and CLEARING entered under the 5 s clear deadline. -/
def SlotRec.drop (now : Nat) (r : SlotRec) : SlotRec :=
  { (r.settled .clearing).send .drop with request := .drop, deadline := some (now + clearDeadlineMs) }

/-- R74: the holder of the grant, in IDLE, requests a dial; any other request is not acted on. -/
def State.requestDial (s : State) (sl : Slot) (holder : Holder) (code : Nat) : State :=
  if (s.slot sl).state = .idle ∧ (s.slot sl).grant = holder then s.setSlot sl (SlotRec.startDial s.clock.now code)
  else s

/-! ### The arbiter (R69) -/

/-- The LOCAL dial claim is granted: the local call holds the slot, and PLE has DIAL sent (R14). -/
def State.grantLocal (s : State) (sl : Slot) : State :=
  (s.setSlot sl fun r => { r with waitingLocal := none, grant := .localCall }).requestDial sl .localCall
    ((s.ple.route.bind Route.code).getD 0)

/-- A carry record changed, found by its identity. -/
def updateCarry (id : CarryId) (f : CarryRec → CarryRec) (cs : List CarryRec) : List CarryRec :=
  cs.map fun c => if c.id = id then f c else c

def State.setCarry (s : State) (id : CarryId) (f : CarryRec → CarryRec) : State :=
  s.withCye (updateCarry id f s.cye)

/-- A CARRY claim is granted (R98): the queue timer stops, the slot is joined to the record's trunk, a dial is
requested, and the record enters DIALLING. -/
def State.grantCarry (s : State) (sl : Slot) (c : CarryRec) : State :=
  (((s.setSlot sl fun r =>
      { r with waitingCarry := r.waitingCarry.filter (fun i => i != c.id), grant := .carry c.id }).xptJoin
      (.carry c.id) (.slot sl) (.trunk c.trunk)).requestDial sl (.carry c.id) c.code).setCarry c.id
    fun c => { c with queueTimer := none, dialSent := true, state := .dialling }

/-- R69: an IDLE slot with no grant held is granted to the LOCAL claim, else to the CARRY claim accepted earliest, else
to the SCAN claim. -/
def State.arbiter (s : State) (sl : Slot) : State :=
  if (s.slot sl).state = .idle ∧ (s.slot sl).grant = .nobody then
    match (s.slot sl).waitingLocal with
    | some .dial => s.grantLocal sl
    | some .emergencyScan =>
      s.setSlot sl fun r => { r with waitingLocal := none }.startScan s.clock.now .emergency
    | none =>
      match s.cye.find? fun c => (s.slot sl).waitingCarry.contains c.id with
      | some c => s.grantCarry sl c
      | none =>
        if (s.slot sl).waitingScan then
          s.setSlot sl fun r => { r with waitingScan := false }.startScan s.clock.now .periodic
        else s
  else s

/-! ### Placing and withdrawing claims (R68) -/

/-- The three kinds of claim (R68). -/
inductive Claim where
  | localCall (c : LocalClaim) | carry (id : CarryId) | scan
  deriving DecidableEq, Repr

def SlotRec.addClaim (c : Claim) (r : SlotRec) : SlotRec :=
  match c with
  | .localCall k => { r with waitingLocal := some k }
  | .carry id => { r with waitingCarry := r.waitingCarry ++ [id] }
  | .scan => { r with waitingScan := true }

/-- R68: a claim on a DISABLED or ABSENT slot is refused with a fault report. -/
def State.refusesClaim (s : State) (sl : Slot) : Bool := isOut (s.slot sl).state

/-- R68: a claim placed on a slot that takes it waits; an OFF slot whose restart timer is stopped is warmed, and an
IDLE slot with no grant held runs the arbiter. -/
def State.placeClaim (s : State) (sl : Slot) (c : Claim) : State :=
  let s' := s.setSlot sl (SlotRec.addClaim c)
  if (s.slot sl).state = .off then
    (if (s.slot sl).restartTimer.isNone then s'.setSlot sl (SlotRec.warm s.clock.now) else s')
  else s'.arbiter sl

/-- R68: a waiting claim is withdrawn; one that no longer waits is not there to remove. -/
def State.withdrawLocal (s : State) (sl : Slot) : State := s.setSlot sl fun r => { r with waitingLocal := none }
def State.withdrawCarry (s : State) (sl : Slot) (id : CarryId) : State :=
  s.setSlot sl fun r => { r with waitingCarry := r.waitingCarry.filter fun i => i != id }
def State.withdrawScan (s : State) (sl : Slot) : State := s.setSlot sl fun r => { r with waitingScan := false }

/-! ### Release and drop (R70, R75, R76) -/

/-- R70: the holder releases its grant; a release by a block that does not hold it has no effect. DROP or REFUSE goes
out as the state requires. -/
def State.release (s : State) (sl : Slot) (holder : Holder) : State :=
  if (s.slot sl).grant = holder then
    match (s.slot sl).state with
    | .idle => (s.setSlot sl fun r => { r with grant := .nobody }).arbiter sl
    | .dialling | .ringing | .talking =>
      s.setSlot sl fun r => { r.drop s.clock.now with grant := .nobody }
    | .offered => (s.setSlot sl fun r => { (r.settled .idle).send .refuse with grant := .nobody }).arbiter sl
    | _ => s.setSlot sl fun r => { r with grant := .nobody }
  else s

/-- R76: TAKE in OFFERED, on PLE's request. -/
def State.takeOffer (s : State) (sl : Slot) : State :=
  if (s.slot sl).state = .offered then s.setSlot sl fun r => (r.settled .talking).send .take else s

/-- R76: REFUSE in IDLE or SCANNING turns a CALLIN away; state, grant and scan stand. -/
def State.refuseCallin (s : State) (sl : Slot) : State := s.setSlot sl fun r => r.send .refuse

/-! ### The scan timer (R72) -/

/-- R72: the scan timer is started at the length in force; stopped under CRITICAL. -/
def State.startScanTimer (s : State) (sl : Slot) : State :=
  s.setSlot sl fun r => { r with scanTimer := s.scanLength.map (s.clock.now + ·) }

/-- R72: what a change of supply state does to one slot's scan timer. -/
def State.supplyChangedAt (s : State) (old : Supply) (sl : Slot) : State :=
  if isOut (s.slot sl).state then s
  else
    match old, s.spm.supply with
    | _, .critical => s.setSlot sl fun r => { r with scanTimer := none, waitingScan := false }
    | .critical, .low => s.startScanTimer sl
    | _, _ => s

/-- R175: each change of the supply state is reported to SLC. -/
def State.supplyChanged (s : State) (old : Supply) : State := (s.supplyChangedAt old .a).supplyChangedAt old .b

/-- R73: the SLC side of a scan's end: the grant is cleared, the scan timer restarted, a waiting periodic claim
withdrawn, and the slot is left IDLE. -/
def State.closeScan (s : State) (sl : Slot) : State :=
  s.setSlot sl fun r =>
    { r.settled .idle with grant := .nobody, waitingScan := false, scanTimer := s.scanLength.map (s.clock.now + ·) }

/-- R65: a readable message restarts the heartbeat watch. -/
def State.hearModule (s : State) (sl : Slot) : State :=
  s.setSlot sl fun r => { r with heartbeat := some (s.clock.now + heartbeatMs) }

end Sys2Proof.Machine
end

