-- ==== Sys2Proof/Machine/Carrying.lean ====
section
/-! DEFINITION. The trunk map TKM (R112 to R127) and the carry engine CYE (R89 to R111): claiming and freeing trunks,
accepting and ending a carry, the slot's reports to a carry record, and what trunk frames do to the map. -/

namespace Sys2Proof.Machine

/-! ### The trunk map (R112 to R117) -/

def State.trunk (s : State) (t : Trunk) : TrunkEntry := s.tkm.get t

def State.setTrunk (s : State) (t : Trunk) (e : TrunkEntry) : State := s.withTkm (s.tkm.set t e)

/-- R114: the lowest-numbered FREE entry. -/
def Tkm.lowestFree (m : Tkm) : Option Trunk := [Trunk.t1, .t2, .t3, .t4].find? fun t => m.get t == .free

/-- The carry record a CLAIMING or OWNED entry belongs to (R112). -/
def TrunkEntry.owner : TrunkEntry → Option CarryId
  | .free | .held _ _ => none
  | .claiming id _ _ _ => some id
  | .owned id _ => some id

/-- The record's hold refresh timer, kept in its entry (R116). -/
def TrunkEntry.refresh : TrunkEntry → Option Nat
  | .free | .held _ _ => none
  | .claiming _ _ _ at_ => some at_
  | .owned _ at_ => some at_

/-- R116: the entry with its hold refresh timer restarted. -/
def TrunkEntry.withRefresh (e : TrunkEntry) (at_ : Nat) : TrunkEntry :=
  match e with
  | .claiming id g b _ => .claiming id g b at_
  | .owned id _ => .owned id at_
  | .free => .free
  | .held h x => .held h x

/-- The entry of a carry record (R112: every carry record holds exactly one trunk). -/
def Tkm.trunkOfCarry (m : Tkm) (id : CarryId) : Option Trunk :=
  [Trunk.t1, .t2, .t3, .t4].find? fun t => (m.get t).owner == some id

/-- R114: the claim of a trunk for a record. -/
def State.claimTrunk (s : State) (t : Trunk) (id : CarryId) : State :=
  s.setTrunk t (.claiming id (s.clock.now + guardMs) [] (s.clock.now + holdRefreshMs))

/-- R116: the THLD of a trunk this box holds for a record. -/
def State.holdFrame (s : State) (t : Trunk) (id : CarryId) : State :=
  s.hand 0 (.thld (trunkNum t) s.ownNum id.requester id.callId)

/-- R117: a record's trunk is freed and TFRE queued; where TKM has already lost it, nothing is done. -/
def State.freeTrunk (s : State) (t : Trunk) (id : CarryId) : State :=
  if (s.trunk t).owner = some id then (s.setTrunk t .free).hand 0 (.tfre (trunkNum t)) else s

/-! ### The end of a carry (R108, R109) -/

/-- R109: the call log record of a carry that ends. -/
def State.carryLog (s : State) (c : CarryRec) (o : LogOutcome) : LogRecord :=
  { callId := c.id.callId, kind := .carried, partner := some (.box c.id.requester), code := some c.code, rounds := 0,
    attempts := if c.dialSent then 1 else 0, outcome := o, talkSeconds := c.talkSeconds, endUptime := s.cfg.uptime }

/-- R108 step 3: a QUEUED record's claim is withdrawn; otherwise its grant is released, with DROP where the slot's
state asks for it (R70). -/
def State.giveUpSlot (s : State) (c : CarryRec) : State :=
  match c.state with
  | .queued => s.withdrawCarry c.slot c.id
  | _ => s.release c.slot (.carry c.id)

/-- R108: every carry ends through the same steps. `told` is the CPRG FAILED reason where the end did not come from a
CEND; `freed` is false where the trunk was lost (R107); `report` is the last report of R102 due for the end; `o` is the
log outcome. The timers stop with the record's removal. -/
def State.endCarry (s : State) (c : CarryRec) (told : Option CprgReason) (freed : Bool) (report : Option Report)
    (o : LogOutcome) : State :=
  let s1 := match told with
    | some r => s.hand c.id.requester (.cprg c.id.callId (.failed r))
    | none => s
  let s2 := (s1.giveUpSlot c).xptBreak (.carry c.id)
  let s3 := if freed then s2.freeTrunk c.trunk c.id else s2
  let s4 := match report with
    | some r => s3.reportEntry c.slot c.code r
    | none => s3
  let s5 := s4.logAppend (s4.carryLog c o)
  s5.withCye (s5.cye.filter fun d => d.id != c.id)

/-! ### Acceptance (R91 to R95) -/

/-- R92: a slot qualifies for a network code; its entry for the code. -/
def qualifyingEntry (s : State) (sl : Slot) (code : Nat) : Option NetEntry :=
  if isExcluded (s.slot sl).state then none
  else (findEntry (s.table sl) code).filter (isServing s.cfg.uptime)

/-- R93 step 1: the slot whose entry has the higher own score, SLOT_A at equal scores; none where neither qualifies. -/
def boundSlot (s : State) (code : Nat) : Option Slot :=
  match qualifyingEntry s .a code, qualifyingEntry s .b code with
  | some x, some y => if ownScore x < ownScore y then some .b else some .a
  | some _, none => some .a
  | none, some _ => some .b
  | none, none => none

/-- R93 step 3: the record as made at acceptance. -/
def newCarry (id : CarryId) (code : Nat) (sl : Slot) (t : Trunk) (now : Nat) : CarryRec :=
  { id := id, code := code, slot := sl, trunk := t, state := .queued, dialSent := false,
    queueTimer := some (now + queueMs), silence := some (now + silenceMs), talkSeconds := 0 }

/-- R97: the fault report of a CARRY claim that was withdrawn or refused. -/
def State.carryClaimFault (s : State) (id : CarryId) : State :=
  match findCarry s.cye id with
  | some c => s.endCarry c (some .lost) true none (.failed .lost)
  | none => s

/-- R93: acceptance, all at once: trunk, record, answer, claim. The box becomes busy with the first record (R171). -/
def State.acceptCarry (s : State) (id : CarryId) (code : Nat) (sl : Slot) (t : Trunk) : State :=
  let s1 := s.claimTrunk t id
  let s2 := s1.withCye (s1.cye ++ [newCarry id code sl t s.clock.now])
  let s3 := if s.cye.isEmpty then s2.cutSampleTimer else s2
  let s4 := s3.hand id.requester (.cack id.callId (trunkNum t))
  if s4.refusesClaim sl then s4.carryClaimFault id else s4.placeClaim sl (.carry id)

/-- R91: a CREQ addressed to this box; the first check that applies gives the answer. A source of 63 is ignored. -/
def State.takeCreq (s : State) (src callId code : Nat) : State :=
  if 1 ≤ src ∧ src ≤ 62 then
    match findCarry s.cye ⟨src, callId⟩ with
    | some c => s.hand src (.cack callId (trunkNum c.trunk))
    | none =>
      if !s.cfg.record.carrying then s.hand src (.cnak callId .notCarrying)
      else if s.spm.supply = .critical then s.hand src (.cnak callId .supply)
      else if 3 ≤ s.cye.length then s.hand src (.cnak callId .full)
      else
        match boundSlot s code with
        | none => s.hand src (.cnak callId .noNetwork)
        | some sl =>
          match s.tkm.lowestFree with
          | none => s.hand src (.cnak callId .noTrunk)
          | some t => s.acceptCarry ⟨src, callId⟩ code sl t
  else s

/-! ### The slot's reports (R88, R99, R101) -/

/-- What SLC reports to a grant holder (R88). -/
inductive SlotReport where
  | dack | dnak (reason : DnakReason) | timeout | retry | ring | live | gone (cause : GoneCause)
  | fault (dialSent : Bool)
  deriving DecidableEq, Repr

/-- R102: a DNAK BARRED charges nothing, since SLC has barred the entry. -/
def dnakReport : DnakReason → Option Report
  | .barred => none
  | .noService | .rejected => some .failure

/-- R99, R101, R102: a report for the carry record that holds its slot's grant. -/
def State.carryReport (s : State) (id : CarryId) (r : SlotReport) : State :=
  match findCarry s.cye id with
  | none => s
  | some c =>
    match r with
    | .dack =>
      if c.state = .dialling then
        (s.setCarry id fun d => { d with state := .ringing }).hand id.requester (.cprg id.callId .ringing)
      else s
    | .live =>
      if c.state = .dialling ∨ c.state = .ringing then
        ((s.setCarry id fun d => { d with state := .talking }).hand id.requester (.cprg id.callId .talking)).reportEntry
          c.slot c.code .credit
      else s
    | .ring => s
    | .dnak d => s.endCarry c (some (dnakToCprg d)) true (dnakReport d) (.failed (dnakToCprg d))
    | .timeout => s.endCarry c (some .timeout) true (some .failure) (.failed .timeout)
    | .retry => s.endCarry c (some .retry) true (some .failure) (.failed .retry)
    | .gone .farCleared =>
      if c.state = .talking then s.endCarry c (some .farCleared) true none .talked
      else s.endCarry c (some .farCleared) true (some .failure) (.failed .farCleared)
    | .gone _ => s.endCarry c (some .lost) true (some .failure) (.failed .lost)
    | .fault _ =>
      s.endCarry c (some .lost) true (if c.dialSent then some .failure else none) (.failed .lost)

/-- R104: the log outcome of a carry that its requester ends. -/
def cendOutcome (st : CarryState) : CendCause → LogOutcome
  | .callerCleared => if st = .talking then .talked else .callerCleared
  | .limit => if st = .talking then .talked else .failed .timeout
  | .lost => .failed .lost

/-- R104, R105: a CEND addressed to this box. -/
def State.takeCend (s : State) (src callId : Nat) (cause : CendCause) : State :=
  match findCarry s.cye ⟨src, callId⟩ with
  | some c => s.endCarry c none true none (cendOutcome c.state cause)
  | none => s

/-- R103: a THLD from the record's requester that names this box as holder restarts the requester silence timer. -/
def State.carryHeardHold (s : State) (src holder callId : Nat) : State :=
  if s.own = some holder then
    s.setCarry ⟨src, callId⟩ fun c => { c with silence := some (s.clock.now + silenceMs) }
  else s

/-! ### Conflicts and frames at the trunk map (R118 to R126) -/

/-- R106: TKM has moved a record to another trunk; a join already made moves with it. -/
def State.carryMoved (s : State) (id : CarryId) (t : Trunk) : State :=
  match findCarry s.cye id with
  | none => s
  | some c =>
    let s' := s.setCarry id fun d => { d with trunk := t }
    if c.state = .queued then s' else s'.xptJoin (.carry id) (.slot c.slot) (.trunk t)

/-- R107: TKM has lost a record's trunk with none to move to. -/
def State.carryTrunkLost (s : State) (id : CarryId) : State :=
  match findCarry s.cye id with
  | some c => s.endCarry c (some .noTrunk) false none (.failed .noTrunk)
  | none => s

/-- R125, R126: this box loses trunk `t`, held for record `id`, to `winner`. -/
def State.loseTrunk (s : State) (t : Trunk) (id : CarryId) (winner : Nat) : State :=
  let s1 := s.setTrunk t (.held winner (s.clock.now + holdMs))
  match s1.tkm.lowestFree with
  | some u =>
    ((s1.setTrunk u (.claiming id (s.clock.now + guardMs) []
        ((s.trunk t).refresh.getD (s.clock.now + holdRefreshMs)))).hand id.requester
      (.tmov id.callId (trunkNum t) (trunkNum u))).carryMoved id u
  | none => s1.carryTrunkLost id

/-- R119, R122: a CACK or TMOV from another box names a trunk. -/
def State.trunkAnnounced (s : State) (t : Trunk) (src : Nat) : State :=
  match s.trunk t with
  | .free | .held _ _ => s.setTrunk t (.held src (s.clock.now + holdMs))
  | .claiming id g beaten x =>
    if src < s.ownNum then s.loseTrunk t id src
    else s.setTrunk t (.claiming id g (if beaten.contains src then beaten else beaten ++ [src]) x)
  | .owned id _ => s.holdFrame t id

/-- R118, R119, R122: TKM takes a CACK, or a TMOV with its new trunk field. -/
def State.mapAnnounced (s : State) (src field : Nat) : State :=
  match trunkOf field with
  | some t => if src = 63 then s else s.trunkAnnounced t src
  | none => s

/-- R120, R123, R124: a THLD with a holder other than this box names a trunk. -/
def State.trunkHeld (s : State) (t : Trunk) (holder : Nat) : State :=
  match s.trunk t with
  | .free | .held _ _ => s.setTrunk t (.held holder (s.clock.now + holdMs))
  | .claiming id _ beaten _ => if beaten.contains holder then s else s.loseTrunk t id holder
  | .owned id _ => if holder < s.ownNum then s.loseTrunk t id holder else s.holdFrame t id

/-- R118, R120, R123, R124: TKM takes a THLD. -/
def State.mapHeld (s : State) (src field holder partner : Nat) : State :=
  match trunkOf field with
  | some t =>
    if src = 63 ∨ ¬ (1 ≤ holder ∧ holder ≤ 62) ∨ ¬ (1 ≤ partner ∧ partner ≤ 62) ∨ s.own = some holder then s
    else s.trunkHeld t holder
  | none => s

/-- R118, R121: TKM takes a TFRE. -/
def State.mapFreed (s : State) (src field : Nat) : State :=
  match trunkOf field with
  | some t =>
    if src = 63 then s
    else
      match s.trunk t with
      | .held h _ => if h = src then s.setTrunk t .free else s
      | _ => s
  | none => s

end Sys2Proof.Machine
end

