-- ==== Sys2Proof/Machine/Placing.lean ====
section
/-! DEFINITION. The placement engine PLE: opening and closing the local call record, rounds and attempts, the reports
of SLC and the frames of the carrier (R1 to R31), and SLC's scan ends and faults, which report to the engines
(R66, R73). -/

namespace Sys2Proof.Machine

/-! ### Outcomes of attempts (R25) -/

/-- The outcomes with which an attempt ends (R25). -/
inductive Outcome where
  | connected | skipped | refused (reason : CprgReason) | notCarrying | noNetwork | timeout | retry | lost
  deriving DecidableEq, Repr

/-- R25, R58: the report an outcome makes at an own route's network entry. -/
def ownReport : Outcome → Report
  | .connected => .credit
  | .skipped => .noChange
  | .refused .barred => .noChange
  | .refused _ | .timeout | .retry | .lost => .failure
  | .notCarrying | .noNetwork => .failure

/-- R25: the report an outcome makes at the neighbour's carry quality counter. -/
def relayReport : Outcome → Report
  | .connected => .credit
  | .skipped => .noChange
  | .refused .barred => .noChange
  | .refused _ | .notCarrying | .noNetwork | .timeout | .retry | .lost => .failure

/-- R25: PLE reports an outcome against the attempt's route. A route without a network code has no entry (log 16). -/
def State.reportOutcome (s : State) (o : Outcome) : State :=
  match s.ple.route with
  | some ⟨.slot sl, some code⟩ => s.reportEntry sl code (ownReport o)
  | some ⟨.box n, _⟩ => s.reportNeighbour n (relayReport o)
  | _ => s

/-- R16: the outcome of a DNAK. -/
def dnakOutcome (r : DnakReason) : Outcome := .refused (dnakToCprg r)

/-- R16: the outcome of a GONE before TALKING. -/
def goneOutcome : GoneCause → Outcome
  | .farCleared => .refused .rejected
  | .lost | .localCleared => .lost

/-- R18: the outcome of a CNAK. -/
def cnakOutcome : CnakReason → Outcome
  | .full | .noTrunk | .supply => .skipped
  | .noNetwork => .noNetwork
  | .notCarrying => .notCarrying

/-- R20: the outcome of a CPRG FAILED before TALKING. -/
def failedOutcome : CprgReason → Outcome
  | .noService => .refused .noService
  | .barred => .refused .barred
  | .rejected => .refused .rejected
  | .timeout => .timeout
  | .retry => .retry
  | .busy | .noTrunk => .skipped
  | .lost => .lost
  | .farCleared => .refused .rejected

/-! ### The record (R2, R3, R6, R7) -/

def State.setPle (s : State) (f : Ple → Ple) : State := s.withPle (f s.ple)

/-- R2: the record is opened with the call id of SVC's counter, which advances by 1 modulo 256. -/
def State.openRecord (s : State) (origin : Origin) : State :=
  (s.withPle
    { resetPle with
      callId := s.svc.nextCallId
      origin := origin
      limitStart := s.cfg.uptime
      handsetLifted := hookReadsLifted s.cpi.hook
      window := s.ple.window }).withSvc { s.svc with nextCallId := (s.svc.nextCallId + 1) % 256 }

/-- R1: the attempt's own timers stop. -/
def Ple.stopAttemptTimers (p : Ple) : Ple :=
  { p with answerTimer := none, holdRefresh := none, carrierSilence := none, ringLimit := none }

/-- R12: an emergency-scan claim that still waits on a slot is withdrawn. -/
def State.withdrawEmergency (s : State) (sl : Slot) : State :=
  if (s.slot sl).waitingLocal = some .emergencyScan then s.withdrawLocal sl else s

/-- R6 step 1: the attempt in hand is wound up according to where it stands. -/
def State.windUp (s : State) (cause : CendCause) : State :=
  match s.ple.state, s.ple.route with
  | .bell, some ⟨.slot sl, _⟩ => s.release sl .localCall
  | .dialling, some ⟨.slot sl, _⟩ => (s.withdrawLocal sl).release sl .localCall
  | .ringing, some ⟨.slot sl, _⟩ => s.release sl .localCall
  | .talking, some ⟨.slot sl, _⟩ => s.release sl .localCall
  | .waiting, _ => (s.withdrawEmergency .a).withdrawEmergency .b
  | _, _ =>
    match s.ple.relayCarrier with
    | some n => if s.ple.trunk.isSome then s.hand n (.cend s.ple.callId cause) else s
    | none => s

/-- R7: the call log record of a close. -/
def State.closeLog (s : State) (o : LogOutcome) : LogRecord :=
  let route := s.ple.talkRoute.or s.ple.route
  { callId := s.ple.callId
    kind := if s.ple.origin = .callback then .callback else .localCall
    partner := route.map Route.via
    code := route.bind Route.code
    rounds := s.ple.rounds
    attempts := s.ple.attempts
    outcome := o
    talkSeconds := s.ple.talkSeconds
    endUptime := s.cfg.uptime }

/-- R7: the callback window after a close: opened afresh where the talk route is an own route, else as it was. -/
def Ple.windowAfterClose (p : Ple) : Option Nat :=
  match p.talkRoute with
  | some ⟨.slot _, _⟩ => some windowSeconds
  | _ => p.window

/-- R7, R164: the CALL lamp at the record's return to IDLE: FAST for 60 s after NO_ROUTE or LOST, OFF otherwise. -/
def Cpi.lampAtClose (c : Cpi) (o : LogOutcome) (now : Nat) : Cpi :=
  if o = .noRoute ∨ o = .lost then { c.setLamp .fast now with fastFlash := some (now + fastFlashMs) }
  else { c.setLamp .off now with fastFlash := none }

/-- R6 steps 2 and 3: the HANDSET connection is broken, every timer stops, the log record and the lamp request go out,
and the record returns to IDLE. The bell of an offer stops (R31). -/
def State.finishCall (s : State) (o : LogOutcome) : State :=
  let s1 := s.xptBreak .localCall
  let s2 := s1.logAppend (s1.closeLog o)
  (s2.withCpi (s2.cpi.stopBell.lampAtClose o s2.clock.now)).withPle
    { resetPle with window := s2.ple.windowAfterClose }

/-- R6: the close of a call, whatever ends it. -/
def State.closeCall (s : State) (cause : CendCause) (o : LogOutcome) : State := (s.windUp cause).finishCall o

/-! ### Rounds and attempts (R9 to R13, R17, R26) -/

/-- R11: the record enters WAITING for the pause length. -/
def State.enterWaiting (s : State) : State :=
  (s.enterCallState .waiting).joinTone.setPle fun p =>
    { p with pauseTimer := some (s.clock.now + p.pauseLength * 1000) }

/-- R12: an emergency-scan claim on one slot. -/
def State.claimEmergency (s : State) (sl : Slot) : State :=
  (s.setPle fun p => { p with awaited := p.awaited ++ [sl] }).placeClaim sl (.localCall .emergencyScan)

/-- R12: with an empty list the record waits on emergency scans of every slot in OFF, IDLE or WARMING. -/
def State.waitForScans (s : State) : State :=
  let s1 := s.enterWaiting
  let s2 := if takesEmergencyScan s.slc.a.state then s1.claimEmergency .a else s1
  if takesEmergencyScan s.slc.b.state then s2.claimEmergency .b else s2

/-- R10: the route becomes the current route, and the attempt is counted. -/
def State.beginAttempt (s : State) (c : Candidate) : State :=
  s.setPle fun p =>
    { p with tried := p.tried ++ [c.route], attempts := min 255 (p.attempts + 1), route := some c.route }

/-- R26 steps 1 to 3: the attempt's timers stop, HANDSET is joined to TONE, and the trunk is cleared. -/
def State.clearAttempt (s : State) : State :=
  (s.setPle fun p => { p.stopAttemptTimers with trunk := none }).joinTone

/-- R17: a relay-route attempt begins. -/
def State.beginRelay (s : State) (n code : Nat) : State :=
  ((s.enterCallState .relaying).joinTone.hand n (.creq s.ple.callId code)).setPle fun p =>
    { p with answerTimer := some (s.clock.now + answerMs) }

/-- R13: an own-route attempt begins: DIALLING, the tone, and a LOCAL claim on the slot. -/
def State.beginOwn (s : State) (sl : Slot) : State :=
  (s.enterCallState .dialling).joinTone.placeClaim sl (.localCall .dial)

/-- R10, R13, R26: the routes not yet tried are taken in order. One that is shut out, or whose slot a carry record
holds or refuses the claim, ends SKIPPED and the next is taken; with none left the record waits (R11). -/
def State.tryRoutes : List Candidate → State → State
  | [], s => s.enterWaiting
  | c :: cs, s =>
    let s' := s.beginAttempt c
    if isShutOut s c then State.tryRoutes cs s'.clearAttempt
    else
      match c.via with
      | .box n => s'.beginRelay n c.code
      | .slot sl =>
        if (s.slot sl).grant.isCarry || s.refusesClaim sl then
          State.tryRoutes cs ((s'.enterCallState .dialling).joinTone.clearAttempt)
        else s'.beginOwn sl

/-- R26 steps 4 and 5: on to the routes of the candidate list that are not in the attempt list. -/
def State.nextAttempt (s : State) : State :=
  State.tryRoutes (s.rsl.filter fun c => !s.ple.tried.contains c.route) s

/-- R9: a round starts. -/
def State.startRound (s : State) : State :=
  let s1 := (s.setPle fun p => { p with rounds := min 255 (p.rounds + 1), tried := [] }).withRsl (buildList s)
  if s1.rsl.isEmpty then s1.waitForScans else s1.nextAttempt

/-- R25, R26: an attempt ends without the call being closed. -/
def State.endAttempt (s : State) (o : Outcome) : State := (s.reportOutcome o).clearAttempt.nextAttempt

/-- R16: an own-route attempt ends; PLE releases the grant, and a DROP goes out where the slot is still in the call. -/
def State.endOwnAttempt (s : State) (sl : Slot) (o : Outcome) : State := (s.release sl .localCall).endAttempt o

/-- R11: the pause length's next value. -/
def nextPause (n : Nat) : Nat :=
  if n = 5 then 10 else if n = 10 then 20 else if n = 20 then 40 else 60

/-- R11, R12: a WAITING ends: claims that wait are withdrawn, the pause length advances, and the next round starts. -/
def State.endWaiting (s : State) : State :=
  (((s.withdrawEmergency .a).withdrawEmergency .b).setPle fun p =>
    { p with awaited := [], pauseTimer := none, pauseLength := nextPause p.pauseLength }).startRound

/-! ### Talk, loss and far-end clear (R15, R20, R27, R28) -/

/-- R15, R20, R31: the entry to TALKING. -/
def State.enterTalking (s : State) : State :=
  (s.enterCallState .talking).setPle fun p =>
    { p with reachedTalking := true, talkRoute := p.route, ringLimit := none, placementLimit := none }

/-- R27: the resumption after a loss while TALKING, or the close at the sixth. The placement limit runs from this
millisecond, not from the whole second of limit start (log 38). -/
def State.resumeOrClose (s : State) : State :=
  if s.ple.resumptions < 5 then
    (s.joinTone.setPle fun p =>
      { p with resumptions := p.resumptions + 1, limitStart := s.cfg.uptime,
               placementLimit := some (s.clock.now + placementLimitMs) }).startRound
  else s.finishCall .lost

/-- R27: the wind-up of the attempt that connected: charged LOST, grant released, timers stopped, trunk cleared. -/
def State.loseTalk (s : State) : State :=
  let s1 := s.reportOutcome .lost
  let s2 := match s.ple.route with
    | some ⟨.slot sl, _⟩ => s1.release sl .localCall
    | _ => s1
  (s2.setPle fun p => { p.stopAttemptTimers with trunk := none }).resumeOrClose

/-- R28: a far-end clear: no failure, the grant released, neither DROP nor CEND. -/
def State.farEndClear (s : State) : State :=
  (match s.ple.route with
    | some ⟨.slot sl, _⟩ => s.release sl .localCall
    | _ => s).finishCall .talked

/-! ### SLC's reports to the local call (R13 to R16, R27, R28, R31) -/

/-- A report for the grant that the local call holds on a slot. -/
def State.localReport (s : State) (sl : Slot) (r : SlotReport) : State :=
  match s.ple.state with
  | .bell =>
    match r with
    | .gone _ | .fault _ => s.finishCall .callerCleared
    | _ => s
  | .dialling =>
    match r with
    | .dack =>
      (s.enterCallState .ringing).setPle fun p => { p with ringLimit := some (s.clock.now + ringLimitMs) }
    | .live => (s.xptJoin .localCall .handset (.slot sl)).enterTalking.reportOutcome .connected
    | .dnak d => s.endOwnAttempt sl (dnakOutcome d)
    | .timeout => s.endOwnAttempt sl .timeout
    | .retry => s.endOwnAttempt sl .retry
    | .gone c => s.endOwnAttempt sl (goneOutcome c)
    | .fault dialSent => s.endOwnAttempt sl (if dialSent then .lost else .skipped)
    | .ring => s
  | .ringing =>
    match r with
    | .ring => s.xptJoin .localCall .handset (.slot sl)
    | .live => (s.xptJoin .localCall .handset (.slot sl)).enterTalking.reportOutcome .connected
    | .timeout => s.endOwnAttempt sl .timeout
    | .gone c => s.endOwnAttempt sl (goneOutcome c)
    | .fault _ => s.endOwnAttempt sl .lost
    | _ => s
  | .talking =>
    match r with
    | .gone .farCleared => s.farEndClear
    | .gone _ | .fault _ => s.loseTalk
    | _ => s
  | _ => s

/-- R13: the fault report of a LOCAL dial claim that was withdrawn: the attempt ends SKIPPED. -/
def State.localClaimFault (s : State) : State :=
  if s.ple.state = .dialling then s.endAttempt .skipped else s

/-- R12: a claimed emergency scan has ended, by its NETS, its deadline or a fault; the last one ends the wait. -/
def State.emergencyScanEnded (s : State) (sl : Slot) : State :=
  if s.ple.state = .waiting ∧ s.ple.awaited.contains sl then
    let s' := s.setPle fun p => { p with awaited := p.awaited.filter fun x => x != sl }
    if s'.ple.awaited.isEmpty then s'.endWaiting else s'
  else s

/-- R88: a report to the holder of a slot's grant. -/
def State.reportHolder (s : State) (sl : Slot) (holder : Holder) (r : SlotReport) : State :=
  match holder with
  | .localCall => s.localReport sl r
  | .carry id => s.carryReport id r
  | .nobody | .scan _ => s

/-! ### Scan ends and faults (R66, R73) -/

/-- R73: the reports of a scan's end: to PLE for an emergency scan, to ADV for every scan. R73 gives the two reports no
order; here PLE acts first, so that where the last emergency scan ends in the start wait (R133), the CREQ of the round
that PLE starts is handed to LNC before the first REACH (log 8). -/
def State.reportScanEnd (s : State) (sl : Slot) (kind : ScanKind) : State :=
  (match kind with
    | .emergency => s.emergencyScanEnded sl
    | .periodic => s).advScanEnded

/-- R73: a scan ends with its NETS or its deadline: SLC's side, the reports, then the arbiter (log 8). -/
def State.endScan (s : State) (sl : Slot) : State :=
  match (s.slot sl).grant with
  | .scan kind => ((s.closeScan sl).reportScanEnd sl kind).arbiter sl
  | _ => s

/-- R66: the earlier faults that lie less than 600 s back. -/
def recentFaults (times : List Nat) (uptime : Nat) : List Nat :=
  times.filter fun t => decide (uptime < t + faultWindowSeconds)

/-- R66: the record a fault leaves: power lowered, nothing outstanding, no grant and no claim, and RESTARTING, or
DISABLED at the third fault within 600 s. -/
def SlotRec.faulted (r : SlotRec) (now uptime : Nat) (scanLength : Option Nat) : SlotRec :=
  let recent := recentFaults r.faultTimes uptime
  let out : Bool := 2 ≤ recent.length
  let restartScan : Bool :=
    r.waitingScan || match r.grant with
      | .scan _ => true
      | _ => false
  { r with
    state := if out then .disabled else .restarting
    power := false
    grant := .nobody
    waitingLocal := none
    waitingCarry := []
    waitingScan := false
    request := .nothing
    deadline := none
    repeats := 0
    repeatsDue := 0
    rung := false
    faultTimes := if out then recent else recent ++ [uptime]
    heartbeat := none
    idleTimer := none
    scanTimer := if out then none else if restartScan then scanLength.map (now + ·) else r.scanTimer
    restartTimer := if out then none else some (now + restartMs) }

/-- R66: the carry records whose claims a fault withdrew. R66 gives them no order; here they are told in the order of the
carry queue (log 39). -/
def State.carryClaimFaults (s : State) (ids : List CarryId) : State :=
  (s.cye.filter fun c => ids.contains c.id).foldl (fun st c => st.carryClaimFault c.id) s

/-- R66: a fault on a slot. SLC's side is done first (log 7), then the reports go out in the order of the rule: the holder
or the scan, then the waiting claims. Among those R66 step 3 gives no order; here PLE is told of its LOCAL claim before the
carries of theirs, so that the CREQ of PLE's next attempt is handed to LNC before a carry's CPRG FAILED and TFRE
(log 39). -/
def State.slotFault (s : State) (sl : Slot) : State :=
  let r := s.slot sl
  let s1 := (s.setSlot sl fun r => r.faulted s.clock.now s.cfg.uptime s.scanLength).watchAdvert
  let s2 := match r.grant with
    | .scan kind => s1.reportScanEnd sl kind
    | holder => s1.reportHolder sl holder (.fault (r.state != SlotState.idle))
  let s3 := match r.waitingLocal with
    | some .dial => s2.localClaimFault
    | some .emergencyScan => s2.emergencyScanEnded sl
    | none => s2
  s3.carryClaimFaults r.waitingCarry

/-! ### Call point events (R4, R5, R8, R31) -/

/-- R4: a press or a lift in IDLE starts a call. The placement limit runs from this millisecond, not from the whole second
of limit start (log 38). -/
def State.startCall (s : State) (origin : Origin) : State :=
  ((s.openRecord origin).setPle fun p => { p with placementLimit := some (s.clock.now + placementLimitMs) }).startRound

/-- R31: a press or a lift answers the callback. -/
def State.answerCallback (s : State) : State :=
  match s.ple.route with
  | some ⟨.slot sl, _⟩ =>
    let s1 := s.takeOffer sl
    ((s1.withCpi s1.cpi.stopBell).xptJoin .localCall .handset (.slot sl)).enterTalking.setPle fun p =>
      { p with bellTimer := none }
  | _ => s

/-- R4, R5: PLE takes a press. -/
def State.takePress (s : State) : State :=
  match s.ple.state with
  | .idle => s.startCall .button
  | .bell => s.answerCallback
  | .waiting => s.endWaiting
  | .dialling | .relaying | .ringing | .talking => s

/-- R4, R5: PLE takes a lift. -/
def State.takeLift (s : State) : State :=
  match s.ple.state with
  | .idle => s.startCall .handset
  | .bell => (s.setPle fun p => { p with handsetLifted := true }).answerCallback
  | .dialling | .relaying | .ringing | .talking | .waiting => s.setPle fun p => { p with handsetLifted := true }

/-- R5, R8: PLE takes a replacement: a caller clear where handset-lifted is set. -/
def State.takeReplacement (s : State) : State :=
  if s.ple.state ≠ .idle ∧ s.ple.handsetLifted then
    s.closeCall .callerCleared (if s.ple.reachedTalking then .talked else .callerCleared)
  else s

/-- R30: PLE offers a CALLIN, or has it refused. A scan that runs on the slot gives way (R86); the record is in BELL
before the scan's end is reported (log 33). -/
def State.takeCallin (s : State) (sl : Slot) : State :=
  if s.ple.window.isSome ∧ s.ple.state = .idle ∧ ¬ (s.slot sl).grant.isCarry then
    let s1 := ((s.openRecord .callback).setPle fun p =>
      { p with route := some { via := .slot sl, code := none } }).enterCallState .bell
    let s2 := match (s1.slot sl).grant with
      | .scan kind => (s1.closeScan sl).reportScanEnd sl kind
      | _ => s1
    let s3 := s2.setSlot sl fun r => { r.settled .offered with grant := .localCall }
    (s3.withCpi (s3.cpi.ringBell s3.clock.now)).setPle fun p => { p with bellTimer := some (s.clock.now + bellMs) }
  else s.refuseCallin sl

/-! ### Carry frames at the requester (R17 to R23) -/

/-- R19, R21: PLE takes a trunk for the attempt: HANDSET joins it and a THLD names it. -/
def State.takeTrunk (s : State) (n : Nat) (t : Trunk) : State :=
  ((s.setPle fun p => { p with trunk := some t }).xptJoin .localCall .handset (.trunk t)).hand 0
    (.thld (trunkNum t) n s.ownNum s.ple.callId)

/-- R22: the carrier silence timer is restarted. -/
def State.restartSilence (s : State) : State :=
  s.setPle fun p => { p with carrierSilence := some (s.clock.now + silenceMs) }

/-- R21: a matching frame after the attempt's CACK names trunk `t`; the recorded trunk changes nothing more. -/
def State.moveToTrunk (s : State) (n : Nat) (t : Trunk) : State :=
  if s.ple.trunk = some t then s.restartSilence else (s.takeTrunk n t).restartSilence

/-- R19, R23: PLE takes a CACK. -/
def State.takeCack (s : State) (src callId : Nat) (t : Trunk) : State :=
  if s.ple.isMatch src callId then
    if s.ple.answerTimer.isSome then
      ((s.setPle fun p => { p with answerTimer := none }).takeTrunk src t).restartSilence.setPle fun p =>
        { p with holdRefresh := some (s.clock.now + holdRefreshMs) }
    else if s.ple.trunk.isSome then s.moveToTrunk src t
    else s.hand src (.cend callId .limit)
  else s.hand src (.cend callId .limit)

/-- R18, R23: PLE takes a CNAK. -/
def State.takeCnak (s : State) (src callId : Nat) (r : CnakReason) : State :=
  if s.ple.isMatch src callId ∧ s.ple.answerTimer.isSome then s.endAttempt (cnakOutcome r) else s

/-- R20: the stage of a matching CPRG taken after the attempt's CACK. -/
def State.takeStage (s : State) (stage : CprgStage) : State :=
  match s.ple.state, stage with
  | .relaying, .ringing =>
    (s.enterCallState .ringing).setPle fun p => { p with ringLimit := some (s.clock.now + ringLimitMs) }
  | .relaying, .talking => s.enterTalking.reportOutcome .connected
  | .ringing, .talking => s.enterTalking.reportOutcome .connected
  | .relaying, .failed r => s.endAttempt (failedOutcome r)
  | .ringing, .failed r => s.endAttempt (failedOutcome r)
  | .talking, .failed .farCleared => s.farEndClear
  | .talking, .failed _ => s.loseTalk
  | _, _ => s

/-- R20, R23: PLE takes a CPRG. -/
def State.takeCprg (s : State) (src callId : Nat) (stage : CprgStage) : State :=
  if s.ple.isMatch src callId ∧ s.ple.trunk.isSome then s.restartSilence.takeStage stage else s

/-- R21, R23: PLE takes a TMOV. -/
def State.takeTmov (s : State) (src callId : Nat) (t : Trunk) : State :=
  if s.ple.isMatch src callId ∧ s.ple.trunk.isSome then s.moveToTrunk src t else s

/-- R22: PLE takes a THLD that names the recorded trunk and the carrier as holder. -/
def State.heardCarrier (s : State) (field holder : Nat) : State :=
  match s.ple.trunk with
  | some t =>
    if s.ple.relayCarrier = some holder ∧ field = trunkNum t ∧ s.ple.carrierSilence.isSome then s.restartSilence else s
  | none => s

/-- R157: PLE and TKM take one frame in no order among themselves; a free value says which comes first (log 6). -/
def inOrder (first : Bool) (ple tkm : State → State) (s : State) : State :=
  if first then tkm (ple s) else ple (tkm s)

def State.inFreeOrder (s : State) (ple tkm : State → State) : State :=
  inOrder (Config.pleFirst s.choices) ple tkm (s.withChoices (s.choices + 1))

end Sys2Proof.Machine
end

