-- ==== Sys2Proof/Machine/StartUp.lean ====
section
/-! DEFINITION. Resets, start-up, supply and time: COLD_RESET, RESET_RELEASE, CONFIG_READ_COMPLETE,
CONFIG_READ_DEADLINE, INPUT_WATCH_END, SUPPLY_SAMPLE and UPTIME_TICK (chapter 10, R160), and the engine reset (R188). -/

namespace Sys2Proof.Machine

/-- Every block at its cold values (R181), held by the reset pin. What the lines have carried and what waits in the
queue is not the part's to reset. The uptime stands at 0 from here, where R180 sets it only as the record's read ends
(log 4). -/
def State.coldReset (s : State) : State :=
  { State.reset with
    slc := { a := resetSlot .off s.slc.a.sent, b := resetSlot .off s.slc.b.sent }
    lnc := resetLnc s.lnc.sent
    choices := s.choices
    pending := s.pending }

/-- A brown-out reset (R174): every block at its brown-out values, the call log and the call id counter kept, and the
part held, with SPM sampling every 10 s. -/
def State.brownOut (s : State) : State :=
  { s.coldReset with phase := .brownOutHeld, svc := s.svc, spm := resetSpm (some sampleFastMs) }

/-- R182: the read of the configuration record begins. -/
def State.beginRead (s : State) : State := { s with phase := .readingConfig, spm := { s.spm with timer := none } }

/-- R182 step 3: a fitted slot is OFF and an unfitted one ABSENT (R63). -/
def startSlot (fitted : Bool) (r : SlotRec) : SlotRec := resetSlot (if fitted then .off else .absent) r.sent

/-- R182 steps 1 to 3: the record decoded, the uptime at 0, the address decided, the generator seeded, the slots and
the call point at their start. Every other block stands at its reset values already and is put there again. What the
other boxes send from now on is a free value (R149, R153; log 24). -/
def State.startBlocks (s : State) (bytes : Option (List Byte)) : State :=
  let c := cfgOfRead bytes
  State.setOutLamp
    { s.coldReset with
      phase := .running
      svc := s.svc
      cfg := c
      slc := { a := startSlot c.record.fittedA s.slc.a, b := startSlot c.record.fittedB s.slc.b }
      cpi := { resetCpi with buttonWatch := some debounceMs, hookWatch := some debounceMs }
      lnc := { resetLnc s.lnc.sent with
               heard := Config.otherBytes s.choices
               rng := rngSeed (match c.address with
                 | .assigned n => n
                 | .isolated => 0) }
      choices := s.choices + 1 }

/-- R182 step 5: a periodic SCAN claim on a fitted slot. -/
def State.startScanOf (s : State) (sl : Slot) : State :=
  if s.cfg.record.fitted sl then s.placeClaim sl .scan else s

/-- R133: a box with an address starts the advert timer in start wait. -/
def State.startAdvert (s : State) : State :=
  if s.own.isSome then s.withAdv { s.adv with timer := .startWait (s.clock.now + startWaitMs) } else s

/-- R182: the start-up, whole at the end of the read. `level` is SPM's first sample: below 95 it is a brown-out, and the
start-up is abandoned. -/
def State.startUp (s : State) (bytes : Option (List Byte)) (level : Nat) : State :=
  let s1 := s.startBlocks bytes
  if level < brownOutLevel then s1.brownOut
  else
    let s2 := s1.withSpm { resetSpm (some (s1.clock.now + sampleFastMs)) with level := level }
    ((s2.startScanOf .a).startScanOf .b).startAdvert

/-! ### Supply samples (R171 to R175) -/

/-- R171: the sample timer's length after a sample. -/
def State.sampleLength (s : State) : Nat := if s.spm.settling || s.isBusy then sampleFastMs else sampleSlowMs

/-- R173: the second sample after a start-up. -/
def Spm.settle (p : Spm) (low level : Nat) : Spm :=
  { p with level := level, supply := settledSupply low p.level level, pendingSupply := none, count := 0,
           settling := false }

/-- R172: a sample outside settling. -/
def Spm.debounce (p : Spm) (low level : Nat) : Spm :=
  match pointsTo low p.supply level with
  | none => { p with level := level, pendingSupply := none, count := 0 }
  | some st =>
    if p.pendingSupply = some st ∧ p.count = 1 then
      { p with level := level, supply := st, pendingSupply := none, count := 0 }
    else { p with level := level, pendingSupply := some st, count := 1 }

/-- R171 to R173, R175: a sample of 95 or more while the part runs. -/
def State.takeSample (s : State) (level : Nat) : State :=
  let low := s.cfg.record.lowThreshold
  let s1 := s.withSpm (if s.spm.settling then s.spm.settle low level else s.spm.debounce low level)
  let s2 := if s1.spm.supply = s.spm.supply then s1 else s1.supplyChanged s.spm.supply
  s2.withSpm { s2.spm with timer := some (s2.clock.now + s2.sampleLength) }

/-! ### The second step (R180) -/

/-- R15, R54, R138, R29: what counts on the uptime, before ADV looks at its first item. -/
def State.countSecond (s : State) : State :=
  let talk (n : Nat) : Nat := min 65535 (n + 1)
  { s with
    clock := { now := s.clock.second + 1000, second := s.clock.second + 1000 }
    cfg := { s.cfg with uptime := min 4294967295 (s.cfg.uptime + 1) }
    nwt := { a := s.nwt.a.map ageEntry, b := s.nwt.b.map ageEntry }
    nbt := s.nbt.map ageNeighbour
    ple := { s.ple with
             talkSeconds := if s.ple.state = .talking then talk s.ple.talkSeconds else s.ple.talkSeconds
             window := s.ple.window.map (· - 1) }
    cye := s.cye.map fun c => if c.state = .talking then { c with talkSeconds := talk c.talkSeconds } else c }

/-! ### The watch after a reset (R160) -/

/-- The earlier end of the watches that run. -/
def Cpi.watchEnd (c : Cpi) : Option Nat :=
  match c.buttonWatch, c.hookWatch with
  | some x, some y => some (min x y)
  | some x, none => some x
  | none, y => y

/-- R160: an input whose watch has ended takes its state from the level held steady, with no event. -/
def Cpi.endWatch (c : Cpi) (now : Nat) (down lifted : Bool) : Cpi :=
  let ended (w : Option Nat) : Bool :=
    match w with
    | some at_ => at_ ≤ now
    | none => false
  { c with
    button := if ended c.buttonWatch then (if down then .pressed else .released) else c.button
    buttonWatch := if ended c.buttonWatch then none else c.buttonWatch
    hook := if ended c.hookWatch then (if lifted then .lifted else .onHook) else c.hook
    hookWatch := if ended c.hookWatch then none else c.hookWatch }

/-! ### The engine reset (R188) -/

/-- R63: the engine reset of a slot record. A running scan ends with no NETS and no report. -/
def SlotRec.engineReset (now : Nat) (r : SlotRec) : SlotRec :=
  if r.state = .absent then r
  else
    { r with
      state := .off, power := false, grant := .nobody, waitingScan := false, request := .nothing, deadline := none,
      repeats := 0, repeatsDue := 0, rung := false, faultTimes := [], heartbeat := none, idleTimer := none,
      scanTimer := none, restartTimer := some (now + restartMs) }

/-- R142: the engine reset of LNC. A frame being sent goes on to its end or next collision, and is then dropped. -/
def Lnc.engineReset (l : Lnc) : Lnc :=
  { l with
    queue := []
    tx := if l.tx = .sending then .sending else .idle
    inHand := if l.tx = .sending then l.inHand else none
    collisions := 0
    backoff := none
    turn := 0
    dropAfter := l.tx = .sending }

/-- R160: the engine reset of CPI; the OUT lamp follows the slot states. -/
def Cpi.engineReset (c : Cpi) (now : Nat) : Cpi := { c.stopBell.setLamp .off now with fastFlash := none }

/-- R188: the engine reset, all in one event. -/
def State.engineReset (s : State) : State :=
  let now := s.clock.now
  State.setOutLamp
    { s with
      ple := resetPle
      cye := []
      rsl := []
      slc := { a := s.slc.a.engineReset now, b := s.slc.b.engineReset now }
      nwt := { a := [], b := [] }
      nbt := []
      adv := { resetAdv with
               seq := s.adv.seq
               timer := if s.own.isSome then .startWait (now + startWaitMs) else .stopped }
      tkm := resetTkm
      lnc := s.lnc.engineReset
      xpt := resetXpt
      cpi := s.cpi.engineReset now }

/-! ### The commands -/

/-- COLD_RESET (R181), in any phase (R174: in a brown-out hold it ends the hold). -/
def execColdReset (s : State) : Host.Outcome State Fault Refusal := .next s.coldReset

/-- RESET_RELEASE (R181, R182). In a brown-out hold the release is taken as a cold reset (R174; log 18). -/
def execResetRelease (s : State) : Host.Outcome State Fault Refusal :=
  .next <|
    match s.phase with
    | .resetHeld => s.beginRead
    | .brownOutHeld => s.coldReset.beginRead
    | .readingConfig | .running => s

/-- CONFIG_READ_COMPLETE (R177, R182): all 32 bytes taken. -/
def execConfigReadComplete (bytes : List Byte) (level : Nat) (s : State) : Host.Outcome State Fault Refusal :=
  .next (if s.phase = .readingConfig ∧ bytes.length = 32 then s.startUp (some bytes) level else s)

/-- CONFIG_READ_DEADLINE (R177, R182): the record is absent. The time base starts only as the read ends (R180), and the
model measures no 100 ms: it takes the deadline at any moment of the read (log 37). -/
def execConfigReadDeadline (level : Nat) (s : State) : Host.Outcome State Fault Refusal :=
  .next (if s.phase = .readingConfig then s.startUp none level else s)

/-- INPUT_WATCH_END (R160). -/
def execInputWatchEnd (down lifted : Bool) (s : State) : Host.Outcome State Fault Refusal :=
  .next (s.expire s.cpi.watchEnd fun s => s.withCpi (s.cpi.endWatch s.clock.now down lifted))

/-- SUPPLY_SAMPLE (R171 to R174). In the brown-out hold SPM's timer alone runs, outside the time base (log 21). -/
def execSupplySample (level : Nat) (s : State) : Host.Outcome State Fault Refusal :=
  .next <|
    match s.phase with
    | .brownOutHeld => if recoveryLevel ≤ level then s.beginRead else s
    | .running =>
      s.expire s.spm.timer fun s => if level < brownOutLevel then s.brownOut else s.takeSample level
    | .resetHeld | .readingConfig => s

/-- UPTIME_TICK (R180). The ageing of the network entries is an event of the table, which ADV watches (R132). -/
def execUptimeTick (s : State) : Host.Outcome State Fault Refusal :=
  .next (s.whenRunning fun s => s.countSecond.watchAdvert)

end Sys2Proof.Machine
end

