-- ==== Sys2Proof/Machine/Modem.lean ====
section
/-! DEFINITION. The messages of the modules (R64, R65, R75 to R87). A message of a module that is past warm-up restarts
the heartbeat watch, fitting or not (R65, R87); one taken in OFF, WARMING, RESTARTING, DISABLED or ABSENT is ignored
(R64, R87), RDY in WARMING apart (R77). -/

namespace Sys2Proof.Machine

/-- A readable message of the module on a modem line: while the module is past warm-up the heartbeat watch restarts and
the message is taken (R65, R87). -/
def State.hear (s : State) (sl : Slot) (ms : Nat) (take : State → State) : State :=
  s.whenRunning fun s =>
    let s' := s.arrive ms
    if isPastWarmUp (s'.slot sl).state then take (s'.hearModule sl) else s'

/-- SLC reports to the holder of the slot's grant (R88). -/
def State.reportSlot (s : State) (sl : Slot) (r : SlotReport) : State := s.reportHolder sl (s.slot sl).grant r

/-- R64, R77: RDY in WARMING. The heartbeat watch starts and the arbiter runs. -/
def State.moduleReady (s : State) (sl : Slot) : State :=
  (s.setSlot sl fun r => { r.settled .idle with heartbeat := some (s.clock.now + heartbeatMs) }).arbiter sl

/-- RDY (R64, R77). In a state with work in hand it is a fault. -/
def execRdy (sl : Slot) (ms : Nat) (s : State) : Host.Outcome State Fault Refusal :=
  .next (s.whenRunning fun s =>
    let s' := s.arrive ms
    match (s'.slot sl).state with
    | .warming => s'.moduleReady sl
    | .idle => s'.hearModule sl
    | .scanning | .dialling | .ringing | .talking | .clearing | .offered => (s'.hearModule sl).slotFault sl
    | .absent | .off | .restarting | .disabled => s')

/-- NETS (R73, R78). One with more than 8 items is no readable message (R65; log 19). -/
def execNets (sl : Slot) (items : List NetItem) (ms : Nat) (s : State) : Host.Outcome State Fault Refusal :=
  .next (
    if items.length ≤ 8 then
      s.hear sl ms fun s =>
        if (s.slot sl).state = .scanning then (s.takeNets sl items).endScan sl else s
    else s.whenRunning fun s => s.arrive ms)

/-- DACK (R79). -/
def execDack (sl : Slot) (ms : Nat) (s : State) : Host.Outcome State Fault Refusal :=
  .next (s.hear sl ms fun s =>
    if (s.slot sl).state = .dialling then
      (s.setSlot sl fun r => { r.settled .ringing with deadline := some (s.clock.now + ringLimitMs) }).reportSlot sl
        .dack
    else s)

/-- The code of the outstanding DIAL. -/
def SlotRec.dialCode (r : SlotRec) : Nat :=
  match r.request with
  | .dial code => code
  | _ => 0

/-- DNAK (R80); BARRED bars the entry of the DIAL's code before the holder is told (R56; log 9). -/
def execDnak (sl : Slot) (reason : DnakReason) (ms : Nat) (s : State) : Host.Outcome State Fault Refusal :=
  .next (s.hear sl ms fun s =>
    if (s.slot sl).state = .dialling then
      let s1 := s.setSlot sl fun r => r.settled .idle
      let s2 := if reason = .barred then s1.barEntry sl (s.slot sl).dialCode else s1
      s2.reportSlot sl (.dnak reason)
    else s)

/-- R81: a repeat is counted and falls due; no dial deadline runs until it has gone out. -/
def SlotRec.repeatLater (r : SlotRec) : SlotRec :=
  { r with repeats := r.repeats + 1, repeatsDue := r.repeatsDue + 1, deadline := none }

/-- R81: a repeated DIAL goes out; with none left to send, the fresh dial deadline runs from it. -/
def SlotRec.sendRepeat (now : Nat) (r : SlotRec) : SlotRec :=
  { r.send (.dial r.dialCode) with
    repeatsDue := r.repeatsDue - 1
    deadline := if r.repeatsDue ≤ 1 then some (now + dialDeadlineMs) else none }

/-- DRTY (R81): a repeat falls due, or the third one ends the dial. The DIAL before it has been answered, so its
deadline stops, and the next one runs from the repeated DIAL (log 13). -/
def execDrty (sl : Slot) (ms : Nat) (s : State) : Host.Outcome State Fault Refusal :=
  .next (s.hear sl ms fun s =>
    if (s.slot sl).state = .dialling then
      (if (s.slot sl).repeats < 2 then s.setSlot sl SlotRec.repeatLater
      else (s.setSlot sl fun r => r.settled .idle).reportSlot sl .retry)
    else s)

/-- DIAL_REPEAT (R81): the modem line is free, and the repeated DIAL goes out under a fresh dial deadline. -/
def execDialRepeat (sl : Slot) (ms : Nat) (s : State) : Host.Outcome State Fault Refusal :=
  .next (s.whenRunning fun s =>
    let s' := s.arrive ms
    if (s'.slot sl).state = .dialling ∧ (s'.slot sl).repeatsDue ≠ 0 then
      s'.setSlot sl (SlotRec.sendRepeat s'.clock.now)
    else s')

/-- RING (R82): the first one taken in RINGING restarts the ring limit; each is reported. -/
def execRing (sl : Slot) (ms : Nat) (s : State) : Host.Outcome State Fault Refusal :=
  .next (s.hear sl ms fun s =>
    if (s.slot sl).state = .ringing then
      (s.setSlot sl fun r =>
        if r.rung then r else { r with rung := true, deadline := some (s.clock.now + ringLimitMs) }).reportSlot sl .ring
    else s)

/-- LIVE (R83). -/
def execLive (sl : Slot) (ms : Nat) (s : State) : Host.Outcome State Fault Refusal :=
  .next (s.hear sl ms fun s =>
    match (s.slot sl).state with
    | .dialling | .ringing => (s.setSlot sl fun r => r.settled .talking).reportSlot sl .live
    | _ => s)

/-- GONE (R75, R84). In CLEARING the report that the slot has cleared changes nothing at an engine (log 23). -/
def execGone (sl : Slot) (cause : GoneCause) (ms : Nat) (s : State) : Host.Outcome State Fault Refusal :=
  .next (s.hear sl ms fun s =>
    match (s.slot sl).state with
    | .dialling | .ringing | .talking => (s.setSlot sl fun r => r.settled .idle).reportSlot sl (.gone cause)
    | .offered =>
      ((s.setSlot sl fun r => { r.settled .idle with grant := .nobody }).reportHolder sl (s.slot sl).grant
        (.gone cause)).arbiter sl
    | .clearing => (s.setSlot sl fun r => r.settled .idle).arbiter sl
    | _ => s)

/-- BEAT (R85, R53). -/
def execBeat (sl : Slot) (camped level : Option Nat) (ms : Nat) (s : State) : Host.Outcome State Fault Refusal :=
  .next (s.hear sl ms fun s => s.takeBeat sl camped level)

/-- CALLIN (R86). -/
def execCallin (sl : Slot) (ms : Nat) (s : State) : Host.Outcome State Fault Refusal :=
  .next (s.hear sl ms fun s =>
    match (s.slot sl).state with
    | .idle | .scanning => s.takeCallin sl
    | .dialling | .ringing | .talking | .clearing => s.refuseCallin sl
    | _ => s)

/-- MODEM_SIGNAL_DISCARDED (R65): it does not restart the heartbeat watch. -/
def execModemSignalDiscarded (_sl : Slot) (ms : Nat) (s : State) : Host.Outcome State Fault Refusal :=
  .next (s.whenRunning fun s => s.arrive ms)

end Sys2Proof.Machine
end

