-- ==== Sys2Proof/Machine/SlotTimers.lean ====
section
/-! DEFINITION. The commands of the slot records' timers (R64 to R67, R71 to R75, R82). -/

namespace Sys2Proof.Machine

/-- The request deadline of a slot, read as the deadline of state `st` (R62). -/
def State.deadlineIn (s : State) (sl : Slot) (st : SlotState) : Option Nat :=
  if (s.slot sl).state = st then (s.slot sl).deadline else none

/-- WARM_UP_DEADLINE_EXPIRY (R64): a fault. -/
def execWarmUpDeadlineExpiry (sl : Slot) (s : State) : Host.Outcome State Fault Refusal :=
  .next (s.expire (s.deadlineIn sl .warming) fun s => s.slotFault sl)

/-- HEARTBEAT_WATCH_EXPIRY (R65): a fault. -/
def execHeartbeatWatchExpiry (sl : Slot) (s : State) : Host.Outcome State Fault Refusal :=
  .next (s.expire (s.slot sl).heartbeat fun s => s.slotFault sl)

/-- SCAN_DEADLINE_EXPIRY (R73): the scan ends with no NETS. -/
def execScanDeadlineExpiry (sl : Slot) (s : State) : Host.Outcome State Fault Refusal :=
  .next (s.expire (s.deadlineIn sl .scanning) fun s => s.endScan sl)

/-- DROP goes out, and the holder is told TIMEOUT (R74, R82; log 7). -/
def State.dropAndTimeOut (s : State) (sl : Slot) : State :=
  (s.setSlot sl fun r => r.drop s.clock.now).reportSlot sl .timeout

/-- DIAL_DEADLINE_EXPIRY (R74). -/
def execDialDeadlineExpiry (sl : Slot) (s : State) : Host.Outcome State Fault Refusal :=
  .next (s.expire (s.deadlineIn sl .dialling) fun s => s.dropAndTimeOut sl)

/-- SLOT_RING_LIMIT_EXPIRY (R82). -/
def execSlotRingLimitExpiry (sl : Slot) (s : State) : Host.Outcome State Fault Refusal :=
  .next (s.expire (s.deadlineIn sl .ringing) fun s => s.dropAndTimeOut sl)

/-- CLEAR_DEADLINE_EXPIRY (R75): a fault. -/
def execClearDeadlineExpiry (sl : Slot) (s : State) : Host.Outcome State Fault Refusal :=
  .next (s.expire (s.deadlineIn sl .clearing) fun s => s.slotFault sl)

/-- IDLE_TIMER_EXPIRY (R71): a kept slot's idle timer starts again; a slot that is not kept is powered off. -/
def execIdleTimerExpiry (sl : Slot) (s : State) : Host.Outcome State Fault Refusal :=
  .next (s.expire (s.slot sl).idleTimer fun s =>
    if s.keeps sl then s.setSlot sl fun r => { r with idleTimer := some (s.clock.now + idleMs) }
    else s.setSlot sl fun r => { r.settled .off with power := false, heartbeat := none })

/-- SCAN_TIMER_EXPIRY (R72): a periodic SCAN claim is placed; the timer stays stopped until the scan ends. -/
def execScanTimerExpiry (sl : Slot) (s : State) : Host.Outcome State Fault Refusal :=
  .next (s.expire (s.slot sl).scanTimer fun s =>
    let s' := s.setSlot sl fun r => { r with scanTimer := none }
    if s'.refusesClaim sl then s' else s'.placeClaim sl .scan)

/-- RESTART_TIMER_EXPIRY (R63, R67): RESTARTING is warmed; a slot OFF after an engine reset gets a SCAN claim. Leaving
RESTARTING makes ADV look at its first item (R132). -/
def execRestartTimerExpiry (sl : Slot) (s : State) : Host.Outcome State Fault Refusal :=
  .next (s.expire (s.slot sl).restartTimer fun s =>
    match (s.slot sl).state with
    | .restarting => (s.setSlot sl (SlotRec.warm s.clock.now)).watchAdvert
    | .off => (s.setSlot sl fun r => { r with restartTimer := none }).placeClaim sl .scan
    | _ => s)

end Sys2Proof.Machine
end

