-- ==== Sys2Proof/Machine/CarryFrames.lean ====
section
/-! DEFINITION. The commands of the carry frames CREQ, CNAK, CPRG and CEND (R91, R18, R20, R104, R157) and of the carry
records' timers (R97, R103). -/

namespace Sys2Proof.Machine

/-- CREQ (R91). CYE acts only on one addressed to this box's own address (R157). -/
def execCreq (h : Header) (callId code ms : Nat) (s : State) : Host.Outcome State Fault Refusal :=
  .next (s.receive h (.creq callId code) ms fun s => if s.isMine h then s.takeCreq h.src callId code else s)

/-- The queue timer of a carry record in QUEUED (R97). -/
def State.queueTimer (s : State) (id : CarryId) : Option Nat := (findCarry s.cye id).bind CarryRec.queueTimer

/-- QUEUE_TIMER_EXPIRY (R97): the carry ends BUSY. -/
def execQueueTimerExpiry (id : CarryId) (s : State) : Host.Outcome State Fault Refusal :=
  .next (s.expire (s.queueTimer id) fun s =>
    match findCarry s.cye id with
    | some c => s.endCarry c (some .busy) true none (.failed .busy)
    | none => s)

/-- The requester silence timer of a carry record (R103). -/
def State.silenceTimer (s : State) (id : CarryId) : Option Nat := (findCarry s.cye id).bind CarryRec.silence

/-- REQUESTER_SILENCE_EXPIRY (R103): the carry ends LOST, with no report to the network table. -/
def execRequesterSilenceExpiry (id : CarryId) (s : State) : Host.Outcome State Fault Refusal :=
  .next (s.expire (s.silenceTimer id) fun s =>
    match findCarry s.cye id with
    | some c => s.endCarry c (some .lost) true none (.failed .lost)
    | none => s)

/-- CNAK (R18). -/
def execCnak (h : Header) (callId : Nat) (reason : CnakReason) (ms : Nat) (s : State) :
    Host.Outcome State Fault Refusal :=
  .next (s.receive h (.cnak callId reason) ms fun s => if s.isMine h then s.takeCnak h.src callId reason else s)

/-- CPRG (R20). -/
def execCprg (h : Header) (callId : Nat) (stage : CprgStage) (ms : Nat) (s : State) :
    Host.Outcome State Fault Refusal :=
  .next (s.receive h (.cprg callId stage) ms fun s => if s.isMine h then s.takeCprg h.src callId stage else s)

/-- CEND (R104, R105). -/
def execCend (h : Header) (callId : Nat) (cause : CendCause) (ms : Nat) (s : State) :
    Host.Outcome State Fault Refusal :=
  .next (s.receive h (.cend callId cause) ms fun s => if s.isMine h then s.takeCend h.src callId cause else s)

end Sys2Proof.Machine
end

