-- ==== Sys2Proof/Machine/TrunkFrames.lean ====
section
/-! DEFINITION. The commands of the trunk frames CACK, THLD, TMOV and TFRE (R19, R21, R22, R103, R118 to R124, R157)
and of the trunk map's timers (R115, R116, R120). -/

namespace Sys2Proof.Machine

/-- A CACK or TMOV: TKM takes it whatever its destination, with the trunk field that names a trunk; PLE takes it too
where it is addressed to this box and the field lies in 1..4, in a free order (R157; log 6). -/
def State.takeAnnouncement (s : State) (h : Header) (field : Nat) (ple : Trunk → State → State) : State :=
  if s.isMine h then
    match trunkOf field with
    | some t => s.inFreeOrder (ple t) fun s => s.mapAnnounced h.src field
    | none => s.mapAnnounced h.src field
  else s.mapAnnounced h.src field

/-- CACK (R19, R119, R122). -/
def execCack (h : Header) (callId trunk ms : Nat) (s : State) : Host.Outcome State Fault Refusal :=
  .next (s.receive h (.cack callId trunk) ms fun s =>
    s.takeAnnouncement h trunk fun t s => s.takeCack h.src callId t)

/-- TMOV (R21, R119, R122). The old trunk field is not acted on (R118). -/
def execTmov (h : Header) (callId oldTrunk newTrunk ms : Nat) (s : State) : Host.Outcome State Fault Refusal :=
  .next (s.receive h (.tmov callId oldTrunk newTrunk) ms fun s =>
    s.takeAnnouncement h newTrunk fun t s => s.takeTmov h.src callId t)

/-- THLD (R22, R103, R120, R123, R124): the map, the requester silence timer and the carrier silence timer. The map
turns away a THLD that names this box as holder, and the other two write a timer that neither of the rest reads, so
their order is not seen. -/
def execThld (h : Header) (trunk holder partner callId ms : Nat) (s : State) : Host.Outcome State Fault Refusal :=
  .next (s.receive h (.thld trunk holder partner callId) ms fun s =>
    ((s.mapHeld h.src trunk holder partner).carryHeardHold h.src holder callId).heardCarrier trunk holder)

/-- TFRE (R121). -/
def execTfre (h : Header) (trunk ms : Nat) (s : State) : Host.Outcome State Fault Refusal :=
  .next (s.receive h (.tfre trunk) ms fun s => s.mapFreed h.src trunk)

/-- The guard timer of a CLAIMING entry (R112). -/
def TrunkEntry.guardTimer : TrunkEntry → Option Nat
  | .claiming _ at_ _ _ => some at_
  | .free | .held _ _ | .owned _ _ => none

/-- GUARD_TIMER_EXPIRY (R115): the entry is OWNED. -/
def execGuardTimerExpiry (t : Trunk) (s : State) : Host.Outcome State Fault Refusal :=
  .next (s.expire (s.trunk t).guardTimer fun s =>
    match s.trunk t with
    | .claiming id _ _ x => s.setTrunk t (.owned id x)
    | .free | .held _ _ | .owned _ _ => s)

/-- The hold refresh timer of a carry record (R116). -/
def State.refreshTimer (s : State) (id : CarryId) : Option Nat :=
  (s.tkm.trunkOfCarry id).bind fun t => (s.trunk t).refresh

/-- HOLD_REFRESH (R116): a THLD for the record's trunk, and 2 s more. -/
def execHoldRefresh (id : CarryId) (s : State) : Host.Outcome State Fault Refusal :=
  .next (s.expire (s.refreshTimer id) fun s =>
    match s.tkm.trunkOfCarry id with
    | some t => (s.holdFrame t id).setTrunk t ((s.trunk t).withRefresh (s.clock.now + holdRefreshMs))
    | none => s)

/-- The hold timer of a HELD entry (R112). -/
def TrunkEntry.holdTimer : TrunkEntry → Option Nat
  | .held _ at_ => some at_
  | .free | .claiming _ _ _ _ | .owned _ _ => none

/-- HOLD_TIMER_EXPIRY (R120): the entry is FREE. -/
def execHoldTimerExpiry (t : Trunk) (s : State) : Host.Outcome State Fault Refusal :=
  .next (s.expire (s.trunk t).holdTimer fun s => s.setTrunk t .free)

end Sys2Proof.Machine
end

