-- ==== Sys2Proof/Machine/AdvertCommands.lean ====
section
/-! DEFINITION. The commands of the adverts: REACH (R135 to R137), and ADV's timers (R131 to R133). -/

namespace Sys2Proof.Machine

/-- REACH (R135, R157). -/
def execReach (h : Header) (payload : List Byte) (ms : Nat) (s : State) : Host.Outcome State Fault Refusal :=
  .next (s.receive h (.reach payload) ms fun s => if s.isMineOrAll h then s.takeReachFrame h.src payload else s)

/-- The advert timer in periodic mode (R128). -/
def AdvertTimer.periodicAt : AdvertTimer → Option Nat
  | .periodic at_ => some at_
  | .stopped | .startWait _ => none

/-- The advert timer in start wait (R128). -/
def AdvertTimer.startWaitAt : AdvertTimer → Option Nat
  | .startWait at_ => some at_
  | .stopped | .periodic _ => none

/-- ADVERT_TIMER_EXPIRY (R131). -/
def execAdvertTimerExpiry (s : State) : Host.Outcome State Fault Refusal :=
  .next (s.expire s.adv.timer.periodicAt State.buildReach)

/-- START_WAIT_EXPIRY (R133). -/
def execStartWaitExpiry (s : State) : Host.Outcome State Fault Refusal :=
  .next (s.expire s.adv.timer.startWaitAt State.buildReach)

/-- R132: when a pending early advert's spacing ends. -/
def State.spacingEnd (s : State) : Option Nat :=
  if s.adv.early then s.adv.lastBuild.map (· + earlySpacingMs) else none

/-- EARLY_ADVERT_SPACING_END (R132): the flag is cleared and the first item compared again. -/
def execEarlyAdvertSpacingEnd (s : State) : Host.Outcome State Fault Refusal :=
  .next (s.expire s.spacingEnd fun s => (s.withAdv { s.adv with early := false }).watchAdvert)

end Sys2Proof.Machine
end

