-- ==== Sys2Proof/Machine/CallPoint.lean ====
section
/-! DEFINITION. The call point's commands: the button and hook inputs and their debounce (R160 to R162), the cadences
of the tone, the bell and the CALL lamp, and the end of the fast flash (R163, R164, R169). -/

namespace Sys2Proof.Machine

/-- R161: the button state after a change of level; during the watch after a reset the span starts again (R160). -/
def Cpi.buttonChange (c : Cpi) (down : Bool) (now : Nat) : Cpi :=
  match c.buttonWatch with
  | some _ => { c with buttonWatch := some (now + debounceMs) }
  | none =>
    match c.button, down with
    | .released, true => { c with button := .pressPending, buttonTimer := some (now + debounceMs) }
    | .pressPending, false => { c with button := .released, buttonTimer := none }
    | .pressed, false => { c with button := .releasePending, buttonTimer := some (now + debounceMs) }
    | .releasePending, true => { c with button := .pressed, buttonTimer := none }
    | _, _ => c

/-- R162: the hook state after a change of level. -/
def Cpi.hookChange (c : Cpi) (lifted : Bool) (now : Nat) : Cpi :=
  match c.hookWatch with
  | some _ => { c with hookWatch := some (now + debounceMs) }
  | none =>
    match c.hook, lifted with
    | .onHook, true => { c with hook := .liftPending, hookTimer := some (now + debounceMs) }
    | .liftPending, false => { c with hook := .onHook, hookTimer := none }
    | .lifted, false => { c with hook := .replacePending, hookTimer := some (now + debounceMs) }
    | .replacePending, true => { c with hook := .lifted, hookTimer := none }
    | _, _ => c

/-- BUTTON_INPUT_CHANGE (R161). -/
def execButtonInputChange (down : Bool) (ms : Nat) (s : State) : Host.Outcome State Fault Refusal :=
  .next (s.whenRunning fun s =>
    let s' := s.arrive ms
    s'.withCpi (s'.cpi.buttonChange down s'.clock.now))

/-- BUTTON_TIMER_EXPIRY (R161): PRESSED with one press raised, or RELEASED. -/
def execButtonTimerExpiry (s : State) : Host.Outcome State Fault Refusal :=
  .next (s.expire s.cpi.buttonTimer fun s =>
    match s.cpi.button with
    | .pressPending => (s.withCpi { s.cpi with button := .pressed, buttonTimer := none }).takePress
    | .releasePending => s.withCpi { s.cpi with button := .released, buttonTimer := none }
    | .released | .pressed => s)

/-- HOOK_INPUT_CHANGE (R162). -/
def execHookInputChange (lifted : Bool) (ms : Nat) (s : State) : Host.Outcome State Fault Refusal :=
  .next (s.whenRunning fun s =>
    let s' := s.arrive ms
    s'.withCpi (s'.cpi.hookChange lifted s'.clock.now))

/-- HOOK_TIMER_EXPIRY (R162): LIFTED with a lift raised, or ON_HOOK with a replacement raised. -/
def execHookTimerExpiry (s : State) : Host.Outcome State Fault Refusal :=
  .next (s.expire s.cpi.hookTimer fun s =>
    match s.cpi.hook with
    | .liftPending => (s.withCpi { s.cpi with hook := .lifted, hookTimer := none }).takeLift
    | .replacePending => (s.withCpi { s.cpi with hook := .onHook, hookTimer := none }).takeReplacement
    | .onHook | .lifted => s)

/-- TONE_CADENCE (R169): the burst of 0.5 s and the silence of 3.5 s follow one another. -/
def execToneCadence (s : State) : Host.Outcome State Fault Refusal :=
  .next (s.expire s.xpt.cadence fun s =>
    match s.xpt.cue with
    | .connecting true => s.withXpt { s.xpt with cue := .connecting false, cadence := some (s.clock.now + toneOffMs) }
    | .connecting false => s.withXpt { s.xpt with cue := .connecting true, cadence := some (s.clock.now + toneOnMs) }
    | .silent => s)

/-- BELL_CADENCE (R163): driven for 1 s, released for 2 s. -/
def execBellCadence (s : State) : Host.Outcome State Fault Refusal :=
  .next (s.expire s.cpi.bellCadence fun s =>
    match s.cpi.bell with
    | .ringing true => s.withCpi { s.cpi with bell := .ringing false, bellCadence := some (s.clock.now + bellOffMs) }
    | .ringing false => s.withCpi { s.cpi with bell := .ringing true, bellCadence := some (s.clock.now + bellOnMs) }
    | .silent => s)

/-- LAMP_CADENCE (R164): lit and dark phases of equal length, 0.5 s in SLOW and 0.125 s in FAST. -/
def execLampCadence (s : State) : Host.Outcome State Fault Refusal :=
  .next (s.expire s.cpi.lampCadence fun s =>
    match s.cpi.lamp with
    | .slow => s.withCpi { s.cpi with lampLit := !s.cpi.lampLit, lampCadence := some (s.clock.now + lampSlowMs) }
    | .fast => s.withCpi { s.cpi with lampLit := !s.cpi.lampLit, lampCadence := some (s.clock.now + lampFastMs) }
    | .off | .steady => s)

/-- FAST_FLASH_TIMER_EXPIRY (R164): the CALL lamp mode becomes OFF. -/
def execFastFlashTimerExpiry (s : State) : Host.Outcome State Fault Refusal :=
  .next (s.expire s.cpi.fastFlash fun s => s.withCpi { s.cpi.setLamp .off s.clock.now with fastFlash := none })

end Sys2Proof.Machine
end

