-- ==== Sys2Proof/Machine/Line.lean ====
section
/-! DEFINITION. The commands of the corridor line's transmitter (R149 to R152) and of a received frame that the checks
drop (R153 to R156). -/

namespace Sys2Proof.Machine

/-- No byte of another box comes in the 2 ms after `b`. -/
def Lnc.isQuietAfter (l : Lnc) (b : Nat) : Bool := l.heard.all fun x => x ≤ b || b + lineGapMs < x

/-- R149: when the line idle time reaches 2 ms in GAP: 2 ms after the last byte heard, or after the first of those to
come that is followed by 2 ms of quiet. -/
def State.gapEnd (s : State) : Option Nat :=
  if s.lnc.tx = .gap then
    ((s.lastByte :: s.lnc.heard.filter (s.lastByte ≤ ·)).filter s.lnc.isQuietAfter).min?.map (· + lineGapMs)
  else none

/-- GAP_END (R149): sending begins. -/
def execGapEnd (s : State) : Host.Outcome State Fault Refusal := .next (s.expire s.gapEnd State.beginSending)

/-- The bytes of a frame of this box on the line (R143). -/
def State.lineBytes (s : State) (f : TxFrame) : List Byte :=
  encodeFrame { seg := s.cfg.record.segment, dst := f.dst, src := s.ownNum } f.body

/-- The frame in hand has gone out whole; the trace holds its bytes (log 11). -/
def State.traceSent (s : State) : State :=
  match s.lnc.inHand with
  | some f => s.withLnc { s.lnc with sent := s.lnc.sent ++ [s.lineBytes f] }
  | none => s

/-- FRAME_SENT (R149): the last check byte was read back as sent. -/
def execFrameSent (ms : Nat) (s : State) : Host.Outcome State Fault Refusal :=
  .next (s.whenRunning fun s =>
    let s' := s.arrive ms
    if s'.lnc.tx = .sending then
      let s'' := s'.lineActive.traceSent
      s''.withLnc s''.lnc.finishFrame
    else s')

/-- R150: the backoff of the `count`-th collision after the draw of `r`, in ms. -/
def backoffOf (r : Word16) (count : Nat) : Nat := r.toNat % 2 ^ (min count 5) * backoffStepMs

/-- R150: the collision count rises, a value is drawn, and the transmitter backs off. -/
def State.backOff (s : State) : State :=
  let s' := s.draw
  let wait := backoffOf s'.lnc.rng (s'.lnc.collisions + 1)
  s'.withLnc
    { s'.lnc with
      collisions := s'.lnc.collisions + 1
      tx := if wait = 0 then .gap else .backoff
      backoff := if wait = 0 then none else some (s'.clock.now + wait) }

/-- COLLISION (R150, R151). A frame that an engine reset marked is dropped with no backoff (R142). -/
def execCollision (ms : Nat) (s : State) : Host.Outcome State Fault Refusal :=
  .next (s.whenRunning fun s =>
    let s' := s.arrive ms
    if s'.lnc.tx = .sending then
      let s'' := s'.lineActive
      if s''.lnc.dropAfter ∨ 7 ≤ s''.lnc.collisions then s''.withLnc s''.lnc.finishFrame else s''.backOff
    else s')

/-- BACKOFF_TIMER_EXPIRY (R149): GAP, and SENDING at once on a line that has been quiet. -/
def execBackoffTimerExpiry (s : State) : Host.Outcome State Fault Refusal :=
  .next (s.expire s.lnc.backoff fun s => (s.withLnc { s.lnc with tx := .gap, backoff := none }).sendIfQuiet)

/-- RECEIVED_FRAME_DROPPED (R153 to R156): the bytes meet the five checks. The effect of a frame that passes them all is
its own command's (log 14). -/
def execReceivedFrameDropped (bytes : List Byte) (ms : Nat) (s : State) : Host.Outcome State Fault Refusal :=
  .next (s.whenRunning fun s =>
    let s' := s.frameHeard ms
    s'.dropFrame (frameFate s'.cfg.record.segment s'.own bytes))

end Sys2Proof.Machine
end

