-- ==== Sys2Proof/Machine/Placement.lean ====
section
/-! DEFINITION. The commands of PLE's timers (R11, R17, R19, R22, R24, R28, R29, R31) and of the tables' timers and
ages (R44, R54, R57, R138). -/

namespace Sys2Proof.Machine

/-- PAUSE_TIMER_EXPIRY (R11). -/
def execPauseTimerExpiry (s : State) : Host.Outcome State Fault Refusal :=
  .next (s.expire s.ple.pauseTimer State.endWaiting)

/-- ANSWER_TIMER_EXPIRY (R17). -/
def execAnswerTimerExpiry (s : State) : Host.Outcome State Fault Refusal :=
  .next (s.expire s.ple.answerTimer fun s => s.endAttempt .timeout)

/-- REQUESTER_HOLD_REFRESH (R19): a further THLD with the same contents, every 2 s. -/
def execRequesterHoldRefresh (s : State) : Host.Outcome State Fault Refusal :=
  .next (s.expire s.ple.holdRefresh fun s =>
    match s.ple.relayCarrier, s.ple.trunk with
    | some n, some t =>
      (s.hand 0 (.thld (trunkNum t) n s.ownNum s.ple.callId)).setPle fun p =>
        { p with holdRefresh := some (s.clock.now + holdRefreshMs) }
    | _, _ => s)

/-- CARRIER_SILENCE_EXPIRY (R22): CEND(LOST), and the attempt ends LOST, or a loss while TALKING. -/
def execCarrierSilenceExpiry (s : State) : Host.Outcome State Fault Refusal :=
  .next (s.expire s.ple.carrierSilence fun s =>
    match s.ple.relayCarrier with
    | some n =>
      let s' := s.hand n (.cend s.ple.callId .lost)
      if s.ple.state = .talking then s'.loseTalk else s'.endAttempt .lost
    | none => s)

/-- RING_LIMIT_EXPIRY (R24): the attempt ends TIMEOUT, with DROP on an own route and CEND(LIMIT) on a relay route. -/
def execRingLimitExpiry (s : State) : Host.Outcome State Fault Refusal :=
  .next (s.expire s.ple.ringLimit fun s =>
    match s.ple.route with
    | some ⟨.slot sl, _⟩ => s.endOwnAttempt sl .timeout
    | some ⟨.box n, _⟩ => (s.hand n (.cend s.ple.callId .limit)).endAttempt .timeout
    | none => s)

/-- PLACEMENT_LIMIT_EXPIRY (R28): the close with cause LIMIT. -/
def execPlacementLimitExpiry (s : State) : Host.Outcome State Fault Refusal :=
  .next (s.expire s.ple.placementLimit fun s =>
    s.closeCall .limit (if s.ple.reachedTalking then .lost else .noRoute))

/-- BELL_TIMER_EXPIRY (R31): the callback was not taken. -/
def execBellTimerExpiry (s : State) : Host.Outcome State Fault Refusal :=
  .next (s.expire s.ple.bellTimer fun s => s.closeCall .callerCleared .callerCleared)

/-- CALLBACK_WINDOW_EXPIRY (R29): the window whose seconds have run out closes (log 28). -/
def execCallbackWindowExpiry (s : State) : Host.Outcome State Fault Refusal :=
  .next (if s.ple.window = some 0 then s.setPle fun p => { p with window := none } else s)

/-- The decay timer of a quality counter (R44). -/
def State.decayTimer (s : State) : CounterRef → Option Nat
  | .network sl code => (findEntry (s.table sl) code).bind fun e => e.quality.decay
  | .neighbour addr => (s.nbt.find? fun n => n.addr == addr).bind fun n => n.quality.decay

/-- QUALITY_DECAY_EXPIRY (R44): the counter falls by 1. -/
def execQualityDecayExpiry (counter : CounterRef) (s : State) : Host.Outcome State Fault Refusal :=
  .next (s.expire (s.decayTimer counter) fun s =>
    match counter with
    | .network sl code =>
      s.tableEvent sl (updateEntry code fun e => { e with quality := e.quality.decayed s.clock.now })
    | .neighbour addr =>
      s.withNbt (updateNeighbour addr (fun n => { n with quality := n.quality.decayed s.clock.now }) s.nbt))

/-- NETWORK_ENTRY_REMOVAL (R54): an entry whose age has reached 3600 s leaves the table. -/
def execNetworkEntryRemoval (sl : Slot) (code : Nat) (s : State) : Host.Outcome State Fault Refusal :=
  .next (match findEntry (s.table sl) code with
    | some e =>
      if removalSeconds ≤ e.age then s.tableEvent sl (List.filter fun d => d.code != code) else s
    | none => s)

/-- BAR_EXPIRY (R57): barred-until, reached by the uptime, becomes absent. -/
def execBarExpiry (sl : Slot) (code : Nat) (s : State) : Host.Outcome State Fault Refusal :=
  .next (match (findEntry (s.table sl) code).bind NetEntry.barredUntil with
    | some u =>
      if u ≤ s.cfg.uptime then s.tableEvent sl (updateEntry code fun e => { e with barredUntil := none }) else s
    | none => s)

/-- NEIGHBOUR_STALE (R138): a NEW or USABLE entry whose age has reached three advert intervals. Until the command is
taken the entry stays NEW or USABLE and may still form routes (log 36). -/
def execNeighbourStale (addr : Nat) (s : State) : Host.Outcome State Fault Refusal :=
  .next (s.withNbt (updateNeighbour addr
    (fun n =>
      if n.state ≠ .stale ∧ 3 * s.cfg.record.advertInterval ≤ n.age then { n with state := .stale } else n) s.nbt))

/-- NEIGHBOUR_REMOVAL (R138): a STALE entry whose age has reached ten advert intervals. Until the command is taken the
entry stays in the table (log 36). -/
def execNeighbourRemoval (addr : Nat) (s : State) : Host.Outcome State Fault Refusal :=
  .next (s.withNbt (s.nbt.filter fun n =>
    !(n.addr == addr && n.state == .stale && 10 * s.cfg.record.advertInterval ≤ n.age)))

end Sys2Proof.Machine
end

