-- ==== Sys2Proof/Machine/Service.lean ====
section
/-! DEFINITION. The service responder SVC: SREP and LREP (R146, R185, R186), and the tool's frames SQRY, LQRY and ERST
(R158, R185 to R187). -/

namespace Sys2Proof.Machine

/-- The service tool's address (00). -/
def toolAddress : Nat := 63

/-- R146, R185: the payload of an SREP, 21 bytes. -/
def State.statusReport (s : State) (refused : Bool) : List Byte :=
  [byteOf (s.statusFlags refused), byteOf s.spm.level, byteOf (supplyCode s.spm.supply),
    byteOf (slotStateCode s.slc.a.state), byteOf (slotStateCode s.slc.b.state),
    byteOf s.slc.a.faultTimes.length, byteOf s.slc.b.faultTimes.length,
    byteOf (callStateCode s.ple.state), byteOf s.cye.length,
    byteOf (trunkStateCode s.tkm.t1), byteOf (trunkStateCode s.tkm.t2),
    byteOf (trunkStateCode s.tkm.t3), byteOf (trunkStateCode s.tkm.t4),
    byteOf (s.nbt.filter fun n => n.state == .usable).length] ++
    bytes2 s.lnc.errors ++ [byteOf s.svc.log.length] ++ bytes4 s.cfg.uptime

/-- R146, R186: the sixteen bytes of a call log record in an LREP. -/
def recordBytes (r : LogRecord) : List Byte :=
  [byteOf r.callId, byteOf (logKindCode r.kind), byteOf (partnerCode r.partner)] ++ bytes3 (r.code.getD 0) ++
    [byteOf r.rounds, byteOf r.attempts, byteOf (logOutcomeCode r.outcome), byteOf (logReasonCode r.outcome)] ++
    bytes2 r.talkSeconds ++ bytes4 r.endUptime

/-- R146, R186: the payload of an LREP, 18 bytes: with the empty flag and zeros where no record stands at the index. -/
def State.logReport (s : State) (index : Nat) : List Byte :=
  match s.svc.log[index]? with
  | some r => byteOf index :: byteOf 0 :: recordBytes r
  | none => byteOf index :: byteOf 1 :: List.replicate 16 (byteOf 0)

/-- R158: a tool frame is handed to SVC. -/
def State.hearsTool (s : State) (h : Header) : Bool := h.src == toolAddress && s.isMineOrAll h && s.own.isSome

/-- SVC hands LNC an SREP to the tool (R185). -/
def State.handStatus (s : State) (refused : Bool) : State := s.hand toolAddress (.srep (s.statusReport refused))

/-- SQRY (R185). -/
def execSqry (h : Header) (ms : Nat) (s : State) : Host.Outcome State Fault Refusal :=
  .next (s.receive h .sqry ms fun s => if s.hearsTool h then s.handStatus false else s)

/-- LQRY (R186): an index above 31 is not answered. -/
def execLqry (h : Header) (index ms : Nat) (s : State) : Host.Outcome State Fault Refusal :=
  .next (s.receive h (.lqry index) ms fun s =>
    if s.hearsTool h ∧ index ≤ 31 then s.hand toolAddress (.lrep (s.logReport index)) else s)

/-- ERST (R187): refused while a call or a carry is in hand, else the engine reset of R188. -/
def execErst (h : Header) (ms : Nat) (s : State) : Host.Outcome State Fault Refusal :=
  .next (s.receive h .erst ms fun s =>
    if s.hearsTool h then
      (if s.ple.state ≠ .idle ∨ s.cye ≠ [] then s.handStatus true else s.engineReset.handStatus false)
    else s)

end Sys2Proof.Machine
end

