-- ==== Sys2Proof/Machine/Dispatch.lean ====
section
/-! DEFINITION. The meaning of every command: one arm per row of spec/opcode_table.json, in the table's order. -/

namespace Sys2Proof.Machine

def exec (i : Instr) (s : State) : Host.Outcome State Fault Refusal :=
  match i with
  | .coldReset => Sys2Proof.Machine.execColdReset s
  | .resetRelease => Sys2Proof.Machine.execResetRelease s
  | .configReadComplete bytes level => Sys2Proof.Machine.execConfigReadComplete bytes level s
  | .configReadDeadline level => Sys2Proof.Machine.execConfigReadDeadline level s
  | .inputWatchEnd buttonDown handsetLifted => Sys2Proof.Machine.execInputWatchEnd buttonDown handsetLifted s
  | .supplySample level => Sys2Proof.Machine.execSupplySample level s
  | .uptimeTick => Sys2Proof.Machine.execUptimeTick s
  | .buttonInputChange down ms => Sys2Proof.Machine.execButtonInputChange down ms s
  | .buttonTimerExpiry => Sys2Proof.Machine.execButtonTimerExpiry s
  | .hookInputChange lifted ms => Sys2Proof.Machine.execHookInputChange lifted ms s
  | .hookTimerExpiry => Sys2Proof.Machine.execHookTimerExpiry s
  | .pauseTimerExpiry => Sys2Proof.Machine.execPauseTimerExpiry s
  | .answerTimerExpiry => Sys2Proof.Machine.execAnswerTimerExpiry s
  | .requesterHoldRefresh => Sys2Proof.Machine.execRequesterHoldRefresh s
  | .carrierSilenceExpiry => Sys2Proof.Machine.execCarrierSilenceExpiry s
  | .ringLimitExpiry => Sys2Proof.Machine.execRingLimitExpiry s
  | .placementLimitExpiry => Sys2Proof.Machine.execPlacementLimitExpiry s
  | .bellTimerExpiry => Sys2Proof.Machine.execBellTimerExpiry s
  | .callbackWindowExpiry => Sys2Proof.Machine.execCallbackWindowExpiry s
  | .qualityDecayExpiry counter => Sys2Proof.Machine.execQualityDecayExpiry counter s
  | .networkEntryRemoval sl code => Sys2Proof.Machine.execNetworkEntryRemoval sl code s
  | .barExpiry sl code => Sys2Proof.Machine.execBarExpiry sl code s
  | .rdy sl ms => Sys2Proof.Machine.execRdy sl ms s
  | .nets sl items ms => Sys2Proof.Machine.execNets sl items ms s
  | .dack sl ms => Sys2Proof.Machine.execDack sl ms s
  | .dnak sl reason ms => Sys2Proof.Machine.execDnak sl reason ms s
  | .drty sl ms => Sys2Proof.Machine.execDrty sl ms s
  | .dialRepeat sl ms => Sys2Proof.Machine.execDialRepeat sl ms s
  | .ring sl ms => Sys2Proof.Machine.execRing sl ms s
  | .live sl ms => Sys2Proof.Machine.execLive sl ms s
  | .gone sl cause ms => Sys2Proof.Machine.execGone sl cause ms s
  | .beat sl camped level ms => Sys2Proof.Machine.execBeat sl camped level ms s
  | .callin sl ms => Sys2Proof.Machine.execCallin sl ms s
  | .modemSignalDiscarded sl ms => Sys2Proof.Machine.execModemSignalDiscarded sl ms s
  | .warmUpDeadlineExpiry sl => Sys2Proof.Machine.execWarmUpDeadlineExpiry sl s
  | .heartbeatWatchExpiry sl => Sys2Proof.Machine.execHeartbeatWatchExpiry sl s
  | .scanDeadlineExpiry sl => Sys2Proof.Machine.execScanDeadlineExpiry sl s
  | .dialDeadlineExpiry sl => Sys2Proof.Machine.execDialDeadlineExpiry sl s
  | .slotRingLimitExpiry sl => Sys2Proof.Machine.execSlotRingLimitExpiry sl s
  | .clearDeadlineExpiry sl => Sys2Proof.Machine.execClearDeadlineExpiry sl s
  | .idleTimerExpiry sl => Sys2Proof.Machine.execIdleTimerExpiry sl s
  | .scanTimerExpiry sl => Sys2Proof.Machine.execScanTimerExpiry sl s
  | .restartTimerExpiry sl => Sys2Proof.Machine.execRestartTimerExpiry sl s
  | .creq h callId code ms => Sys2Proof.Machine.execCreq h callId code ms s
  | .queueTimerExpiry id => Sys2Proof.Machine.execQueueTimerExpiry id s
  | .requesterSilenceExpiry id => Sys2Proof.Machine.execRequesterSilenceExpiry id s
  | .cack h callId trunk ms => Sys2Proof.Machine.execCack h callId trunk ms s
  | .cnak h callId reason ms => Sys2Proof.Machine.execCnak h callId reason ms s
  | .cprg h callId stage ms => Sys2Proof.Machine.execCprg h callId stage ms s
  | .cend h callId cause ms => Sys2Proof.Machine.execCend h callId cause ms s
  | .thld h trunk holder partner callId ms => Sys2Proof.Machine.execThld h trunk holder partner callId ms s
  | .tmov h callId oldTrunk newTrunk ms => Sys2Proof.Machine.execTmov h callId oldTrunk newTrunk ms s
  | .tfre h trunk ms => Sys2Proof.Machine.execTfre h trunk ms s
  | .reach h payload ms => Sys2Proof.Machine.execReach h payload ms s
  | .neighbourStale addr => Sys2Proof.Machine.execNeighbourStale addr s
  | .neighbourRemoval addr => Sys2Proof.Machine.execNeighbourRemoval addr s
  | .guardTimerExpiry t => Sys2Proof.Machine.execGuardTimerExpiry t s
  | .holdRefresh id => Sys2Proof.Machine.execHoldRefresh id s
  | .holdTimerExpiry t => Sys2Proof.Machine.execHoldTimerExpiry t s
  | .advertTimerExpiry => Sys2Proof.Machine.execAdvertTimerExpiry s
  | .startWaitExpiry => Sys2Proof.Machine.execStartWaitExpiry s
  | .earlyAdvertSpacingEnd => Sys2Proof.Machine.execEarlyAdvertSpacingEnd s
  | .gapEnd => Sys2Proof.Machine.execGapEnd s
  | .frameSent ms => Sys2Proof.Machine.execFrameSent ms s
  | .collision ms => Sys2Proof.Machine.execCollision ms s
  | .backoffTimerExpiry => Sys2Proof.Machine.execBackoffTimerExpiry s
  | .receivedFrameDropped bytes ms => Sys2Proof.Machine.execReceivedFrameDropped bytes ms s
  | .sqry h ms => Sys2Proof.Machine.execSqry h ms s
  | .lqry h index ms => Sys2Proof.Machine.execLqry h index ms s
  | .erst h ms => Sys2Proof.Machine.execErst h ms s
  | .toneCadence => Sys2Proof.Machine.execToneCadence s
  | .bellCadence => Sys2Proof.Machine.execBellCadence s
  | .lampCadence => Sys2Proof.Machine.execLampCadence s
  | .fastFlashTimerExpiry => Sys2Proof.Machine.execFastFlashTimerExpiry s

end Sys2Proof.Machine
end

