-- ==== Sys2Proof/Machine/Step.lean ====
section
/-! DEFINITION. One step: the command at the front of the queue is taken and executed with the queue's rest; on an empty
queue the part idles (log 1). -/

namespace Sys2Proof.Machine

/-- Replacing the queue of the waiting commands. -/
def State.withPending (s : State) (x : List Instr) : State := { s with pending := x }

/-- The front command is executed (log 1). -/
def step (s : State) : Host.Outcome State Fault Refusal :=
  match s.pending with
  | i :: rest => exec i (s.withPending rest)
  | [] => .next s

/-- `s` with the command that a word spells put at the front of its queue; the table spells none (log 29). -/
def State.withFetchWord (s : State) (nbits w : Nat) : State :=
  match decodeTableWord nbits w with
  | some i => s.withPending (i :: s.pending)
  | none => s

end Sys2Proof.Machine
end

