-- ==== Sys2Proof/Safety.lean ====
section
/-! DEFINITION. What counts as a sound state: the bounds and the agreements between fields that the spec states of the
blocks, one predicate per block. Each holds after reset and is kept by every step. -/

namespace Sys2Proof.Machine

/-! ### The modem slots (R62, R64, R65, R71) -/

/-- R62: the states with the power output raised. -/
def isPowered : SlotState → Bool
  | .absent | .off | .restarting | .disabled => false
  | .warming | .idle | .scanning | .dialling | .ringing | .talking | .clearing | .offered => true

/-- R62: the states in which the request deadline runs. -/
def runsDeadline : SlotState → Bool
  | .warming | .scanning | .dialling | .ringing | .clearing => true
  | .absent | .off | .idle | .talking | .offered | .restarting | .disabled => false

/-- R62: the outstanding request of each slot state. -/
def requestFits : SlotState → Request → Bool
  | .scanning, .scan | .dialling, .dial _ | .clearing, .drop => true
  | .scanning, _ | .dialling, _ | .clearing, _ => false
  | _, r => r == .nothing

/-- One slot record: power is raised exactly in the powered states (R62), the heartbeat watch runs exactly past warm-up
(R65), the idle timer exactly while the slot is IDLE with no grant and no claim (R71), the request deadline and the
request fit the state (R62) and no deadline runs while a repeated DIAL is due (R81; log 13), an ABSENT or DISABLED slot
runs no scan timer (R67, R72), the restart timer runs in RESTARTING and otherwise only in OFF (R63, R67), and the counts
keep their bounds (R62). -/
def SlotRec.Sound (r : SlotRec) : Prop :=
  r.power = isPowered r.state ∧ r.heartbeat.isSome = isPastWarmUp r.state ∧ r.idleTimer.isSome = r.isUnused ∧
  r.deadline.isSome = (runsDeadline r.state && r.repeatsDue == 0) ∧ requestFits r.state r.request = true ∧
  (isOut r.state = true → r.scanTimer = none) ∧ (r.state = .restarting → r.restartTimer.isSome = true) ∧
  (r.restartTimer.isSome = true → r.state = .restarting ∨ r.state = .off) ∧
  r.repeats ≤ 2 ∧ r.repeatsDue ≤ r.repeats ∧ (r.repeatsDue ≠ 0 → r.state = .dialling) ∧ r.faultTimes.length ≤ 2

def State.SlotsSound (s : State) : Prop := s.slc.a.Sound ∧ s.slc.b.Sound

/-- R165: the OUT lamp is lit exactly while both slots are ABSENT or DISABLED, once the part runs. -/
def State.OutLampFollows (s : State) : Prop :=
  s.phase = .running → s.cpi.outLamp = (isOut s.slc.a.state && isOut s.slc.b.state)

/-! ### The tables (R43, R44, R46, R134) -/

/-- R43, R44: a counter is 0..15, and its decay timer runs exactly while it is above 0. -/
def Quality.Sound (q : Quality) : Prop := q.value ≤ 15 ∧ (q.decay.isSome = true ↔ q.value ≠ 0)

/-- R46: the ranges of a network entry. -/
def NetEntry.Sound (e : NetEntry) : Prop :=
  isNetworkCode e.code = true ∧ (∀ l ∈ e.level, l ≤ 31) ∧ e.age ≤ removalSeconds ∧ e.quality.Sound

/-- R46: a table holds at most 8 entries, of distinct network codes. -/
def tableSound (es : List NetEntry) : Prop :=
  es.length ≤ 8 ∧ (es.map NetEntry.code).Nodup ∧ ∀ e ∈ es, e.Sound

def State.NetworksSound (s : State) : Prop := tableSound s.nwt.a ∧ tableSound s.nwt.b

/-- R134, R135: the ranges of a neighbour entry. -/
def NeighbourEntry.Sound (n : NeighbourEntry) : Prop :=
  1 ≤ n.addr ∧ n.addr ≤ 62 ∧ n.capacity ≤ 3 ∧ n.seq ≤ 255 ∧ n.age ≤ 65535 ∧ n.items.length ≤ 4 ∧
  (∀ i ∈ n.items, isNetworkCode i.code = true ∧ i.level ≤ 31 ∧ i.q ≤ 15) ∧ n.quality.Sound

/-- R134, R155: at most 16 entries, of distinct addresses, none of them this box's own. -/
def State.NeighboursSound (s : State) : Prop :=
  s.nbt.length ≤ 16 ∧ (s.nbt.map NeighbourEntry.addr).Nodup ∧ ∀ n ∈ s.nbt, n.Sound ∧ s.own ≠ some n.addr

/-! ### The corridor line (R142, R147, R148, R152) -/

/-- R142, R147, R152: at most 8 queued frames, at most one of them a REACH; the counts keep their bounds; the
transmitter is IDLE exactly with no frame in hand, and then nothing waits; the backoff timer runs exactly in BACKOFF;
the random generator never holds 0. -/
def Lnc.Sound (l : Lnc) : Prop :=
  l.queue.length ≤ 8 ∧ l.queue.countP (isClass .reach) ≤ 1 ∧ (∀ f ∈ l.queue, f.frameClass ≠ .unsent) ∧
  l.collisions ≤ 7 ∧ l.turn ≤ 4 ∧ l.errors ≤ 65535 ∧ (l.tx = .idle ↔ l.inHand = none) ∧
  (l.tx = .idle → l.queue = []) ∧ (l.backoff.isSome = true ↔ l.tx = .backoff) ∧ l.rng ≠ 0

def State.LineSound (s : State) : Prop := s.lnc.Sound

/-- R147, R133: an ISOLATED box keeps its queue empty and its transmitter IDLE with no backoff, and its advert timer
stopped. -/
def State.IsolatedIsQuiet (s : State) : Prop :=
  s.own = none →
    s.lnc.queue = [] ∧ s.lnc.tx = .idle ∧ s.lnc.inHand = none ∧ s.lnc.backoff = none ∧ s.adv.timer = .stopped

/-! ### Connections (R166 to R169) -/

/-- R166: two connections share no endpoint and no owner. -/
def Join.Apart (j k : Join) : Prop := j.owner ≠ k.owner ∧ k.has j.x = false ∧ k.has j.y = false

/-- R166, R168, R169: the connections are apart and joinable, the waiting joins belong to distinct owners and cannot be
made now, and the tone's cue and cadence run exactly while TONE is joined. -/
def Xpt.Sound (x : Xpt) : Prop :=
  x.joins.Pairwise Join.Apart ∧ (∀ j ∈ x.joins, isJoinable j.x j.y = true) ∧
  (x.waiting.map Join.owner).Nodup ∧ (∀ j ∈ x.waiting, isJoinable j.x j.y = true ∧ x.canMake j = false) ∧
  (x.cue = .silent ↔ x.hasTone = false) ∧ (x.cadence.isSome = true ↔ x.cue ≠ .silent)

def State.ConnectionsSound (s : State) : Prop := s.xpt.Sound

/-! ### Calls (R1, R3, R89, R112, R164, R184) -/

/-- R3: in IDLE the record is as a reset leaves it, the callback window apart. -/
def State.IdleCallIsClear (s : State) : Prop :=
  s.ple.state = .idle → s.ple = { resetPle with window := s.ple.window }

/-- R164: outside the fast flash the CALL lamp mode is the record state's, and the fast flash is of an IDLE record. -/
def State.LampFollows (s : State) : Prop :=
  (s.cpi.fastFlash = none → s.cpi.lamp = lampOf s.ple.state) ∧
  (s.cpi.fastFlash.isSome = true → s.cpi.lamp = .fast ∧ s.ple.state = .idle)

/-- R38, R184, R183: the candidate list holds at most 12 routes, the call log at most 32 records, the call id counter
0..255. -/
def State.ListsBounded (s : State) : Prop := s.rsl.length ≤ 12 ∧ s.svc.log.length ≤ 32 ∧ s.svc.nextCallId ≤ 255

/-- R89: at most three carry records, of distinct identities. -/
def State.QueueSound (s : State) : Prop := s.cye.length ≤ 3 ∧ (s.cye.map CarryRec.id).Nodup

/-- R112: every CLAIMING or OWNED entry belongs to a carry record that names its trunk, and every carry record's trunk
is held for it. -/
def State.TrunksAgree (s : State) : Prop :=
  (∀ c ∈ s.cye, (s.tkm.get c.trunk).owner = some c.id) ∧
  ∀ t id, (s.tkm.get t).owner = some id → ∃ c ∈ s.cye, c.id = id ∧ c.trunk = t

/-- R68, R97: a carry record waits at a slot exactly while it is bound there and QUEUED. R98, R69: it holds the slot's
grant exactly while it is bound there and past QUEUED. -/
def State.ClaimsAgree (s : State) : Prop :=
  ∀ sl id,
    (id ∈ (s.slot sl).waitingCarry ↔ ∃ c ∈ s.cye, c.id = id ∧ c.slot = sl ∧ c.state = .queued) ∧
    ((s.slot sl).grant = .carry id ↔ ∃ c ∈ s.cye, c.id = id ∧ c.slot = sl ∧ c.state ≠ .queued)

/-- R89, R112, R68, R98: the carry queue, the trunk map and the slots tell of the same carries. -/
def State.CarriesSound (s : State) : Prop := s.QueueSound ∧ s.TrunksAgree ∧ s.ClaimsAgree

/-! ### Configuration, supply and time (R170, R178, R179, R180) -/

/-- R178, R179: the record's fields lie in their ranges, and an assigned address is 1..62 of a VALID record. -/
def Cfg.Sound (c : Cfg) : Prop :=
  10 ≤ c.record.advertInterval ∧ c.record.advertInterval ≤ 120 ∧
  300 ≤ c.record.scanInterval ∧ c.record.scanInterval ≤ 3600 ∧ c.record.relayPenalty ≤ 63 ∧
  100 ≤ c.record.lowThreshold ∧ c.record.lowThreshold ≤ 140 ∧ c.record.filters.length = 4 ∧
  (∀ n, c.address = .assigned n → 1 ≤ n ∧ n ≤ 62 ∧ c.load = .valid)

def State.ConfigSound (s : State) : Prop := s.cfg.Sound

/-- R170: a pending state stands exactly at a debounce count of 1, the count is 0 or 1, and while settling the state is
OK with nothing pending. -/
def State.SupplySound (s : State) : Prop :=
  s.spm.count ≤ 1 ∧ (s.spm.pendingSupply.isSome = true ↔ s.spm.count = 1) ∧
  (s.spm.settling = true → s.spm.supply = .ok ∧ s.spm.count = 0)

/-- R180: the time base stands within the present second, and the uptime counts its seconds, saturating. -/
def State.TimeSound (s : State) : Prop :=
  s.clock.second ≤ s.clock.now ∧ s.clock.now < s.clock.second + 1000 ∧ s.clock.second % 1000 = 0 ∧
  s.cfg.uptime = min 4294967295 (s.clock.second / 1000)

/-! ### The local call's timers and counts (R1) -/

/-- R1, R11, R17, R19, R22, R24, R31: each timer of the record runs exactly in its own place: the bell timer in BELL,
the pause timer in WAITING, the ring limit in RINGING, the answer timer only in RELAYING before a trunk is taken, the
hold refresh and the carrier silence timer exactly while a trunk is held, which only a relay attempt does; a callback is
offered on a slot; the placement limit does not run in IDLE, BELL or TALKING. -/
def State.CallTimersFit (s : State) : Prop :=
  (s.ple.bellTimer.isSome = true ↔ s.ple.state = .bell) ∧ (s.ple.pauseTimer.isSome = true ↔ s.ple.state = .waiting) ∧
  (s.ple.ringLimit.isSome = true ↔ s.ple.state = .ringing) ∧
  (s.ple.answerTimer.isSome = true → s.ple.state = .relaying ∧ s.ple.trunk = none) ∧
  (s.ple.trunk.isSome = true → s.ple.relayCarrier.isSome = true) ∧
  (s.ple.carrierSilence.isSome = true ↔ s.ple.trunk.isSome = true) ∧
  (s.ple.holdRefresh.isSome = true ↔ s.ple.trunk.isSome = true) ∧
  (s.ple.state = .bell → ∃ sl code, s.ple.route = some ⟨.slot sl, code⟩) ∧
  (s.ple.placementLimit.isSome = true → s.ple.state ≠ .idle ∧ s.ple.state ≠ .bell ∧ s.ple.state ≠ .talking)

/-- R1: the ranges of the record's counts. -/
def State.CallCountsBounded (s : State) : Prop :=
  s.ple.rounds ≤ 255 ∧ s.ple.attempts ≤ 255 ∧ s.ple.resumptions ≤ 5 ∧ s.ple.talkSeconds ≤ 65535 ∧
  s.ple.pauseLength ∈ [5, 10, 20, 40, 60]

/-- R1, R3, R164: the local call record and what the call point shows of it. -/
def State.CallSound (s : State) : Prop :=
  s.IdleCallIsClear ∧ s.CallTimersFit ∧ s.CallCountsBounded ∧ s.LampFollows

/-! ### Premises of the statements about commands -/

/-- R154 to R157: a frame command with this header is dispatched: the part runs, the segment is this box's, the source
is not this box's own and lies in 1..63. -/
def State.Hears (s : State) (h : Header) : Prop :=
  s.phase = .running ∧ h.seg = s.cfg.record.segment ∧ s.own ≠ some h.src ∧ 1 ≤ h.src ∧ h.src ≤ 63

/-- A timer that runs and whose end lies in the present second or before it (R180). -/
def State.Due (s : State) (timer : Option Nat) (at_ : Nat) : Prop := timer = some at_ ∧ at_ < s.clock.second + 1000

/-- Nothing waits at a slot. -/
def SlotRec.NoClaims (r : SlotRec) : Prop := r.waitingLocal = none ∧ r.waitingCarry = [] ∧ r.waitingScan = false

/-- Every route of the candidate list has been tried in this round. -/
def State.AllTried (s : State) : Prop := ∀ c ∈ s.rsl, c.route ∈ s.ple.tried

/-! ### What the start of a round and of an attempt leaves (R9 to R14, R17, R26) -/

/-- R10, R13: as the state stands, an attempt on this route ends SKIPPED at once: its slot is ABSENT, DISABLED or
RESTARTING or is held by a carry record, its network entry is gone, barred or not emergency-permitted, or its neighbour
is gone or no longer USABLE, or advertised capacity 0 or supply CRITICAL. A bar ends as the uptime reaches its end (log 32). -/
def State.Skips (s : State) (c : Candidate) : Prop :=
  match c.via with
  | .slot sl =>
    (s.slot sl).state = .absent ∨ (s.slot sl).state = .disabled ∨ (s.slot sl).state = .restarting ∨
      (∃ id, (s.slot sl).grant = .carry id) ∨
      ∀ e, findEntry (s.table sl) c.code = some e →
        e.permitted = false ∨ ∃ u, e.barredUntil = some u ∧ s.cfg.uptime < u
  | .box n =>
    ∀ e, s.nbt.find? (fun e => e.addr == n) = some e → e.state ≠ .usable ∨ e.capacity = 0 ∨ e.supply = .critical

/-- R12 to R14, R64, R68, R69, R73: what a LOCAL claim placed at `now` on slot `sl` leaves there, from `v` to `t`: an
IDLE slot with no grant held is granted at once and sends DIAL or SCAN, an OFF slot that does not wait for its restart
warms up, and otherwise the claim waits. -/
def State.ClaimsLocal (v t : State) (now : Nat) (sl : Slot) (k : LocalClaim) (code : Nat) : Prop :=
  if (v.slot sl).state = .idle ∧ (v.slot sl).grant = .nobody then
    (t.slot sl).waitingLocal = none ∧
    match k with
    | .dial => (t.slot sl).state = .dialling ∧ (t.slot sl).grant = .localCall ∧ (t.slot sl).request = .dial code ∧
        (t.slot sl).deadline = some (now + 10000) ∧ (t.slot sl).sent = (v.slot sl).sent ++ [.dial code]
    | .emergencyScan => (t.slot sl).state = .scanning ∧ (t.slot sl).grant = .scan .emergency ∧
        (t.slot sl).request = .scan ∧ (t.slot sl).deadline = some (now + 45000) ∧
        (t.slot sl).sent = (v.slot sl).sent ++ [.scan]
  else if (v.slot sl).state = .off ∧ (v.slot sl).restartTimer = none then
    (t.slot sl).waitingLocal = some k ∧ (t.slot sl).state = .warming ∧ (t.slot sl).power = true ∧
      (t.slot sl).deadline = some (now + 20000) ∧ (t.slot sl).sent = (v.slot sl).sent
  else
    (t.slot sl).waitingLocal = some k ∧ (t.slot sl).state = (v.slot sl).state ∧
      (t.slot sl).grant = (v.slot sl).grant ∧ (t.slot sl).sent = (v.slot sl).sent

/-- R10, R13, R14, R17: what the beginning of an attempt on route `c` leaves, from `v` to `t`: a relay route queues
CREQ and starts the 2 s answer timer, an own route claims its slot. -/
def State.Begins (v t : State) (now : Nat) (c : Candidate) : Prop :=
  t.ple.route = some c.route ∧
  match c.via with
  | .box n => t.ple.state = .relaying ∧ t.ple.answerTimer = some (now + 2000) ∧
      t.lnc = ((v.advanceTo now).hand n (.creq v.ple.callId c.code)).lnc ∧ t.slc = v.slc
  | .slot sl => t.ple.state = .dialling ∧ t.lnc = v.lnc ∧ v.ClaimsLocal t now sl .dial c.code ∧
      t.slot (otherSlot sl) = v.slot (otherSlot sl)

/-- R10, R11, R26: the routes `cs` are taken in order from `v` to `t`: those that are skipped enter the attempt list
and are counted, the first that is not skipped begins its attempt, and where all are skipped the record waits. -/
def State.TakesRoutes (v t : State) (now : Nat) (cs : List Candidate) : Prop :=
  (∀ pre c post, cs = pre ++ c :: post → (∀ d ∈ pre, v.Skips d) → ¬ v.Skips c →
    t.ple.tried = v.ple.tried ++ (pre ++ [c]).map Candidate.route ∧
    t.ple.attempts = min 255 (v.ple.attempts + (pre.length + 1)) ∧ v.Begins t now c) ∧
  ((∀ d ∈ cs, v.Skips d) →
    t.ple.tried = v.ple.tried ++ cs.map Candidate.route ∧
    (v.ple.attempts ≤ 255 → t.ple.attempts = min 255 (v.ple.attempts + cs.length)) ∧
    t.ple.state = .waiting ∧ t.ple.pauseTimer = some (now + v.ple.pauseLength * 1000) ∧ t.lnc = v.lnc ∧ t.slc = v.slc)

/-- R9, R12: what the start of a round leaves, from `v` to `t`: the round is counted and a fresh candidate list built;
its routes are taken in order with an empty attempt list, and with an empty list the record waits for the pause length
and on an emergency scan of every slot in OFF, IDLE or WARMING. -/
def State.StartsRound (v t : State) (now : Nat) : Prop :=
  t.rsl = buildList v ∧ t.ple.rounds = min 255 (v.ple.rounds + 1) ∧
  (buildList v = [] →
    t.ple.state = .waiting ∧ t.ple.tried = [] ∧ t.ple.attempts = v.ple.attempts ∧
    t.ple.pauseTimer = some (now + v.ple.pauseLength * 1000) ∧ t.lnc = v.lnc ∧
    t.ple.awaited = v.ple.awaited ++ ([Slot.a, .b].filter fun sl =>
      (v.slot sl).state = .off ∨ (v.slot sl).state = .idle ∨ (v.slot sl).state = .warming) ∧
    ∀ sl,
      if (v.slot sl).state = .off ∨ (v.slot sl).state = .idle ∨ (v.slot sl).state = .warming then
        v.ClaimsLocal t now sl .emergencyScan 0
      else t.slot sl = v.slot sl) ∧
  (buildList v ≠ [] → State.TakesRoutes (v.setPle fun p => { p with tried := [] }) t now (buildList v))

/-! ### What the end of an attempt, of a call and of a carry leaves (R6, R7, R16, R26, R108, R109) -/

/-- R16, R80, R84: slot `sl` let go by its modem: IDLE, no grant, nothing outstanding, no message sent. -/
def State.idled (s : State) (sl : Slot) : State :=
  s.setSlot sl fun r =>
    { r with state := .idle, grant := .nobody, request := .nothing, deadline := none, repeatsDue := 0, rung := false,
             heartbeat := some (s.clock.now + 15000), idleTimer := none }

/-- R16, R70, R74, R75: slot `sl` given up with a DROP: CLEARING, no grant, the clear deadline running. -/
def State.dropped (s : State) (sl : Slot) : State :=
  s.setSlot sl fun r =>
    { r with state := .clearing, grant := .nobody, request := .drop, deadline := some (s.clock.now + 5000),
             repeatsDue := 0, rung := false, sent := r.sent ++ [.drop] }

/-- R26, R11: how the record goes on from an attempt that has ended, from `v`, where the outcome has been reported, to
`t`: the attempt's timers stop, the trunk is cleared, HANDSET is joined to TONE, and the routes of the candidate list not
yet tried are taken in order; everything else of the record stands. -/
def State.EndsAttempt (v t : State) (now : Nat) : Prop :=
  t.ple = { v.ple with
    state := t.ple.state, route := t.ple.route, tried := t.ple.tried, attempts := t.ple.attempts, trunk := none,
    answerTimer := t.ple.answerTimer, holdRefresh := none, carrierSilence := none, ringLimit := none,
    pauseTimer := t.ple.pauseTimer } ∧
  (t.ple.state ≠ .relaying → t.ple.answerTimer = none) ∧
  (t.ple.state ≠ .waiting → t.ple.pauseTimer = v.ple.pauseTimer) ∧
  State.TakesRoutes v t now (v.rsl.filter fun c => c.route ∉ v.ple.tried) ∧
  t.xpt = (v.xptJoin .localCall .handset .tone).xpt ∧ t.cpi.lamp = .slow ∧ t.rsl = v.rsl ∧ t.svc = v.svc ∧
  t.tkm = v.tkm ∧ t.cye = v.cye ∧ t.nwt = v.nwt ∧ t.nbt = v.nbt ∧ t.adv = v.adv ∧ t.spm = v.spm ∧ t.cfg = v.cfg

/-- R6, R7, R164: what a close of the local call with outcome `o` leaves, from `s` to `t`: the log record, the callback
window, no connection and no waiting join of the call, the bell silent, and the CALL lamp. -/
def State.ClosesCall (s t : State) (now : Nat) (o : LogOutcome) : Prop :=
  t.ple = { State.reset.ple with
    window := match s.ple.talkRoute with
      | some ⟨.slot _, _⟩ => some 900
      | _ => s.ple.window } ∧
  t.svc = { s.svc with
    log := ({ callId := s.ple.callId
              kind := if s.ple.origin = .callback then .callback else .localCall
              partner := (s.ple.talkRoute.or s.ple.route).map Route.via
              code := (s.ple.talkRoute.or s.ple.route).bind Route.code
              rounds := s.ple.rounds
              attempts := s.ple.attempts
              outcome := o
              talkSeconds := s.ple.talkSeconds
              endUptime := s.cfg.uptime } :: s.svc.log).take 32 } ∧
  (∀ j ∈ t.xpt.joins, j.owner ≠ .localCall) ∧ (∀ j ∈ t.xpt.waiting, j.owner ≠ .localCall) ∧ t.cpi.bell = .silent ∧
  if o = .noRoute ∨ o = .lost then t.cpi.lamp = .fast ∧ t.cpi.fastFlash = some (now + 60000)
  else t.cpi.lamp = .off ∧ t.cpi.fastFlash = none

/-- R6, R70, R75: what the first step of a close leaves of the attempt in hand, from `s` to `t`: on an own route the
grant released with DROP sent, or the claim that waits withdrawn; of a relay attempt whose answer is still awaited nothing
sent; of a WAITING call no emergency-scan claim. -/
def State.WindsUp (s t : State) (now : Nat) : Prop :=
  (∀ sl code, s.ple.route = some ⟨.slot sl, code⟩ →
    ((s.ple.state = .dialling ∨ s.ple.state = .ringing ∨ s.ple.state = .talking) → (s.slot sl).grant = .localCall →
      ((s.slot sl).state = .dialling ∨ (s.slot sl).state = .ringing ∨ (s.slot sl).state = .talking) →
      (t.slot sl).state = .clearing ∧ (t.slot sl).grant = .nobody ∧ (t.slot sl).request = .drop ∧
      (t.slot sl).deadline = some (now + 5000) ∧ (t.slot sl).sent = (s.slot sl).sent ++ [.drop] ∧
      t.slot (otherSlot sl) = s.slot (otherSlot sl) ∧ t.cye = s.cye ∧ t.lnc = s.lnc) ∧
    (s.ple.state = .dialling → (s.slot sl).grant ≠ .localCall →
      (t.slot sl).waitingLocal = none ∧ (t.slot sl).state = (s.slot sl).state ∧
      (t.slot sl).grant = (s.slot sl).grant ∧ (t.slot sl).request = (s.slot sl).request ∧
      (t.slot sl).deadline = (s.slot sl).deadline ∧ (t.slot sl).sent = (s.slot sl).sent ∧
      t.slot (otherSlot sl) = s.slot (otherSlot sl) ∧ t.cye = s.cye ∧ t.lnc = s.lnc)) ∧
  (s.ple.state = .relaying → t.slc = s.slc ∧ t.cye = s.cye ∧ (s.ple.trunk = none → t.lnc = s.lnc)) ∧
  (s.ple.state = .waiting → t.lnc = s.lnc ∧ t.cye = s.cye ∧ ∀ sl, (t.slot sl).waitingLocal ≠ some .emergencyScan ∧
    (t.slot sl).state = (s.slot sl).state ∧ (t.slot sl).sent = (s.slot sl).sent)

/-- R27: what a loss while TALKING that is not the sixth makes of the record, from `s` to `t`; the placement limit runs
from the millisecond of the loss (log 38), and the round that it starts is `StartsRound`'s. -/
def State.Resumes (s t : State) (now : Nat) : Prop :=
  t.ple.resumptions = s.ple.resumptions + 1 ∧ t.ple.limitStart = s.cfg.uptime ∧
  t.ple.placementLimit = some (now + 1800000) ∧ t.ple.trunk = none ∧ t.ple.holdRefresh = none ∧
  t.ple.carrierSilence = none ∧ t.ple.callId = s.ple.callId ∧ t.ple.origin = s.ple.origin ∧
  t.ple.handsetLifted = s.ple.handsetLifted ∧ t.ple.reachedTalking = s.ple.reachedTalking ∧
  t.ple.talkRoute = s.ple.talkRoute ∧ t.ple.talkSeconds = s.ple.talkSeconds ∧
  t.ple.pauseLength = s.ple.pauseLength ∧ t.ple.window = s.ple.window ∧ t.cpi.lamp = .slow ∧ t.svc = s.svc

/-- R109: the call log record of carry `c`, ended with outcome `o` at this uptime. -/
def CarryRec.loggedAs (c : CarryRec) (o : LogOutcome) (uptime : Nat) : LogRecord :=
  { callId := c.id.callId, kind := .carried, partner := some (.box c.id.requester), code := some c.code, rounds := 0,
    attempts := if c.dialSent then 1 else 0, outcome := o, talkSeconds := c.talkSeconds, endUptime := uptime }

/-- R108, R109: what the end of carry `c` with outcome `o` leaves of it, from `s` to `t`: the record gone from the queue
and logged, its trunk FREE, its connection and its waiting join gone. -/
def State.EndsCarry (s t : State) (c : CarryRec) (o : LogOutcome) : Prop :=
  t.cye = (s.cye.filter fun d => d.id != c.id) ∧
  t.trunk c.trunk = .free ∧ (∀ u, u ≠ c.trunk → t.trunk u = s.trunk u) ∧
  t.svc = { s.svc with log := (c.loggedAs o s.cfg.uptime :: s.svc.log).take 32 } ∧
  (∀ j ∈ t.xpt.joins, j.owner ≠ .carry c.id) ∧ (∀ j ∈ t.xpt.waiting, j.owner ≠ .carry c.id)

/-- R68, R70, R75, R108: how the end of carry `c` gives up its slot, from `s` to `t`: the claim of a QUEUED record is
withdrawn and nothing else changes there; a grant is released, and where the slot is in the call DROP goes out and the
slot is CLEARING under its 5 s deadline. -/
def State.GivesUpSlot (s t : State) (now : Nat) (c : CarryRec) : Prop :=
  (c.state = .queued → c.id ∉ (t.slot c.slot).waitingCarry ∧ (t.slot c.slot).state = (s.slot c.slot).state ∧
    (t.slot c.slot).grant = (s.slot c.slot).grant ∧ (t.slot c.slot).request = (s.slot c.slot).request ∧
    (t.slot c.slot).deadline = (s.slot c.slot).deadline ∧ (t.slot c.slot).sent = (s.slot c.slot).sent) ∧
  (c.state ≠ .queued → (t.slot c.slot).grant ≠ .carry c.id ∧
    ((s.slot c.slot).state = .dialling ∨ (s.slot c.slot).state = .ringing ∨ (s.slot c.slot).state = .talking →
      (t.slot c.slot).state = .clearing ∧ (t.slot c.slot).grant = .nobody ∧ (t.slot c.slot).request = .drop ∧
      (t.slot c.slot).deadline = some (now + 5000) ∧ (t.slot c.slot).heartbeat = (s.slot c.slot).heartbeat ∧
      (t.slot c.slot).sent = (s.slot c.slot).sent ++ [.drop])) ∧
  t.slot (otherSlot c.slot) = s.slot (otherSlot c.slot)

/-! ### Messages of a module (R65, R77 to R87) -/

/-- A readable message of the module on the line of slot `sl` (4.7). -/
def isMessageAt (sl : Slot) (ms : Nat) : Instr → Bool
  | .rdy l m | .dack l m | .dnak l _ m | .drty l m | .ring l m | .live l m | .gone l _ m | .beat l _ _ m | .callin l m =>
    l == sl && m == ms
  | .nets l items m => l == sl && m == ms && items.length ≤ 8
  | _ => false

/-- R75 to R86: the entry of the message names the slot state, of those past warm-up; RDY has an effect in each of them
but IDLE, and BEAT in each of them. -/
def namesState (st : SlotState) : Instr → Bool
  | .rdy _ _ => st != .idle
  | .nets _ _ _ => st == .scanning
  | .dack _ _ | .dnak _ _ _ | .drty _ _ => st == .dialling
  | .ring _ _ => st == .ringing
  | .live _ _ => st == .dialling || st == .ringing
  | .gone _ _ _ => st != .idle && st != .scanning
  | .callin _ _ => st != .offered
  | _ => true

/-! ### Scans (R12, R72, R73) -/

/-- R72: the scan timer of a slot, started at `now`. -/
def State.scanTimerFrom (s : State) (now : Nat) : Option Nat :=
  match s.spm.supply with
  | .ok => some (now + s.cfg.record.scanInterval * 1000)
  | .low => some (now + 2 * s.cfg.record.scanInterval * 1000)
  | .critical => none

/-- R12: the end of an emergency scan on slot `sl` ends the wait of the local call: it is the last that the call awaits. -/
def State.EndsWait (s : State) (sl : Slot) : Prop :=
  s.ple.state = .waiting ∧ sl ∈ s.ple.awaited ∧ ∀ o ∈ s.ple.awaited, o = sl

/-- R12: the record after the end of an emergency scan on slot `sl` that does not end the wait. -/
def Ple.scanEnded (p : Ple) (sl : Slot) : Ple :=
  if p.state = .waiting then { p with awaited := p.awaited.filter (· != sl) } else p

/-- R11, R12: the record at the end of a wait, as the next round starts. -/
def Ple.waitEnded (p : Ple) : Ple :=
  { p with awaited := [], pauseTimer := none
           pauseLength := if p.pauseLength = 5 then 10 else if p.pauseLength = 10 then 20
             else if p.pauseLength = 20 then 40 else 60 }

/-! ### Faults of a slot (R64, R65, R75, R77) -/

/-- R64, R65, R75, R77: command `c` is a fault on slot `sl`: a warm-up or clear deadline, a heartbeat watch that runs out,
or an RDY with work in hand; `v` is the state at the moment it is taken. -/
def State.FaultsAt (s : State) (sl : Slot) (c : Instr) (v : State) : Prop :=
  (∃ at_, c = .warmUpDeadlineExpiry sl ∧ (s.slot sl).state = .warming ∧ s.Due (s.slot sl).deadline at_ ∧
    v = s.advanceTo at_) ∨
  (∃ at_, c = .clearDeadlineExpiry sl ∧ (s.slot sl).state = .clearing ∧ s.Due (s.slot sl).deadline at_ ∧
    v = s.advanceTo at_) ∨
  (∃ at_, c = .heartbeatWatchExpiry sl ∧ s.Due (s.slot sl).heartbeat at_ ∧ v = s.advanceTo at_) ∨
  ∃ ms, c = .rdy sl ms ∧ s.phase = .running ∧ isPastWarmUp (s.slot sl).state = true ∧ (s.slot sl).state ≠ .idle ∧
    v = s.arrive ms

/-! ### What a broken connection leaves (R168, R169) -/

/-- R168, R169: connections and cue after `owner`'s connection is broken and `made` made, from `x` to `y`: the other
owners' connections stand but where their own waiting join replaces them; of the waiting joins, the oldest whose
endpoints are free or its own owner's is made; the cue runs on with a connection to TONE that stands, starts with one that
is made, and ends with none. -/
def Xpt.Settles (x y : Xpt) (owner : Owner) (made : List Join) (now : Nat) : Prop :=
  let stood := x.joins.filter fun j => j.owner != owner
  let waited := x.waiting.filter fun j => j.owner != owner
  let free (w : Join) : Prop :=
    ∀ j ∈ stood ++ made, j.owner ≠ w.owner → j.has w.x = false ∧ j.has w.y = false
  y.waiting.Sublist waited ∧ (∀ w ∈ waited, w ∈ y.waiting ∨ w ∈ y.joins) ∧ (∀ j ∈ made, j ∈ y.joins) ∧
  (∀ j ∈ stood, j ∈ y.joins ∨ ∃ w ∈ waited, w.owner = j.owner ∧ w ∈ y.joins) ∧
  (∀ j ∈ y.joins, j ∈ stood ∨ j ∈ waited ∨ j ∈ made) ∧
  (∀ xs w ys, waited = xs ++ w :: ys → (∀ v ∈ xs, ¬ free v) → free w → w ∈ y.joins) ∧
  (∀ j ∈ x.joins, j.has .tone = true → j ∈ y.joins → y.cue = x.cue ∧ y.cadence = x.cadence) ∧
  (∀ j ∈ y.joins, j.has .tone = true → j ∉ x.joins → y.cue = .connecting true ∧ y.cadence = some (now + 500)) ∧
  ((∀ j ∈ y.joins, j.has .tone = false) → y.cue = .silent ∧ y.cadence = none)

/-! ### Scores, binding and the items of a REACH (R33 to R37, R92, R130) -/

/-- R33, R34, R36, R37: the own score of a network entry, written out. -/
def NetEntry.ownWorth (e : NetEntry) : Int :=
  let level : Nat := match e.level with
    | some l => l
    | none => 8
  let bonus : Int := match e.radio with
    | .g2 => 0
    | .g3 => 2
    | .g4 => 4
    | .g5 => 6
  max 0 (4 * (level : Int) + bonus - 5 * e.quality.value - min (e.age / 30 : Nat) 40)

/-- R55, R57: an entry of slot `sl` that is emergency-permitted and not barred, the uptime deciding (log 32). -/
def State.Serves (s : State) (sl : Slot) (e : NetEntry) : Prop :=
  e ∈ s.table sl ∧ e.permitted = true ∧ ∀ u ∈ e.barredUntil, u ≤ s.cfg.uptime

/-- R92: slot `sl` qualifies for a network code, by this entry. -/
def State.Qualifies (s : State) (sl : Slot) (code : Nat) (e : NetEntry) : Prop :=
  s.Serves sl e ∧ e.code = code ∧
  (s.slot sl).state ≠ .absent ∧ (s.slot sl).state ≠ .disabled ∧ (s.slot sl).state ≠ .restarting

/-- R130 step 1: an entry eligible for a REACH. -/
def State.Eligible (s : State) (sl : Slot) (e : NetEntry) : Prop :=
  s.Serves sl e ∧ (s.slot sl).state ≠ .absent ∧ (s.slot sl).state ≠ .disabled

/-- R130 step 2: the entry that is kept for its network: of two slots' eligible entries the one of the higher level, an
absent one below 0, then of the higher own score, then of SLOT_A. -/
def State.Keeps (s : State) (sl : Slot) (e : NetEntry) : Prop :=
  let rank (d : NetEntry) : Int := match d.level with
    | some l => l
    | none => -1
  s.Eligible sl e ∧ ∀ d ∈ s.table (otherSlot sl), s.Eligible (otherSlot sl) d → d.code = e.code →
    rank d < rank e ∨ rank d = rank e ∧ (d.ownWorth < e.ownWorth ∨ d.ownWorth = e.ownWorth ∧ sl = .a)

/-- R130 step 3: entry `e` stands before entry `d`. -/
def NetEntry.AdvertisedBefore (e d : NetEntry) : Prop :=
  d.ownWorth < e.ownWorth ∨ d.ownWorth = e.ownWorth ∧
    (e.quality.value < d.quality.value ∨ e.quality.value = d.quality.value ∧ e.code < d.code)

/-! ### What an announcement of a trunk leaves (R119, R122, R125, R126) -/

/-- R119, R122, R125, R126: what a CACK or TMOV from `src` that names trunk `tr` makes of the trunk map, from `s` to `t`:
a FREE or HELD entry is held by the source; a claim is kept against a higher address, which enters the beaten list, and
lost to a lower one, its record moving to the lowest free entry; a settled entry is kept. -/
def State.MapTakesAnnouncement (s t : State) (now : Nat) (tr : Trunk) (src : Nat) : Prop :=
  match s.trunk tr with
  | .free | .held _ _ => t.trunk tr = .held src (now + 8000) ∧ ∀ w, w ≠ tr → t.trunk w = s.trunk w
  | .owned _ _ => t.tkm = s.tkm
  | .claiming id g b x =>
    if s.ownNum ≤ src then
      t.trunk tr = .claiming id g (if src ∈ b then b else b ++ [src]) x ∧ ∀ w, w ≠ tr → t.trunk w = s.trunk w
    else
      t.trunk tr = .held src (now + 8000) ∧
      match [Trunk.t1, .t2, .t3, .t4].find? fun v => s.trunk v == .free with
      | some v => t.trunk v = .claiming id (now + 300) [] x ∧ ∀ w, w ≠ tr → w ≠ v → t.trunk w = s.trunk w
      | none => ∀ w, w ≠ tr → t.trunk w = s.trunk w

/-- R122, R125, R126: the frame that this box queues for it: an out-of-turn THLD for a settled entry, TMOV to the
requester of a record that moves, CPRG FAILED(NO_TRUNK) to that of one that has no trunk to move to. -/
def State.announcementFrame (s : State) (tr : Trunk) (src : Nat) : Option TxFrame :=
  match s.trunk tr with
  | .free | .held _ _ => none
  | .owned id _ => some ⟨0, .thld (trunkNum tr) s.ownNum id.requester id.callId⟩
  | .claiming id _ _ _ =>
    if s.ownNum ≤ src then none
    else
      match [Trunk.t1, .t2, .t3, .t4].find? fun v => s.trunk v == .free with
      | some v => some ⟨id.requester, .tmov id.callId (trunkNum tr) (trunkNum v)⟩
      | none => some ⟨id.requester, .cprg id.callId (.failed .noTrunk)⟩

/-- Frames handed to LNC one after the other, where there is one (R147). -/
def State.handAll (s : State) (fs : List (Option TxFrame)) : State :=
  fs.foldl (fun s f => match f with
    | some f => s.hand f.dst f.body
    | none => s) s

/-! ### The line idle time (R142, R149, R153) -/

/-- R153: `b` is the last byte on the line up to `at_`, of this box or a frame that has ended, or of another box. -/
def State.IsLastByte (s : State) (at_ b : Nat) : Prop :=
  (b = s.lnc.lastActive ∨ b ∈ s.lnc.heard ∧ b ≤ at_) ∧ s.lnc.lastActive ≤ b ∧ ∀ x ∈ s.lnc.heard, x ≤ at_ → x ≤ b

/-- R149: `b` is a byte, the last one heard or one to come, after which the line idle time reaches 2 ms. -/
def State.QuietFollows (s : State) (b : Nat) : Prop :=
  (b = s.lnc.lastActive ∨ b ∈ s.lnc.heard) ∧ s.lnc.lastActive ≤ b ∧ (∀ x ∈ s.lnc.heard, x ≤ s.clock.now → x ≤ b) ∧
  ∀ x ∈ s.lnc.heard, x ≤ b ∨ b + 2 < x

/-! ### An early advert (R132) -/

/-- R132: with `items` now the items of a REACH, an early advert is due against the last advertised best: its item is
gone, or the first item is of another code or its level is 6 or more away; after a REACH with no item, there is one. -/
def State.EarlyAdvertDue (s : State) (items : List ReachItem) : Prop :=
  match s.adv.lastBest, items with
  | .notYet, _ => False
  | .noItem, is => is ≠ []
  | .item _ _, [] => True
  | .item k l, i :: _ => i.code ≠ k ∨ l + 6 ≤ i.level ∨ i.level + 6 ≤ l

/-! ### Kinds of commands and values -/

/-- The events that reach the part from outside while it runs: no reset, no configuration read, no timer of the part. -/
def isOutsideEvent : Instr → Bool
  | .uptimeTick | .buttonInputChange _ _ | .hookInputChange _ _ => true
  | .rdy _ _ | .nets _ _ _ | .dack _ _ | .dnak _ _ _ | .drty _ _ | .dialRepeat _ _ | .ring _ _ | .live _ _ => true
  | .gone _ _ _ | .beat _ _ _ _ | .callin _ _ | .modemSignalDiscarded _ _ => true
  | .creq _ _ _ _ | .cack _ _ _ _ | .cnak _ _ _ _ | .cprg _ _ _ _ | .cend _ _ _ _ => true
  | .thld _ _ _ _ _ _ | .tmov _ _ _ _ _ | .tfre _ _ _ | .reach _ _ _ => true
  | .frameSent _ | .collision _ | .receivedFrameDropped _ _ | .sqry _ _ | .lqry _ _ _ | .erst _ _ => true
  | .coldReset | .resetRelease | .configReadComplete _ _ | .configReadDeadline _ | .inputWatchEnd _ _ => false
  | .supplySample _ | .buttonTimerExpiry | .hookTimerExpiry | .pauseTimerExpiry | .answerTimerExpiry => false
  | .requesterHoldRefresh | .carrierSilenceExpiry | .ringLimitExpiry | .placementLimitExpiry | .bellTimerExpiry => false
  | .callbackWindowExpiry | .qualityDecayExpiry _ | .networkEntryRemoval _ _ | .barExpiry _ _ => false
  | .warmUpDeadlineExpiry _ | .heartbeatWatchExpiry _ | .scanDeadlineExpiry _ | .dialDeadlineExpiry _ => false
  | .slotRingLimitExpiry _ | .clearDeadlineExpiry _ | .idleTimerExpiry _ | .scanTimerExpiry _ => false
  | .restartTimerExpiry _ | .queueTimerExpiry _ | .requesterSilenceExpiry _ | .neighbourStale _ => false
  | .neighbourRemoval _ | .guardTimerExpiry _ | .holdRefresh _ | .holdTimerExpiry _ | .advertTimerExpiry => false
  | .startWaitExpiry | .earlyAdvertSpacingEnd | .gapEnd | .backoffTimerExpiry | .toneCadence | .bellCadence => false
  | .lampCadence | .fastFlashTimerExpiry => false

/-- The commands by which the configuration, the address and the uptime are set afresh (R174, R176, R181, R182). -/
def isResetCommand : Instr → Bool
  | .coldReset | .resetRelease | .configReadComplete _ _ | .configReadDeadline _ | .supplySample _ => true
  | _ => false

/-- The field values that the bytes of a frame can hold (R143, R144, R146). -/
def Body.Fits : Body → Prop
  | .reach p => p.length ≤ 40
  | .creq callId code => callId < 256 ∧ code < 16777216
  | .cack callId trunk => callId < 256 ∧ trunk < 256
  | .cnak callId _ | .cprg callId _ | .cend callId _ => callId < 256
  | .thld trunk holder partner callId => trunk < 256 ∧ holder < 256 ∧ partner < 256 ∧ callId < 256
  | .tmov callId old new => callId < 256 ∧ old < 256 ∧ new < 256
  | .tfre trunk => trunk < 256
  | .srep p => p.length = 21
  | .lqry index => index < 256
  | .lrep p => p.length = 18
  | .sqry | .erst => True

/-- R144: one item of a received REACH as its six bytes give it, nothing made good. -/
structure RawItem where
  code : Nat
  radio : Byte
  level : Byte
  q : Byte
  deriving DecidableEq, Repr

/-- R144: the bytes of an item: the network code in three, its highest first, radio type, level and q. -/
def RawItem.bytes (i : RawItem) : List Byte := bytes3 i.code ++ [i.radio, i.level, i.q]

/-- The values a REACH built by a box holds (R129, R134). -/
def ReachAdvert.Fits (r : ReachAdvert) : Prop :=
  r.seq ≤ 255 ∧ r.capacity ≤ 3 ∧ r.items.length ≤ 4 ∧
  ∀ i ∈ r.items, isNetworkCode i.code = true ∧ i.level ≤ 31 ∧ i.q ≤ 15

end Sys2Proof.Machine
end

