-- ==== Sys2Proof/WellFormed.lean ====
section
/-! DEFINITION. Which commands the lines of the part can bring: the ranges the spec gives the operands. A command
outside them still has a meaning (log 15); a statement that needs the ranges takes `Instr.wf` as a premise. -/

namespace Sys2Proof

/-- A millisecond within a second. -/
def wfMs (ms : Nat) : Bool := ms < 1000

/-- The number of one byte of a frame (R143, R144). -/
def wfByte (n : Nat) : Bool := n < 256

/-- A level of the supply sense input, 0..255 (R170). -/
def wfLevel (n : Nat) : Bool := n < 256

/-- A network code as three bytes carry it (R144). -/
def wfCode24 (n : Nat) : Bool := n < 16777216

/-- The header of a frame: three bytes. -/
def Header.wf (h : Header) : Bool := wfByte h.seg && wfByte h.dst && wfByte h.src

/-- The identity of a carry record: requester 1..62, call id 0..255 (R89). -/
def CarryId.wf (i : CarryId) : Bool := 1 ≤ i.requester && i.requester ≤ 62 && wfByte i.callId

/-- The operands of a command are in the ranges the spec gives them. -/
def Instr.wf : Instr → Bool
  | .coldReset | .resetRelease | .uptimeTick | .inputWatchEnd _ _ => true
  | .configReadComplete bytes level => bytes.length == 32 && wfLevel level
  | .configReadDeadline level | .supplySample level => wfLevel level
  | .buttonInputChange _ ms | .hookInputChange _ ms => wfMs ms
  | .buttonTimerExpiry | .hookTimerExpiry | .pauseTimerExpiry | .answerTimerExpiry | .requesterHoldRefresh => true
  | .carrierSilenceExpiry | .ringLimitExpiry | .placementLimitExpiry | .bellTimerExpiry | .callbackWindowExpiry => true
  | .qualityDecayExpiry (.network _ code) => wfCode24 code
  | .qualityDecayExpiry (.neighbour addr) | .neighbourStale addr | .neighbourRemoval addr => 1 ≤ addr && addr ≤ 62
  | .networkEntryRemoval _ code | .barExpiry _ code => wfCode24 code
  | .nets _ items ms => items.length ≤ 8 && wfMs ms
  | .rdy _ ms | .dack _ ms | .dnak _ _ ms | .drty _ ms | .dialRepeat _ ms | .ring _ ms | .live _ ms | .gone _ _ ms => wfMs ms
  | .beat _ _ _ ms | .callin _ ms | .modemSignalDiscarded _ ms => wfMs ms
  | .warmUpDeadlineExpiry _ | .heartbeatWatchExpiry _ | .scanDeadlineExpiry _ | .dialDeadlineExpiry _ => true
  | .slotRingLimitExpiry _ | .clearDeadlineExpiry _ | .idleTimerExpiry _ | .scanTimerExpiry _ | .restartTimerExpiry _ => true
  | .creq h callId code ms => h.wf && wfByte callId && wfCode24 code && wfMs ms
  | .queueTimerExpiry id | .requesterSilenceExpiry id | .holdRefresh id => id.wf
  | .cack h callId trunk ms => h.wf && wfByte callId && wfByte trunk && wfMs ms
  | .cnak h callId _ ms | .cprg h callId _ ms | .cend h callId _ ms => h.wf && wfByte callId && wfMs ms
  | .thld h trunk holder partner callId ms =>
    h.wf && wfByte trunk && wfByte holder && wfByte partner && wfByte callId && wfMs ms
  | .tmov h callId oldTrunk newTrunk ms => h.wf && wfByte callId && wfByte oldTrunk && wfByte newTrunk && wfMs ms
  | .tfre h trunk ms => h.wf && wfByte trunk && wfMs ms
  | .reach h payload ms => h.wf && payload.length ≤ 40 && wfMs ms
  | .guardTimerExpiry _ | .holdTimerExpiry _ | .advertTimerExpiry | .startWaitExpiry | .earlyAdvertSpacingEnd => true
  | .gapEnd | .backoffTimerExpiry => true
  | .frameSent ms | .collision ms | .receivedFrameDropped _ ms => wfMs ms
  | .sqry h ms | .erst h ms => h.wf && wfMs ms
  | .lqry h index ms => h.wf && wfByte index && wfMs ms
  | .toneCadence | .bellCadence | .lampCadence | .fastFlashTimerExpiry => true

end Sys2Proof
end

