-- ==== Sys2Proof/Certificates/Slice0/Obligations.lean ====
section
/-! DEFINITION. The statements about the TNE-6, for the provers. `s.advanceTo at_` is the state at the moment a due timer
expires, `s.arrive ms` and `s.frameHeard ms` the state at the moment an event or a frame is taken (log 2). -/

open Sys2Proof Sys2Proof.Machine

/-! ### The machine, its reset, and what every step keeps -/

/-- The step takes the command at the front of the queue and executes it with the queue's rest; on an empty queue the
part idles (log 1, the model's choice). -/
def Obligations.StepTakesTheFrontCommand : Prop :=
  (∀ (s : State) (c : Instr) (rest : List Instr), s.pending = c :: rest → step s = exec c (s.withPending rest)) ∧
  ∀ s : State, s.pending = [] → step s = .next s

/-- What a cold reset leaves in the fields named, to each of which the chapters give a value (R3, R38, R47, R63, R90,
R113, R128, R134, R142, R160, R166, R170, R181, R183). -/
def Obligations.ResetHoldsTheColdValues : Prop :=
  let r := State.reset
  r.ple.state = .idle ∧ r.ple.callId = 0 ∧ r.ple.rounds = 0 ∧ r.ple.attempts = 0 ∧ r.ple.resumptions = 0 ∧
  r.ple.talkSeconds = 0 ∧ r.ple.route = none ∧ r.ple.trunk = none ∧ r.ple.talkRoute = none ∧ r.ple.tried = [] ∧
  r.ple.handsetLifted = false ∧ r.ple.reachedTalking = false ∧ r.ple.pauseLength = 5 ∧ r.ple.window = none ∧
  r.ple.answerTimer = none ∧ r.ple.holdRefresh = none ∧ r.ple.carrierSilence = none ∧ r.ple.ringLimit = none ∧
  r.ple.pauseTimer = none ∧ r.ple.bellTimer = none ∧ r.ple.placementLimit = none ∧
  r.rsl = [] ∧ r.nwt.a = [] ∧ r.nwt.b = [] ∧ r.nbt = [] ∧ r.cye = [] ∧
  (∀ sl, (r.slot sl).power = false ∧ (r.slot sl).grant = .nobody ∧ (r.slot sl).NoClaims ∧
    (r.slot sl).request = .nothing ∧ (r.slot sl).repeats = 0 ∧ (r.slot sl).faultTimes = [] ∧
    (r.slot sl).deadline = none ∧ (r.slot sl).heartbeat = none ∧ (r.slot sl).idleTimer = none ∧
    (r.slot sl).scanTimer = none ∧ (r.slot sl).restartTimer = none) ∧
  (∀ t, r.trunk t = .free) ∧
  r.adv.seq = 0 ∧ r.adv.lastBuild = none ∧ r.adv.lastBest = .notYet ∧ r.adv.early = false ∧
  r.lnc.queue = [] ∧ r.lnc.tx = .idle ∧ r.lnc.inHand = none ∧ r.lnc.collisions = 0 ∧ r.lnc.turn = 0 ∧
  r.lnc.backoff = none ∧ r.lnc.errors = 0 ∧ r.lnc.clash = false ∧ r.lineIdle = 0 ∧
  r.xpt.joins = [] ∧ r.xpt.waiting = [] ∧ r.xpt.cue = .silent ∧ r.xpt.cadence = none ∧
  r.cpi.buttonTimer = none ∧ r.cpi.hookTimer = none ∧ r.cpi.bell = .silent ∧ r.cpi.bellCadence = none ∧
  r.cpi.lamp = .off ∧ r.cpi.lampLit = false ∧ r.cpi.lampCadence = none ∧ r.cpi.outLamp = false ∧
  r.cpi.fastFlash = none ∧
  r.spm.supply = .ok ∧ r.spm.pendingSupply = none ∧ r.spm.count = 0 ∧ r.spm.settling = true ∧ r.spm.level = 0 ∧
  r.svc.log = [] ∧ r.svc.nextCallId = 0

/-- The state after reset meets every predicate that the steps are said to keep, with the model's own values where the
spec gives none (log 4). -/
def Obligations.ResetIsSound : Prop :=
  let r := State.reset
  r.SlotsSound ∧ r.OutLampFollows ∧ r.NetworksSound ∧ r.NeighboursSound ∧ r.LineSound ∧ r.IsolatedIsQuiet ∧
  r.ConnectionsSound ∧ r.CarriesSound ∧ r.CallSound ∧ r.ListsBounded ∧ r.ConfigSound ∧ r.SupplySound ∧ r.TimeSound

/-- R62 to R67, R71, R72: every step keeps each slot's power, timers, deadline and request fitting its state; R165:
and the OUT lamp following the two states. That no dial deadline runs while a repeated DIAL is due is the model's
inference from R81 (log 13). -/
def Obligations.StepKeepsSlotsSound : Prop :=
  ∀ s t : State, s.SlotsSound → s.OutLampFollows → step s = .next t → t.SlotsSound ∧ t.OutLampFollows

/-- R46: every step keeps each network table within 8 entries of distinct codes, every field in its range, an age of
3600 standing until its removal is taken (log 17). R134: every step keeps the neighbour table within 16 entries of
distinct addresses, none this box's own, every field in its range. -/
def Obligations.StepKeepsTablesSound : Prop :=
  (∀ s t : State, s.NetworksSound → step s = .next t → t.NetworksSound) ∧
  (∀ s t : State, s.NeighboursSound → step s = .next t → t.NeighboursSound)

/-- R142, R147, R148, R152: every step keeps the transmit queue, the transmitter's fields and the random generator in
their ranges. R147, R179: an ISOLATED box puts no frame on the line: its queue stays empty, its transmitter IDLE and
its advert timer stopped, and no step adds a frame to what has gone out. -/
def Obligations.LineStaysSoundAndIsolatedBoxSilent : Prop :=
  (∀ s t : State, s.LineSound → step s = .next t → t.LineSound) ∧
  (∀ s t : State, s.IsolatedIsQuiet → step s = .next t →
     t.IsolatedIsQuiet ∧ (s.own = none → t.lnc.sent = s.lnc.sent))

/-- R166 to R169: every step keeps the connections apart, no join waiting that could be made, and the tone's cue with
the connection to TONE. R167, R169: what a request to join does. A pair that is not joined changes nothing; one that
stands for its owner withdraws that owner's waiting join alone; one with an endpoint in another owner's connection waits
last, and the connections stand; any other is made, replaces its owner's connection and is the owner's only one. R168,
R169: what a request to break does. It leaves the owner neither connection nor waiting join, and changes nothing where
there is neither. Where a connection is broken or made, the waiting joins that can now be made are made, oldest first,
and the cue follows the connection to TONE. -/
def Obligations.StepKeepsConnectionsSound : Prop :=
  (∀ s t : State, s.ConnectionsSound → step s = .next t → t.ConnectionsSound) ∧
  (∀ (s : State) (owner : Owner) (x y : Endpoint), s.ConnectionsSound →
     let t := s.xptJoin owner x y
     let new : Join := { x := x, y := y, owner := owner }
     let others := s.xpt.waiting.filter fun j => j.owner != owner
     let never : Prop := x = y ∨ x = .tone ∧ y ≠ .handset ∨ y = .tone ∧ x ≠ .handset
     let stands : Prop := ∃ j ∈ s.xpt.joins, j.owner = owner ∧ (j.x = x ∧ j.y = y ∨ j.x = y ∧ j.y = x)
     let taken : Prop := ∃ j ∈ s.xpt.joins, j.owner ≠ owner ∧ (j.x = x ∨ j.x = y ∨ j.y = x ∨ j.y = y)
     t = s.withXpt t.xpt ∧ t.ConnectionsSound ∧
     (never → t = s) ∧
     (¬ never → stands → t.xpt = { s.xpt with waiting := others }) ∧
     (¬ never → ¬ stands → taken → t.xpt = { s.xpt with waiting := others ++ [new] }) ∧
     (¬ never → ¬ stands → ¬ taken →
       new ∈ t.xpt.joins ∧ (∀ j ∈ t.xpt.joins, j.owner = owner → j = new) ∧ (∀ j ∈ t.xpt.waiting, j.owner ≠ owner) ∧
       s.xpt.Settles t.xpt owner [new] s.clock.now)) ∧
  ∀ (s : State) (owner : Owner), s.ConnectionsSound →
    let t := s.xptBreak owner
    t = s.withXpt t.xpt ∧ t.ConnectionsSound ∧
    (∀ j ∈ t.xpt.joins, j.owner ≠ owner) ∧ (∀ j ∈ t.xpt.waiting, j.owner ≠ owner) ∧
    ((∀ j ∈ s.xpt.joins, j.owner ≠ owner) →
      t.xpt = { s.xpt with waiting := s.xpt.waiting.filter fun j => j.owner != owner }) ∧
    ((∀ j ∈ s.xpt.joins, j.owner ≠ owner) → (∀ j ∈ s.xpt.waiting, j.owner ≠ owner) → t = s) ∧
    ((∃ j ∈ s.xpt.joins, j.owner = owner) → s.xpt.Settles t.xpt owner [] s.clock.now)

/-- R89, R112, R68, R98: every step keeps the carry queue, the trunk map and the slots' claims and grants telling of
the same carries. -/
def Obligations.StepKeepsCarriesInAgreement : Prop :=
  ∀ s t : State, s.CarriesSound → step s = .next t → t.CarriesSound

/-- R1, R3, R164: every step keeps an IDLE record clear, the record's timers in their places, its counts in their ranges
and the CALL lamp on the record's state. Of an IDLE record, origin and limit start are the model's (logs 4, 27). -/
def Obligations.StepKeepsTheCallRecordSound : Prop :=
  ∀ s t : State, s.CallSound → step s = .next t → t.CallSound

/-- R170, R178, R179, R180: every step keeps the supply debounce, the configuration record's ranges and the time base.
R176, R179: the record, the load outcome and the address stand until the next reset or start-up. -/
def Obligations.StepKeepsSupplyConfigAndTime : Prop :=
  (∀ s t : State, s.SupplySound → s.ConfigSound → s.TimeSound → step s = .next t →
     t.SupplySound ∧ t.ConfigSound ∧ t.TimeSound) ∧
  (∀ (c : Instr) (s t : State), isResetCommand c = false → exec c s = .next t →
     t.cfg.record = s.cfg.record ∧ t.cfg.load = s.cfg.load ∧ t.cfg.address = s.cfg.address)

/-- R183, R184: but for a cold reset, the call log changes only by records put before its newest, the oldest falling out
past 32, and one command puts at most one for each carry record in the queue and one more; and the candidate list, the
log and the call id counter keep their bounds. -/
def Obligations.CallLogGrowsOnlyAtItsHead : Prop :=
  ∀ (c : Instr) (s t : State), s.ListsBounded → exec c s = .next t →
    t.ListsBounded ∧
    (c ≠ .coldReset → (c = .resetRelease → s.phase ≠ .brownOutHeld) →
      ∃ newer : List LogRecord, newer.length ≤ s.cye.length + 1 ∧ t.svc.log = (newer ++ s.svc.log).take 32)

/-- R174, R177, R181: while the part is held or reads its record it takes no frame, no modem message, no button or
hook change, and its uptime does not run. The model reads this from those rules (log 5). -/
def Obligations.HeldPartTakesNoOutsideEvent : Prop :=
  ∀ (c : Instr) (s : State), s.phase ≠ .running → isOutsideEvent c = true → exec c s = .next s

/-! ### Encodings -/

/-- R143, R144, R154 to R156: the bytes of a frame pass the five checks of a box of its segment with another address,
and give back its header, kind and fields. -/
def Obligations.FrameBytesReadBack : Prop :=
  ∀ (h : Header) (b : Body) (own : Option Nat), h.wf = true → b.Fits → own ≠ some h.src →
    frameFate h.seg own (encodeFrame h b) = .passes h b

/-- R129, R135, R144: the payload of a REACH reads back as what it was built from. -/
def Obligations.ReachPayloadReadsBack : Prop :=
  ∀ r : ReachAdvert, r.Fits → readReach (reachPayload r) = some r

/-! ### Scores, filters, counters and the queue: the shared rules -/

/-- R36: the score in its two steps, and its range. -/
def Obligations.RouteScoreIsTheRuleOfItsInputs : Prop :=
  ∀ (l t q age p s : Nat),
    (routeScore l t q age p s : Int) =
      max 0 (4 * (l : Int) + t - 5 * q - min (age / 30) 40 - p - s) ∧
    (l ≤ 31 → t ≤ 6 → routeScore l t q age p s ≤ 130)

/-- R38, R41, R42: the candidate list built holds at most 12 routes, no two of one identity, each before the next by
R41, and no route that could have been formed is left out for a worse one. R39: what a candidate list leaves out. R32,
R39, R42: every network entry and every reach item that R39 does not exclude forms its route, which stands in the list
unless 12 better ones fill it. R33 to R37: the Q and the score of each route from the entry, or from the neighbour and
its item, that formed it; R40: of two items of one code the better one. An item whose type is none of the four scores no
type bonus (log 25), and an entry bars no more from the second at which the uptime reaches its barred-until (log 32). -/
def Obligations.CandidateListHoldsTheBestAllowedRoutes : Prop :=
  (∀ s : State, s.NetworksSound → s.NeighboursSound →
     (buildList s).length ≤ 12 ∧
     (buildList s).Pairwise (fun c d => d.score ≤ c.score ∧ c.before d = true ∧ c.route ≠ d.route) ∧
     ∀ c ∈ ownRoutes s .a ++ ownRoutes s .b ++ s.nbt.flatMap (relayRoutes s),
       c ∈ buildList s ∨ ((buildList s).length = 12 ∧ ∀ d ∈ buildList s, d.before c = true)) ∧
  (∀ s : State,
     let bonus (r : Option RadioType) : Int := match r with
       | some .g3 => 2
       | some .g4 => 4
       | some .g5 => 6
       | some .g2 | none => 0
     let own (e : NetEntry) : Int := max 0 (4 * (match e.level with
       | some l => (l : Int)
       | none => 8) + bonus (some e.radio) - 5 * e.quality.value - min (e.age / 30 : Nat) 40)
     let relay (n : NeighbourEntry) (i : ReachItem) : Int := max 0 (4 * (i.level : Int) + bonus i.radio -
       5 * (max i.q n.quality.value : Nat) - min (n.age / 30 : Nat) 40 -
       (if n.action = .prefer then s.cfg.record.relayPenalty / 2 else s.cfg.record.relayPenalty : Nat) -
       if n.supply = .low then 10 else 0)
     let listed (c : Candidate) : Prop :=
       c ∈ buildList s ∨ (buildList s).length = 12 ∧ ∀ d ∈ buildList s, d.before c = true
     (∀ c ∈ buildList s,
       (∀ sl, c.via = .slot sl →
         (s.slot sl).state ≠ .absent ∧ (s.slot sl).state ≠ .disabled ∧ (s.slot sl).state ≠ .restarting ∧
         ∃ e ∈ s.table sl, e.code = c.code ∧ e.permitted = true ∧
           (∀ u, e.barredUntil = some u → u ≤ s.cfg.uptime) ∧ c.q = e.quality.value ∧ (c.score : Int) = own e) ∧
       (∀ n, c.via = .box n →
         s.own ≠ none ∧ ∃ e ∈ s.nbt, e.addr = n ∧ e.state = .usable ∧ e.capacity ≠ 0 ∧ e.supply ≠ .critical ∧
           (∃ i ∈ e.items, i.code = c.code ∧ c.q = max i.q e.quality.value ∧ (c.score : Int) = relay e i) ∧
           ∀ j ∈ e.items, j.code = c.code →
             relay e j ≤ c.score ∧ (relay e j = c.score → c.q ≤ max j.q e.quality.value))) ∧
     (s.NetworksSound → s.NeighboursSound →
       (∀ sl, (s.slot sl).state ≠ .absent → (s.slot sl).state ≠ .disabled → (s.slot sl).state ≠ .restarting →
         ∀ e ∈ s.table sl, e.permitted = true → (∀ u, e.barredUntil = some u → u ≤ s.cfg.uptime) →
           listed { via := .slot sl, code := e.code, score := (own e).toNat, q := e.quality.value }) ∧
       (s.own ≠ none → ∀ n ∈ s.nbt, n.state = .usable → n.capacity ≠ 0 → n.supply ≠ .critical → ∀ i ∈ n.items,
         ∃ j ∈ n.items, j.code = i.code ∧ relay n i ≤ relay n j ∧
           (relay n i = relay n j → max j.q n.quality.value ≤ max i.q n.quality.value) ∧
           listed { via := .box n.addr, code := i.code, score := (relay n j).toNat, q := max j.q n.quality.value })))

/-- R159: a source's action is that of the first entry it matches, each type matching as the table gives. -/
def Obligations.PeerFilterGivesTheFirstMatch : Prop :=
  ∀ (f : PeerFilter) (fs : List PeerFilter) (src : Nat), src < 64 → f.a < 64 → f.b < 64 →
    filterAction [] src = none ∧
    filterAction (f :: fs) src = (if filterMatches f src then some f.action else filterAction fs src) ∧
    (filterMatches f src = true ↔
      (f.type = .range ∧ f.a ≤ src ∧ src ≤ f.b) ∨ (f.type = .pair ∧ (src = f.a ∨ src = f.b)) ∨
      (f.type = .mask ∧ ∀ k, k < 6 → f.b.testBit k = true → src.testBit k = f.a.testBit k))

/-- R43, R44: what a report and a decay do to a quality counter and to its decay timer. A decay that has come due is not
lost by a report: its timer is left, and its expiry is still to be taken (log 35), so that the two give one value in
either order but at the end of the range. -/
def Obligations.QualityCounterFollowsReportsAndDecay : Prop :=
  ∀ (q : Quality) (now : Nat), q.Sound →
    (q.report now .failure).value = min 15 (q.value + 2) ∧ (q.report now .credit).value = q.value - 3 ∧
    (q.report now .noChange) = q ∧ (q.decayed now).value = q.value - 1 ∧
    (q.decayed now).Sound ∧ ((q.decayed now).value = q.value → q.decayed now = q) ∧
    ((q.decayed now).value ≠ q.value →
      (q.decayed now).decay = if (q.decayed now).value = 0 then none else some (now + 600000)) ∧
    ∀ r : Report, (q.report now r).Sound ∧ ((q.report now r).value = q.value → q.report now r = q) ∧
      ((∀ at_, q.decay = some at_ → now < at_) → (q.report now r).value ≠ q.value →
        (q.report now r).decay = if (q.report now r).value = 0 then none else some (now + 600000)) ∧
      ∀ at_, q.decay = some at_ → at_ ≤ now →
        (q.report now r).decay = (if (q.report now r).value = 0 then none else some at_) ∧
        ((r = .failure → q.value ≤ 13) → (q.report now r).decayed now = (q.decayed now).report now r)

/-- R147: what becomes of a frame handed to LNC, class by class, with room in the queue and without. R148, R149: which
frame an IDLE transmitter takes, and what the turn count becomes. -/
def Obligations.TransmitQueueAndTransmitterTakeFrames : Prop :=
  (∀ (q : List TxFrame) (f : TxFrame),
     (f.frameClass = .reach → (∀ g ∈ q, g.frameClass ≠ .reach) →
       enqueue q f = if q.length < 8 then q ++ [f] else q) ∧
     (∀ xs g ys, q = xs ++ g :: ys → f.frameClass = .reach → g.frameClass = .reach →
       (∀ x ∈ xs, x.frameClass ≠ .reach) → enqueue q f = xs ++ ys ++ [f]) ∧
     (f.frameClass = .tool → enqueue q f = if q.length < 8 then q ++ [f] else q) ∧
     (f.frameClass = .hold ∨ f.frameClass = .call →
       (q.length < 8 → enqueue q f = q ++ [f]) ∧
       (8 ≤ q.length →
         (∀ xs g ys, q = xs ++ g :: ys → g.frameClass = .tool → (∀ x ∈ xs, x.frameClass ≠ .tool) →
           enqueue q f = xs ++ ys ++ [f]) ∧
         (∀ xs g ys, q = xs ++ g :: ys → (∀ x ∈ q, x.frameClass ≠ .tool) → g.frameClass = .reach →
           (∀ x ∈ xs, x.frameClass ≠ .reach) → enqueue q f = xs ++ ys ++ [f]) ∧
         ((∀ x ∈ q, x.frameClass ≠ .tool ∧ x.frameClass ≠ .reach) → enqueue q f = q)))) ∧
  (∀ (l : Lnc), l.Sound → l.tx = .idle → ∀ q : List TxFrame, q ≠ [] → (∀ f ∈ q, f.frameClass ≠ .unsent) →
     ∃ xs g ys, q = xs ++ g :: ys ∧ (∀ x ∈ xs, x.frameClass ≠ g.frameClass) ∧
       (Lnc.takeFrame { l with queue := q }).queue = xs ++ ys ∧
       (Lnc.takeFrame { l with queue := q }).inHand = some g ∧
       (Lnc.takeFrame { l with queue := q }).tx = .gap ∧
       (Lnc.takeFrame { l with queue := q }).collisions = 0 ∧
       (l.turn = 4 → (∃ f ∈ q, f.frameClass = .reach) → g.frameClass = .reach) ∧
       (¬ (l.turn = 4 ∧ ∃ f ∈ q, f.frameClass = .reach) →
         (g.frameClass = .call → ∀ f ∈ q, f.frameClass ≠ .hold) ∧
         (g.frameClass = .reach → ∀ f ∈ q, f.frameClass ≠ .hold ∧ f.frameClass ≠ .call) ∧
         (g.frameClass = .tool → ∀ f ∈ q, f.frameClass = .tool)) ∧
       (Lnc.takeFrame { l with queue := q }).turn =
         if (g.frameClass = .hold ∨ g.frameClass = .call) ∧ ∃ f ∈ q, f.frameClass = .reach then l.turn + 1 else 0)

/-! ### Resets, start-up, supply and time -/

/-- R181, R182: a cold reset puts every block at its cold values in any phase; the release of the pin begins the read
of the configuration record, and in a brown-out hold it is a cold reset first (R174; log 18). What the lines have
carried, the queue and the free-order counter are the model's own and stand (logs 1, 6, 11). The fields to which the
chapters give no value before the read hold the model's (log 4). -/
def Obligations.ColdResetAndReleaseLeaveTheColdState : Prop :=
  (∀ s : State, exec .coldReset s = .next
    { State.reset with
      slc := { a := { State.reset.slc.a with sent := s.slc.a.sent }, b := { State.reset.slc.b with sent := s.slc.b.sent } }
      lnc := { State.reset.lnc with sent := s.lnc.sent }
      choices := s.choices
      pending := s.pending }) ∧
  (∀ s : State, s.phase = .resetHeld →
    exec .resetRelease s = .next { s with phase := .readingConfig, spm := { s.spm with timer := none } }) ∧
  ∀ s : State, s.phase = .brownOutHeld → ∃ t, exec .resetRelease s = .next t ∧
    t.phase = .readingConfig ∧ t.svc = State.reset.svc ∧ t.ple = State.reset.ple ∧ t.nwt = State.reset.nwt ∧
    t.nbt = [] ∧ t.cye = [] ∧ t.tkm = State.reset.tkm ∧ t.xpt = State.reset.xpt ∧ t.cpi = State.reset.cpi

/-- What a start-up leaves, whatever the record: R182 steps 3 and 4. R181, R182: a cold reset holds the part from any
state, and the release of the pin brings it to the read of its record, in a brown-out hold after a cold reset (log 18).
R177, R178, R179, R182: without a valid record, because the deadline expires or the sum is not 0, every field takes its
default, the box is ISOLATED, both slots warm and no advert timer runs. R178, R159: a peer filter of a valid record
whose type and action it lists reads as written, its two values clamped to 63; any other is OFF. The supply level of the
first sample comes with the command (log 20), and the deadline is taken at any moment of the read (log 37); origin and
limit start of the IDLE record are the model's (log 4). R153: the bytes that other boxes put on the line from then on
are a free value, drawn afresh at each start-up (log 24). -/
def Obligations.StartUpFollowsTheRecord : Prop :=
  (∀ s : State, ∃ r, exec .coldReset s = .next r ∧ r.phase = .resetHeld ∧ r.svc = State.reset.svc ∧
     r.ple = State.reset.ple ∧ r.cye = [] ∧ r.pending = s.pending ∧
     ∀ sl, (r.slot sl).power = false ∧ (r.slot sl).NoClaims ∧ (r.slot sl).grant = .nobody) ∧
  (∀ s : State, s.phase = .resetHeld ∨ s.phase = .brownOutHeld → ∃ t, exec .resetRelease s = .next t ∧
     t.phase = .readingConfig ∧ t.spm.timer = none ∧ t.pending = s.pending ∧
     t.svc = (if s.phase = .brownOutHeld then State.reset.svc else s.svc)) ∧
  (∀ (s : State) (bytes : List Byte) (level : Nat), s.phase = .readingConfig → bytes.length = 32 →
     (bytes.map BitVec.toNat).sum % 256 = 0 → 95 ≤ level →
     let b (k : Nat) : Nat := (bytes.getD k 0).toNat
     let fits (sl : Slot) : Prop := b 2 ≠ 0 ∧ b 2 ≠ (if sl = .a then 2 else 1)
     ∃ t, exec (.configReadComplete bytes level) s = .next t ∧ t.phase = .running ∧
       t.clock = { now := 0, second := 0 } ∧ t.cfg.uptime = 0 ∧ t.cfg.load = .valid ∧
       t.cfg.record.segment = b 1 ∧ t.cfg.record.advertInterval = max 10 (min 120 (b 3)) ∧
       t.cfg.record.scanInterval = max 300 (min 3600 (b 4 * 256 + b 5)) ∧ t.cfg.record.relayPenalty = min 63 (b 6) ∧
       t.cfg.record.policy = (if b 7 = 0 then .none else if b 7 = 2 then .both else .one) ∧
       t.cfg.record.lowThreshold = max 100 (min 140 (b 8)) ∧ (t.cfg.record.carrying = true ↔ b 9 ≠ 0) ∧
       (1 ≤ b 0 ∧ b 0 ≤ 62 →
         t.own = some (b 0) ∧ t.lnc.rng.toNat = b 0 * 1021 ∧ t.adv.timer = .startWait 45000) ∧
       (¬ (1 ≤ b 0 ∧ b 0 ≤ 62) → t.own = none ∧ t.lnc.rng = 1 ∧ t.adv.timer = .stopped) ∧
       (∀ sl, fits sl → (t.slot sl).state = .warming ∧ (t.slot sl).power = true ∧ (t.slot sl).waitingScan = true ∧
         (t.slot sl).deadline = some 20000) ∧
       (∀ sl, ¬ fits sl → (t.slot sl).state = .absent ∧ (t.slot sl).power = false ∧ (t.slot sl).waitingScan = false) ∧
       t.spm = { level := level, supply := .ok, pendingSupply := none, count := 0, settling := true,
                 timer := some 10000 } ∧
       t.lnc.heard = Config.otherBytes s.choices ∧ t.choices = s.choices + 1 ∧
       t.cpi.buttonWatch = some 50 ∧ t.cpi.hookWatch = some 50 ∧ t.svc = s.svc ∧ t.nwt = State.reset.nwt ∧ t.nbt = [] ∧
       t.ple = State.reset.ple ∧ t.cye = [] ∧ t.tkm = State.reset.tkm ∧ t.xpt = State.reset.xpt ∧ t.rsl = [] ∧
       t.cfg.record.filters.length = 4 ∧
       ∀ k, k < 4 → ∃ f, t.cfg.record.filters[k]? = some f ∧
         (∀ ty : FilterType, (b (10 + 4 * k), ty) ∈ [(1, FilterType.range), (2, .pair), (3, .mask)] →
           ∀ act : FilterAction, (b (13 + 4 * k), act) ∈ [(0, FilterAction.ignore), (1, .prefer)] →
           f = { type := ty, a := min 63 (b (11 + 4 * k)), b := min 63 (b (12 + 4 * k)), action := act }) ∧
         (b (10 + 4 * k) = 0 ∨ 3 < b (10 + 4 * k) ∨ 1 < b (13 + 4 * k) → f.type = .off)) ∧
  (∀ (s : State) (bytes : List Byte) (level : Nat), s.phase = .readingConfig → 95 ≤ level → bytes.length = 32 →
     (bytes.map BitVec.toNat).sum % 256 ≠ 0 →
     ∀ c ∈ [Instr.configReadDeadline level, Instr.configReadComplete bytes level],
     ∃ t, exec c s = .next t ∧ t.phase = .running ∧ t.cfg.load = .defaulted ∧ t.own = none ∧ t.cfg.uptime = 0 ∧
       t.cfg.record.segment = 0 ∧ t.cfg.record.advertInterval = 30 ∧ t.cfg.record.scanInterval = 600 ∧
       t.cfg.record.relayPenalty = 24 ∧ t.cfg.record.policy = .one ∧ t.cfg.record.lowThreshold = 118 ∧
       t.cfg.record.carrying = true ∧ (∀ f ∈ t.cfg.record.filters, f.type = .off) ∧ t.lnc.rng = 1 ∧
       t.lnc.heard = Config.otherBytes s.choices ∧ t.choices = s.choices + 1 ∧
       t.adv.timer = .stopped ∧ t.spm.level = level ∧ t.spm.settling = true ∧ t.spm.timer = some 10000 ∧
       (∀ sl, (t.slot sl).state = .warming ∧ (t.slot sl).waitingScan = true ∧ (t.slot sl).deadline = some 20000) ∧
       t.svc = s.svc)

/-- R172, R173: the sample of a supply level of 95 or more, in settling and outside it; R171: and the next sample. R72:
on the entry to CRITICAL the scan timers stop and waiting periodic claims go, and on CRITICAL's end the scan timers
start again at twice the scan interval; other changes of the supply state leave them. -/
def Obligations.SupplySampleSettlesAndDebounces : Prop :=
  ∀ (s : State) (at_ level : Nat), s.phase = .running → s.Due s.spm.timer at_ → 95 ≤ level →
    ∃ t, exec (.supplySample level) s = .next t ∧
      let low := s.cfg.record.lowThreshold
      let points : Option Supply := match s.spm.supply with
        | .ok => if level < low then some .low else none
        | .low => if level < 108 then some .critical else if low + 4 ≤ level then some .ok else none
        | .critical => if 112 ≤ level then some .low else none
      t.spm.level = level ∧ t.spm.settling = false ∧
      (s.spm.settling = true →
        t.spm.supply = (if level < 108 ∧ s.spm.level < 108 then .critical
          else if level < low ∧ s.spm.level < low then .low else .ok) ∧
        t.spm.pendingSupply = none ∧ t.spm.count = 0) ∧
      (s.spm.settling = false →
        (points = none → t.spm.supply = s.spm.supply ∧ t.spm.pendingSupply = none ∧ t.spm.count = 0) ∧
        ∀ st, points = some st →
          (s.spm.pendingSupply = some st ∧ s.spm.count = 1 →
            t.spm.supply = st ∧ t.spm.pendingSupply = none ∧ t.spm.count = 0) ∧
          (¬ (s.spm.pendingSupply = some st ∧ s.spm.count = 1) →
            t.spm.supply = s.spm.supply ∧ t.spm.pendingSupply = some st ∧ t.spm.count = 1)) ∧
      t.spm.timer = some (max s.clock.now at_ +
        if s.ple.state ≠ .idle ∨ s.cye ≠ [] then 10000 else 60000) ∧
      (t.spm.supply = s.spm.supply → t.slc = s.slc ∧ t.cpi = s.cpi) ∧
      (t.spm.supply = .critical → s.spm.supply ≠ .critical → ∀ sl, isOut (s.slot sl).state = false →
        (t.slot sl).scanTimer = none ∧ (t.slot sl).waitingScan = false) ∧
      (t.spm.supply = .low → s.spm.supply = .critical → ∀ sl, isOut (s.slot sl).state = false →
        (t.slot sl).scanTimer = some (max s.clock.now at_ + 2 * s.cfg.record.scanInterval * 1000) ∧
        (t.slot sl).state = (s.slot sl).state ∧ (t.slot sl).waitingScan = (s.slot sl).waitingScan ∧
        (t.slot sl).deadline = (s.slot sl).deadline ∧ (t.slot sl).sent = (s.slot sl).sent) ∧
      (t.spm.supply ≠ .critical → s.spm.supply ≠ .critical → t.slc = s.slc) ∧
      t.ple = s.ple ∧ t.cye = s.cye ∧ t.lnc = s.lnc ∧ t.adv = s.adv ∧ t.nwt = s.nwt ∧ t.nbt = s.nbt ∧
      t.tkm = s.tkm ∧ t.xpt = s.xpt ∧ t.svc = s.svc ∧ t.cfg = s.cfg

/-- R174: a sample below 95 is a brown-out reset that keeps the call log and the call id counter; in the hold a sample
of 105 or more begins the start-up and a lower one keeps the hold; a first sample below 95 abandons a start-up. The
samples of the hold run outside the time base (log 21). Origin, limit start, button and hook stand at the model's values
in the hold (log 4). -/
def Obligations.BrownOutHoldsThePartAndKeepsTheLog : Prop :=
  (∀ (s : State) (at_ level : Nat), s.phase = .running → s.Due s.spm.timer at_ → level < 95 →
    ∃ t, exec (.supplySample level) s = .next t ∧ t.phase = .brownOutHeld ∧ t.svc = s.svc ∧
      t.ple = State.reset.ple ∧ t.cye = [] ∧ t.nwt = State.reset.nwt ∧ t.nbt = [] ∧ t.tkm = State.reset.tkm ∧
      t.xpt = State.reset.xpt ∧ t.cpi = State.reset.cpi ∧ (∀ sl, (t.slot sl).power = false) ∧ t.lnc.queue = [] ∧
      t.lnc.tx = .idle ∧ t.lnc.sent = s.lnc.sent) ∧
  (∀ (s : State) (level : Nat), s.phase = .brownOutHeld → 105 ≤ level →
    exec (.supplySample level) s = .next { s with phase := .readingConfig, spm := { s.spm with timer := none } }) ∧
  (∀ (s : State) (level : Nat), s.phase = .brownOutHeld → level < 105 → exec (.supplySample level) s = .next s) ∧
  ∀ (s : State) (bytes : List Byte) (level : Nat), s.phase = .readingConfig → bytes.length = 32 → level < 95 →
    ∀ c ∈ [Instr.configReadDeadline level, Instr.configReadComplete bytes level],
    ∃ t, exec c s = .next t ∧ t.phase = .brownOutHeld ∧ t.svc = s.svc ∧ ∀ sl, (t.slot sl).power = false

/-- R180, R54, R138, R15, R29: what one second of the uptime counts, and that it touches nothing else but an early
advert that the ageing makes due (R132): the advert generator and the line stand where none is due. The order within a
tick is the model's (log 22), and so are an age that stands at 3600 until its removal (log 17) and a window that stands
at 0 until its expiry (log 28). -/
def Obligations.UptimeTickCountsOneSecond : Prop :=
  ∀ s : State, s.phase = .running → ∃ t, exec .uptimeTick s = .next t ∧
    t.cfg = { s.cfg with uptime := min 4294967295 (s.cfg.uptime + 1) } ∧
    t.clock = { now := s.clock.second + 1000, second := s.clock.second + 1000 } ∧
    (∀ sl, t.table sl = (s.table sl).map fun e => { e with age := min 3600 (e.age + 1) }) ∧
    t.nbt = (s.nbt.map fun n => { n with age := min 65535 (n.age + 1) }) ∧
    t.ple = { s.ple with
      talkSeconds := if s.ple.state = .talking then min 65535 (s.ple.talkSeconds + 1) else s.ple.talkSeconds
      window := s.ple.window.map (· - 1) } ∧
    t.cye = (s.cye.map fun c =>
      if c.state = .talking then { c with talkSeconds := min 65535 (c.talkSeconds + 1) } else c) ∧
    t.slc = s.slc ∧ t.tkm = s.tkm ∧ t.xpt = s.xpt ∧ t.cpi = s.cpi ∧ t.rsl = s.rsl ∧ t.spm = s.spm ∧ t.svc = s.svc ∧
    (s.own = none → t.adv = s.adv ∧ t.lnc = s.lnc) ∧
    (¬ s.EarlyAdvertDue (advertItems t) → t.adv = s.adv ∧ t.lnc = s.lnc)

/-! ### The call point -/

/-- R161, R162, R160: a change of a switch's level starts its 50 ms debounce or takes it back, a watch after a reset
starts again, a watch that ends learns the levels with no event, and the end of a release is no event. Each input has a
watch of its own (log 26): a change restarts its own, and one that ends before the other learns its own level alone. -/
def Obligations.SwitchesAreDebouncedWithoutEvents : Prop :=
  (∀ (s : State) (ms : Nat), s.phase = .running → s.cpi.buttonWatch = none →
    let now := (s.arrive ms).clock.now
    (s.cpi.button = .released → exec (.buttonInputChange true ms) s = .next ((s.arrive ms).withCpi
      { s.cpi with button := .pressPending, buttonTimer := some (now + 50) })) ∧
    (s.cpi.button = .pressPending → exec (.buttonInputChange false ms) s = .next ((s.arrive ms).withCpi
      { s.cpi with button := .released, buttonTimer := none })) ∧
    (s.cpi.button = .pressed → exec (.buttonInputChange false ms) s = .next ((s.arrive ms).withCpi
      { s.cpi with button := .releasePending, buttonTimer := some (now + 50) })) ∧
    (s.cpi.button = .releasePending → exec (.buttonInputChange true ms) s = .next ((s.arrive ms).withCpi
      { s.cpi with button := .pressed, buttonTimer := none }))) ∧
  (∀ (s : State) (ms : Nat), s.phase = .running → s.cpi.hookWatch = none →
    let now := (s.arrive ms).clock.now
    (s.cpi.hook = .onHook → exec (.hookInputChange true ms) s = .next ((s.arrive ms).withCpi
      { s.cpi with hook := .liftPending, hookTimer := some (now + 50) })) ∧
    (s.cpi.hook = .liftPending → exec (.hookInputChange false ms) s = .next ((s.arrive ms).withCpi
      { s.cpi with hook := .onHook, hookTimer := none })) ∧
    (s.cpi.hook = .lifted → exec (.hookInputChange false ms) s = .next ((s.arrive ms).withCpi
      { s.cpi with hook := .replacePending, hookTimer := some (now + 50) })) ∧
    (s.cpi.hook = .replacePending → exec (.hookInputChange true ms) s = .next ((s.arrive ms).withCpi
      { s.cpi with hook := .lifted, hookTimer := none }))) ∧
  (∀ (s : State) (ms at_ : Nat) (level : Bool), s.phase = .running → s.cpi.buttonWatch = some at_ →
    exec (.buttonInputChange level ms) s = .next ((s.arrive ms).withCpi
      { s.cpi with buttonWatch := some ((s.arrive ms).clock.now + 50) })) ∧
  (∀ (s : State) (ms at_ : Nat) (level : Bool), s.phase = .running → s.cpi.hookWatch = some at_ →
    exec (.hookInputChange level ms) s = .next ((s.arrive ms).withCpi
      { s.cpi with hookWatch := some ((s.arrive ms).clock.now + 50) })) ∧
  (∀ (s : State) (at_ : Nat) (down lifted : Bool), s.Due s.cpi.buttonWatch at_ → s.cpi.hookWatch = some at_ →
    exec (.inputWatchEnd down lifted) s = .next ((s.advanceTo at_).withCpi
      { s.cpi with
        button := if down then .pressed else .released
        hook := if lifted then .lifted else .onHook
        buttonWatch := none
        hookWatch := none })) ∧
  (∀ (s : State) (at_ : Nat) (down lifted : Bool), s.Due s.cpi.buttonWatch at_ →
    (∀ x, s.cpi.hookWatch = some x → max s.clock.now at_ < x) →
    exec (.inputWatchEnd down lifted) s = .next ((s.advanceTo at_).withCpi
      { s.cpi with button := if down then .pressed else .released, buttonWatch := none })) ∧
  (∀ (s : State) (at_ : Nat) (down lifted : Bool), s.Due s.cpi.hookWatch at_ →
    (∀ x, s.cpi.buttonWatch = some x → max s.clock.now at_ < x) →
    exec (.inputWatchEnd down lifted) s = .next ((s.advanceTo at_).withCpi
      { s.cpi with hook := if lifted then .lifted else .onHook, hookWatch := none })) ∧
  ∀ (s : State) (at_ : Nat), s.Due s.cpi.buttonTimer at_ → s.cpi.button = .releasePending →
    exec .buttonTimerExpiry s = .next ((s.advanceTo at_).withCpi { s.cpi with button := .released, buttonTimer := none })

/-- R2, R4, R9, R12: a press or a lift in IDLE opens the record and starts the first round on a fresh candidate list.
R10, R13, R14, R17: its routes are taken in order, a relay route with CREQ and an own route with a claim on its slot.
R31, R76: in BELL both answer the callback. R171: the box becomes busy as the record leaves IDLE, and a sample timer
with more than 10 s left is cut to 10 s. R5, R11: a press in WAITING starts the next round; a press elsewhere changes no
more than the button state, and a lift elsewhere sets handset-lifted. The placement limit runs from the millisecond of
the press or lift (log 38). -/
def Obligations.PressOrLiftInIdleStartsACall : Prop :=
  ∀ (s : State) (at_ : Nat) (byHandset : Bool),
    (if byHandset then s.Due s.cpi.hookTimer at_ ∧ s.cpi.hook = .liftPending
      else s.Due s.cpi.buttonTimer at_ ∧ s.cpi.button = .pressPending) →
    let now := max s.clock.now at_
    let k := if byHandset then Instr.hookTimerExpiry else Instr.buttonTimerExpiry
    let switch : Cpi := if byHandset then { s.cpi with hook := .lifted, hookTimer := none }
      else { s.cpi with button := .pressed, buttonTimer := none }
    (s.ple.state = .idle → ∃ t, exec k s = .next t ∧
      (if byHandset then t.cpi.hook = .lifted ∧ t.cpi.hookTimer = none
        else t.cpi.button = .pressed ∧ t.cpi.buttonTimer = none) ∧
      t.ple.callId = s.svc.nextCallId ∧ t.svc = { s.svc with nextCallId := (s.svc.nextCallId + 1) % 256 } ∧
      t.ple.origin = (if byHandset then .handset else .button) ∧ t.ple.limitStart = s.cfg.uptime ∧
      t.ple.handsetLifted = (if byHandset then true else hookReadsLifted s.cpi.hook) ∧
      t.ple.reachedTalking = false ∧ t.ple.resumptions = 0 ∧ t.ple.talkSeconds = 0 ∧ t.ple.talkRoute = none ∧
      t.ple.pauseLength = 5 ∧ t.ple.rounds = 1 ∧ t.ple.placementLimit = some (now + 1800000) ∧
      t.ple.window = s.ple.window ∧ t.rsl = buildList s ∧
      (buildList s = [] → t.ple.state = .waiting ∧ t.ple.pauseTimer = some (now + 5000) ∧ t.ple.attempts = 0) ∧
      (buildList s ≠ [] → 1 ≤ t.ple.attempts ∧
        (t.ple.state = .dialling ∨ t.ple.state = .relaying ∨ t.ple.state = .waiting)) ∧
      State.StartsRound (s.withPle { State.reset.ple with callId := s.svc.nextCallId }) t now ∧
      t.cpi.lamp = .slow ∧ t.cpi.fastFlash = none ∧
      t.spm = { s.spm with timer := s.spm.timer.map fun d => min d (now + 10000) } ∧
      t.nwt = s.nwt ∧ t.nbt = s.nbt ∧ t.adv = s.adv ∧ t.tkm = s.tkm ∧ t.cfg = s.cfg) ∧
    (∀ sl code, s.ple.state = .bell → s.ple.route = some ⟨.slot sl, code⟩ → (s.slot sl).state = .offered →
      ∃ t, exec k s = .next t ∧
        t.ple = { s.ple with
          state := .talking, reachedTalking := true, talkRoute := s.ple.route, bellTimer := none, ringLimit := none,
          placementLimit := none, handsetLifted := byHandset || s.ple.handsetLifted } ∧
        t.cpi.button = switch.button ∧ t.cpi.hook = switch.hook ∧ t.cpi.bell = .silent ∧ t.cpi.bellCadence = none ∧
        t.cpi.lamp = .steady ∧ t.xpt = ((s.advanceTo at_).xptJoin .localCall .handset (.slot sl)).xpt ∧
        (t.slot sl).state = .talking ∧ (t.slot sl).grant = (s.slot sl).grant ∧ (t.slot sl).deadline = none ∧
        (t.slot sl).sent = (s.slot sl).sent ++ [.take] ∧ t.slot (otherSlot sl) = s.slot (otherSlot sl) ∧
        t.svc = s.svc ∧ t.cye = s.cye ∧ t.nwt = s.nwt ∧ t.nbt = s.nbt ∧ t.lnc = s.lnc ∧ t.tkm = s.tkm ∧
        t.spm = s.spm) ∧
    (s.ple.state = .waiting → byHandset = false →
      let next := if s.ple.pauseLength = 5 then 10 else if s.ple.pauseLength = 10 then 20
        else if s.ple.pauseLength = 20 then 40 else 60
      ∃ t, exec k s = .next t ∧ t.cpi.button = .pressed ∧ t.cpi.buttonTimer = none ∧ t.ple.pauseLength = next ∧
        State.StartsRound ((((s.advanceTo at_).withdrawEmergency .a).withdrawEmergency .b).withPle
          { s.ple with awaited := [], pauseLength := next }) t now ∧
        (t.ple.state ≠ .waiting → t.ple.pauseTimer = none) ∧ t.ple.callId = s.ple.callId ∧
        t.ple.origin = s.ple.origin ∧ t.ple.handsetLifted = s.ple.handsetLifted ∧ t.ple.resumptions = s.ple.resumptions ∧
        t.ple.placementLimit = s.ple.placementLimit ∧ t.svc = s.svc ∧ t.nwt = s.nwt ∧ t.nbt = s.nbt ∧ t.tkm = s.tkm ∧
        t.spm = s.spm) ∧
    (s.ple.state = .dialling ∨ s.ple.state = .relaying ∨ s.ple.state = .ringing ∨ s.ple.state = .talking ∨
        s.ple.state = .waiting ∧ byHandset = true →
      exec k s = .next (((s.advanceTo at_).withCpi switch).withPle
        { s.ple with handsetLifted := byHandset || s.ple.handsetLifted }))

/-- R5, R6, R7, R8: a replacement with the handset in use closes the call as TALKED or CALLER_CLEARED and charges
nothing; with the handset not in use, or in IDLE, it changes the hook state alone. R6, R70, R75, R76: on an own route a
waiting claim is withdrawn and a grant released, with DROP where DIAL was sent and with REFUSE on an offer; a WAITING
call leaves no emergency-scan claim; of a relay attempt whose answer is still awaited nothing is sent. Origin and limit
start of the closed record are the model's (log 27). -/
def Obligations.ReplacementClearsTheCall : Prop :=
  ∀ (s : State) (at_ : Nat), s.Due s.cpi.hookTimer at_ → s.cpi.hook = .replacePending →
    (s.ple.state ≠ .idle → s.ple.handsetLifted = true →
      ∃ t, exec .hookTimerExpiry s = .next t ∧ t.cpi.hook = .onHook ∧ t.cpi.hookTimer = none ∧
        t.ple = { State.reset.ple with
          window := match s.ple.talkRoute with
            | some ⟨.slot _, _⟩ => some 900
            | _ => s.ple.window } ∧
        (∃ r : LogRecord, t.svc.log = (r :: s.svc.log).take 32 ∧ r.callId = s.ple.callId ∧
          r.kind = (if s.ple.origin = .callback then .callback else .localCall) ∧
          r.partner = ((s.ple.talkRoute.or s.ple.route).map Route.via) ∧
          r.code = ((s.ple.talkRoute.or s.ple.route).bind Route.code) ∧
          r.rounds = s.ple.rounds ∧ r.attempts = s.ple.attempts ∧ r.talkSeconds = s.ple.talkSeconds ∧
          r.endUptime = s.cfg.uptime ∧ r.outcome = if s.ple.reachedTalking then .talked else .callerCleared) ∧
        t.cpi.lamp = .off ∧ t.cpi.fastFlash = none ∧ t.cpi.bell = .silent ∧
        (∀ j ∈ t.xpt.joins, j.owner ≠ .localCall) ∧ (∀ j ∈ t.xpt.waiting, j.owner ≠ .localCall) ∧
        (∀ n tr, s.ple.relayCarrier = some n → s.ple.trunk = some tr →
          t.lnc = ((s.advanceTo at_).hand n (.cend s.ple.callId .callerCleared)).lnc) ∧
        s.WindsUp t (max s.clock.now at_) ∧
        (∀ sl code, s.ple.route = some ⟨.slot sl, code⟩ →
          (s.ple.state = .bell → (s.slot sl).grant = .localCall → (s.slot sl).state = .offered → (s.slot sl).NoClaims →
            (t.slot sl).state = .idle ∧ (t.slot sl).grant = .nobody ∧
            (t.slot sl).sent = (s.slot sl).sent ++ [.refuse] ∧ t.slot (otherSlot sl) = s.slot (otherSlot sl))) ∧
        t.nwt = s.nwt ∧ t.nbt = s.nbt ∧ t.adv = s.adv ∧ t.tkm = s.tkm ∧ t.spm = s.spm ∧ t.cfg = s.cfg) ∧
    (s.ple.state = .idle ∨ s.ple.handsetLifted = false →
      exec .hookTimerExpiry s = .next ((s.advanceTo at_).withCpi { s.cpi with hook := .onHook, hookTimer := none }))

/-- R163, R164, R169: the phases of the bell, the CALL lamp and the CONNECTING cue follow one another at their
lengths, and the fast flash ends with the lamp OFF. -/
def Obligations.CadencesAlternateTheirPhases : Prop :=
  (∀ (s : State) (at_ : Nat) (driven : Bool), s.Due s.cpi.bellCadence at_ → s.cpi.bell = .ringing driven →
    exec .bellCadence s = .next ((s.advanceTo at_).withCpi
      { s.cpi with bell := .ringing (!driven)
                   bellCadence := some (max s.clock.now at_ + if driven then 2000 else 1000) })) ∧
  (∀ (s : State) (at_ : Nat), s.Due s.cpi.lampCadence at_ → s.cpi.lamp = .slow ∨ s.cpi.lamp = .fast →
    exec .lampCadence s = .next ((s.advanceTo at_).withCpi
      { s.cpi with lampLit := !s.cpi.lampLit
                   lampCadence := some (max s.clock.now at_ + if s.cpi.lamp = .slow then 500 else 125) })) ∧
  (∀ (s : State) (at_ : Nat) (burst : Bool), s.Due s.xpt.cadence at_ → s.xpt.cue = .connecting burst →
    exec .toneCadence s = .next ((s.advanceTo at_).withXpt
      { s.xpt with cue := .connecting (!burst)
                   cadence := some (max s.clock.now at_ + if burst then 3500 else 500) })) ∧
  ∀ (s : State) (at_ : Nat), s.Due s.cpi.fastFlash at_ → s.cpi.lamp = .fast →
    exec .fastFlashTimerExpiry s = .next ((s.advanceTo at_).withCpi
      { s.cpi with lamp := .off, lampLit := false, lampCadence := none, fastFlash := none })

/-! ### The local call's timers -/

/-- R11, R12: the end of a pause advances the pause length and starts the next round on a fresh candidate list; a
round with routes leaves no emergency-scan claim waiting. R10, R13, R14, R17: the routes are taken in order as the first
round's are. -/
def Obligations.PauseEndsInTheNextRound : Prop :=
  ∀ (s : State) (at_ : Nat), s.Due s.ple.pauseTimer at_ → s.ple.state = .waiting →
    let next := if s.ple.pauseLength = 5 then 10 else if s.ple.pauseLength = 10 then 20
      else if s.ple.pauseLength = 20 then 40 else 60
    ∃ t, exec .pauseTimerExpiry s = .next t ∧
      t.ple.rounds = min 255 (s.ple.rounds + 1) ∧ t.ple.pauseLength = next ∧ t.rsl = buildList s ∧
      (buildList s = [] → t.ple.state = .waiting ∧ t.ple.tried = [] ∧ t.ple.attempts = s.ple.attempts ∧
        t.ple.pauseTimer = some (max s.clock.now at_ + next * 1000)) ∧
      (buildList s ≠ [] → (t.ple.state = .dialling ∨ t.ple.state = .relaying ∨ t.ple.state = .waiting) ∧
        (t.ple.state ≠ .waiting → t.ple.pauseTimer = none) ∧
        ∀ sl, (t.slot sl).waitingLocal ≠ some .emergencyScan) ∧
      State.StartsRound ((((s.advanceTo at_).withdrawEmergency .a).withdrawEmergency .b).withPle
        { s.ple with awaited := [], pauseLength := next }) t (max s.clock.now at_) ∧
      t.ple.callId = s.ple.callId ∧ t.ple.origin = s.ple.origin ∧ t.ple.handsetLifted = s.ple.handsetLifted ∧
      t.ple.reachedTalking = s.ple.reachedTalking ∧ t.ple.resumptions = s.ple.resumptions ∧
      t.ple.talkSeconds = s.ple.talkSeconds ∧ t.ple.talkRoute = s.ple.talkRoute ∧
      t.ple.placementLimit = s.ple.placementLimit ∧ t.ple.window = s.ple.window ∧
      t.svc = s.svc ∧ t.nwt = s.nwt ∧ t.nbt = s.nbt ∧ t.tkm = s.tkm ∧ t.cfg = s.cfg

/-- R17, R25, R26: an answer timer that expires charges the neighbour with a failure; the routes of the
list not yet tried are taken in order, and with every route tried the record waits and nothing is sent. R19: the
requester's hold refresh sends the same THLD again, every 2 s. -/
def Obligations.RelayWaitRefreshesAndTimesOut : Prop :=
  (∀ (s : State) (at_ n : Nat) (code : Option Nat), s.Due s.ple.answerTimer at_ → s.ple.state = .relaying →
     s.ple.route = some ⟨.box n, code⟩ →
     let now := max s.clock.now at_
     ∃ t, exec .answerTimerExpiry s = .next t ∧
       t.nbt = (s.nbt.map fun e => if e.addr = n then { e with quality := e.quality.report now .failure } else e) ∧
       t.nwt = s.nwt ∧ t.adv = s.adv ∧ t.svc = s.svc ∧ t.tkm = s.tkm ∧ t.cfg = s.cfg ∧ t.rsl = s.rsl ∧
       t.ple.trunk = none ∧ t.ple.holdRefresh = none ∧ t.ple.carrierSilence = none ∧ t.ple.ringLimit = none ∧
       t.ple.callId = s.ple.callId ∧ t.ple.rounds = s.ple.rounds ∧ t.ple.pauseLength = s.ple.pauseLength ∧
       State.TakesRoutes (s.withNbt t.nbt) t now (s.rsl.filter fun c => c.route ∉ s.ple.tried) ∧
       (s.AllTried →
         t.ple = { s.ple with
           state := .waiting, trunk := none, answerTimer := none, holdRefresh := none, carrierSilence := none,
           ringLimit := none, pauseTimer := some (now + s.ple.pauseLength * 1000) } ∧
         t.lnc = s.lnc ∧ t.slc = s.slc ∧ t.cye = s.cye ∧ t.cpi.lamp = .slow)) ∧
  (∀ (s : State) (at_ n : Nat) (t : Trunk), s.Due s.ple.holdRefresh at_ → s.ple.relayCarrier = some n →
     s.ple.trunk = some t →
     exec .requesterHoldRefresh s = .next (((s.advanceTo at_).hand 0
       (.thld (trunkNum t) n s.ownNum s.ple.callId)).withPle
         { s.ple with holdRefresh := some (max s.clock.now at_ + 2000) }))

/-- R22, R24, R25, R26: a silent carrier and a relay attempt's ring limit end the attempt with CEND and a failure on the
neighbour; the routes not yet tried are taken in order, and with every route tried the record waits. R16, R24, R70, R75:
an own route's ring limit has DROP sent, leaves the slot CLEARING with no grant, and charges its network entry with a
failure. R27: a carrier silent while TALKING is a loss; with fewer than five resumptions CEND(LOST) goes out, the
neighbour is charged and a round starts, the placement limit running afresh; the sixth loss closes the call as LOST,
with CEND(LOST) and the charge. The limit runs from the millisecond of the loss (log 38); origin and limit start of the
closed record are the model's (log 27). -/
def Obligations.SilenceAndRingLimitEndTheAttempt : Prop :=
  (∀ (s : State) (at_ n : Nat) (code : Option Nat) (bySilence : Bool), s.ple.route = some ⟨.box n, code⟩ →
     (if bySilence then s.Due s.ple.carrierSilence at_ ∧ (s.ple.state = .relaying ∨ s.ple.state = .ringing)
       else s.Due s.ple.ringLimit at_ ∧ s.ple.state = .ringing) →
     let now := max s.clock.now at_
     let u := (s.advanceTo at_).hand n (.cend s.ple.callId (if bySilence then .lost else .limit))
     ∃ t, exec (if bySilence then .carrierSilenceExpiry else .ringLimitExpiry) s = .next t ∧
       t.nbt = (s.nbt.map fun e => if e.addr = n then { e with quality := e.quality.report now .failure } else e) ∧
       State.EndsAttempt (u.withNbt t.nbt) t now ∧
       (s.AllTried →
         t.ple = { s.ple with
           state := .waiting, trunk := none, answerTimer := none, holdRefresh := none, carrierSilence := none,
           ringLimit := none, pauseTimer := some (now + s.ple.pauseLength * 1000) } ∧
         t.lnc = u.lnc ∧ t.slc = s.slc) ∧
       t.nwt = s.nwt ∧ t.adv = s.adv ∧ t.svc = s.svc ∧ t.tkm = s.tkm ∧ t.cye = s.cye ∧ t.rsl = s.rsl) ∧
  (∀ (s : State) (at_ code : Nat) (sl : Slot), s.Due s.ple.ringLimit at_ → s.ple.state = .ringing →
     s.ple.route = some ⟨.slot sl, some code⟩ → (s.slot sl).state = .ringing → (s.slot sl).grant = .localCall →
     let now := max s.clock.now at_
     ∃ t, exec .ringLimitExpiry s = .next t ∧
       (t.slot sl).state = .clearing ∧ (t.slot sl).grant = .nobody ∧ (t.slot sl).request = .drop ∧
       (t.slot sl).deadline = some (now + 5000) ∧ (t.slot sl).sent = (s.slot sl).sent ++ [.drop] ∧
       State.EndsAttempt (((s.advanceTo at_).dropped sl).reportEntry sl code .failure) t now ∧
       (s.AllTried → t.slot (otherSlot sl) = s.slot (otherSlot sl) ∧ t.ple.state = .waiting ∧
         t.ple.pauseTimer = some (now + s.ple.pauseLength * 1000) ∧ t.ple.attempts = s.ple.attempts) ∧
       t.table sl = ((s.table sl).map fun e =>
         if e.code = code then { e with quality := e.quality.report now .failure } else e) ∧
       t.table (otherSlot sl) = s.table (otherSlot sl) ∧ t.ple.ringLimit = none ∧ t.ple.trunk = none ∧
       t.nbt = s.nbt ∧ t.svc = s.svc ∧ t.tkm = s.tkm ∧ t.cye = s.cye ∧ t.rsl = s.rsl) ∧
  (∀ (s : State) (at_ n : Nat) (code : Option Nat), s.ple.route = some ⟨.box n, code⟩ → s.Due s.ple.carrierSilence at_ →
     s.ple.state = .talking → s.ple.resumptions = 5 →
     let now := max s.clock.now at_
     ∃ t, exec .carrierSilenceExpiry s = .next t ∧
       t.nbt = (s.nbt.map fun e => if e.addr = n then { e with quality := e.quality.report now .failure } else e) ∧
       t.lnc = ((s.advanceTo at_).hand n (.cend s.ple.callId .lost)).lnc ∧ s.ClosesCall t now .lost ∧
       t.nwt = s.nwt ∧ t.adv = s.adv ∧ t.tkm = s.tkm ∧ t.slc = s.slc ∧ t.cye = s.cye ∧ t.rsl = s.rsl) ∧
  (∀ (s : State) (at_ n : Nat) (code : Option Nat), s.ple.route = some ⟨.box n, code⟩ → s.Due s.ple.carrierSilence at_ →
     s.ple.state = .talking → s.ple.resumptions < 5 →
     let now := max s.clock.now at_
     ∃ t, exec .carrierSilenceExpiry s = .next t ∧
       t.nbt = (s.nbt.map fun e => if e.addr = n then { e with quality := e.quality.report now .failure } else e) ∧
       State.StartsRound (((s.advanceTo at_).hand n (.cend s.ple.callId .lost)).withNbt t.nbt) t now ∧
       t.ple.resumptions = s.ple.resumptions + 1 ∧ t.ple.limitStart = s.cfg.uptime ∧
       t.ple.placementLimit = some (now + 1800000) ∧ t.ple.trunk = none ∧ t.ple.holdRefresh = none ∧
       t.ple.carrierSilence = none ∧ t.ple.callId = s.ple.callId ∧ t.ple.origin = s.ple.origin ∧
       t.ple.handsetLifted = s.ple.handsetLifted ∧ t.ple.reachedTalking = s.ple.reachedTalking ∧
       t.ple.talkRoute = s.ple.talkRoute ∧ t.ple.talkSeconds = s.ple.talkSeconds ∧
       t.ple.pauseLength = s.ple.pauseLength ∧ t.cpi.lamp = .slow ∧
       t.nwt = s.nwt ∧ t.adv = s.adv ∧ t.svc = s.svc ∧ t.tkm = s.tkm)

/-- R6, R7, R28, R31: the placement limit closes a call as NO_ROUTE, or as LOST where it was through once, with the fast
flash: on an own route the grant is released with DROP sent or the waiting claim withdrawn, a relay attempt sends
CEND(LIMIT) where it holds a trunk and nothing where its answer is awaited, and a WAITING call leaves no emergency-scan
claim. The bell timer closes an offer as CALLER_CLEARED with REFUSE on the slot. Neither charges a route. Origin and
limit start of the closed record are the model's (log 27). -/
def Obligations.LimitsCloseTheCall : Prop :=
  (∀ (s : State) (at_ : Nat), s.Due s.ple.placementLimit at_ →
    let now := max s.clock.now at_
    ∃ t, exec .placementLimitExpiry s = .next t ∧ s.ClosesCall t now (if s.ple.reachedTalking then .lost else .noRoute) ∧
      s.WindsUp t now ∧
      (∀ n tr, s.ple.relayCarrier = some n → s.ple.trunk = some tr →
        t.lnc = ((s.advanceTo at_).hand n (.cend s.ple.callId .limit)).lnc) ∧
      t.nwt = s.nwt ∧ t.nbt = s.nbt ∧ t.adv = s.adv ∧ t.tkm = s.tkm ∧ t.rsl = s.rsl ∧ t.cfg = s.cfg) ∧
  ∀ (s : State) (at_ : Nat) (sl : Slot) (code : Option Nat), s.Due s.ple.bellTimer at_ → s.ple.state = .bell →
    s.ple.route = some ⟨.slot sl, code⟩ → (s.slot sl).state = .offered → (s.slot sl).grant = .localCall →
    (s.slot sl).NoClaims →
    ∃ t, exec .bellTimerExpiry s = .next t ∧ t.ple.state = .idle ∧ t.cpi.bell = .silent ∧ t.cpi.lamp = .off ∧
      t.cpi.fastFlash = none ∧ (t.slot sl).state = .idle ∧ (t.slot sl).grant = .nobody ∧
      (t.slot sl).sent = (s.slot sl).sent ++ [.refuse] ∧ t.slot (otherSlot sl) = s.slot (otherSlot sl) ∧
      (∃ r : LogRecord, t.svc.log = (r :: s.svc.log).take 32 ∧ r.outcome = .callerCleared) ∧
      t.nwt = s.nwt ∧ t.nbt = s.nbt ∧ t.lnc = s.lnc ∧ t.cye = s.cye ∧ t.tkm = s.tkm

/-! ### The tables' timers and ages -/

/-- R29, R44, R54, R57: the callback window closes, a counter decays by 1, an entry of 3600 s leaves its table, and a
bar whose end the uptime has reached is absent; the other slot's table stands. R138: a NEW or USABLE neighbour that
has been silent for three advert intervals is STALE, and a STALE one is removed at ten; the other entries stand. An
age of 3600 stands until the removal is taken (log 17), a window of 0 until its expiry (log 28), and a
neighbour past its limit until its own command is taken (log 36). -/
def Obligations.TableAgesAndTimersAct : Prop :=
  ((∀ s : State, s.ple.window = some 0 →
     exec .callbackWindowExpiry s = .next (s.withPle { s.ple with window := none })) ∧
   (∀ (s : State) (sl : Slot) (code at_ : Nat) (e : NetEntry), tableSound (s.table sl) → e ∈ s.table sl →
     e.code = code → s.Due e.quality.decay at_ →
     ∃ t, exec (.qualityDecayExpiry (.network sl code)) s = .next t ∧
       t.table sl = ((s.table sl).map fun d =>
         if d.code = code then { d with quality := d.quality.decayed (max s.clock.now at_) } else d) ∧
       t.table (otherSlot sl) = s.table (otherSlot sl) ∧ t.slc = s.slc ∧ t.ple = s.ple ∧ t.cye = s.cye ∧
       t.nbt = s.nbt ∧ t.tkm = s.tkm ∧ t.svc = s.svc) ∧
   (∀ (s : State) (addr at_ : Nat) (n : NeighbourEntry), s.NeighboursSound → n ∈ s.nbt → n.addr = addr →
     s.Due n.quality.decay at_ →
     exec (.qualityDecayExpiry (.neighbour addr)) s = .next ((s.advanceTo at_).withNbt (s.nbt.map fun d =>
       if d.addr = addr then { d with quality := d.quality.decayed (max s.clock.now at_) } else d))) ∧
   (∀ (s : State) (sl : Slot) (code : Nat) (e : NetEntry), tableSound (s.table sl) → e ∈ s.table sl → e.code = code →
     3600 ≤ e.age →
     ∃ t, exec (.networkEntryRemoval sl code) s = .next t ∧
       t.table sl = ((s.table sl).filter fun d => d.code != code) ∧
       t.table (otherSlot sl) = s.table (otherSlot sl) ∧ t.slc = s.slc ∧ t.ple = s.ple ∧ t.cye = s.cye ∧
       t.rsl = s.rsl ∧ t.nbt = s.nbt) ∧
   ∀ (s : State) (sl : Slot) (code u : Nat) (e : NetEntry), tableSound (s.table sl) → e ∈ s.table sl → e.code = code →
     e.barredUntil = some u → u ≤ s.cfg.uptime →
     ∃ t, exec (.barExpiry sl code) s = .next t ∧
       t.table sl = ((s.table sl).map fun d => if d.code = code then { d with barredUntil := none } else d) ∧
       t.table (otherSlot sl) = s.table (otherSlot sl) ∧ t.slc = s.slc ∧ t.ple = s.ple ∧ t.cye = s.cye ∧ t.nbt = s.nbt) ∧
  ((∀ (s : State) (addr : Nat) (n : NeighbourEntry), s.NeighboursSound → n ∈ s.nbt → n.addr = addr →
     n.state ≠ .stale → 3 * s.cfg.record.advertInterval ≤ n.age →
     exec (.neighbourStale addr) s = .next (s.withNbt (s.nbt.map fun d =>
       if d.addr = addr then { d with state := .stale } else d))) ∧
   ∀ (s : State) (addr : Nat) (n : NeighbourEntry), s.NeighboursSound → n ∈ s.nbt → n.addr = addr →
     n.state = .stale → 10 * s.cfg.record.advertInterval ≤ n.age →
     exec (.neighbourRemoval addr) s = .next (s.withNbt (s.nbt.filter fun d => d.addr != addr)))

/-! ### The messages of the modules -/

/-- R64, R69, R73, R77: RDY in WARMING enters IDLE and starts the heartbeat watch; with a periodic SCAN claim waiting,
SCAN goes out; in IDLE it restarts the watch alone. R69, R12, R98: a LOCAL claim, for a dial or for an emergency scan,
is granted before any other, and of the CARRY claims the one accepted earliest, before a SCAN claim. -/
def Obligations.ReadyEndsTheWarmUp : Prop :=
  ∀ (s : State) (sl : Slot) (ms : Nat), s.phase = .running →
    let now := (s.arrive ms).clock.now
    ((s.slot sl).state = .warming → (s.slot sl).grant = .nobody → (s.slot sl).waitingLocal = none →
      (s.slot sl).waitingCarry = [] →
      ∃ t, exec (.rdy sl ms) s = .next t ∧ t.slot (otherSlot sl) = s.slot (otherSlot sl) ∧
        (t.slot sl).heartbeat = some (now + 15000) ∧ (t.slot sl).power = (s.slot sl).power ∧
        ((s.slot sl).waitingScan = false → (t.slot sl).state = .idle ∧ (t.slot sl).deadline = none ∧
          (t.slot sl).sent = (s.slot sl).sent) ∧
        ((s.slot sl).waitingScan = true → (t.slot sl).state = .scanning ∧
          (t.slot sl).grant = .scan .periodic ∧ (t.slot sl).waitingScan = false ∧ (t.slot sl).request = .scan ∧
          (t.slot sl).deadline = some (now + 45000) ∧ (t.slot sl).sent = (s.slot sl).sent ++ [.scan]) ∧
        t.ple = s.ple ∧ t.cye = s.cye ∧ t.nwt = s.nwt ∧ t.nbt = s.nbt ∧ t.adv = s.adv ∧ t.lnc = s.lnc ∧ t.tkm = s.tkm) ∧
    ((s.slot sl).state = .idle →
      exec (.rdy sl ms) s = .next ((s.arrive ms).setSlot sl fun r => { r with heartbeat := some (now + 15000) })) ∧
    ((s.slot sl).state = .warming → (s.slot sl).grant = .nobody → (s.slot sl).waitingLocal = some .dial →
      ∀ n, s.ple.route = some ⟨.slot sl, some n⟩ →
      ∃ t, exec (.rdy sl ms) s = .next t ∧ (t.slot sl).state = .dialling ∧ (t.slot sl).grant = .localCall ∧
        (t.slot sl).waitingLocal = none ∧ (t.slot sl).waitingCarry = (s.slot sl).waitingCarry ∧
        (t.slot sl).waitingScan = (s.slot sl).waitingScan ∧ (t.slot sl).request = .dial n ∧
        (t.slot sl).deadline = some (now + 10000) ∧ (t.slot sl).repeats = 0 ∧
        (t.slot sl).sent = (s.slot sl).sent ++ [.dial n] ∧ t.ple = s.ple ∧ t.cye = s.cye) ∧
    ((s.slot sl).state = .warming → (s.slot sl).grant = .nobody → (s.slot sl).waitingLocal = some .emergencyScan →
      ∃ t, exec (.rdy sl ms) s = .next t ∧ (t.slot sl).state = .scanning ∧
        (t.slot sl).grant = .scan .emergency ∧ (t.slot sl).waitingLocal = none ∧
        (t.slot sl).waitingCarry = (s.slot sl).waitingCarry ∧ (t.slot sl).waitingScan = (s.slot sl).waitingScan ∧
        (t.slot sl).request = .scan ∧ (t.slot sl).deadline = some (now + 45000) ∧
        (t.slot sl).sent = (s.slot sl).sent ++ [.scan] ∧ t.slot (otherSlot sl) = s.slot (otherSlot sl) ∧
        t.ple = s.ple ∧ t.cye = s.cye) ∧
    ((s.slot sl).state = .warming → (s.slot sl).grant = .nobody → (s.slot sl).waitingLocal = none →
      ∀ xs c ys, s.cye = xs ++ c :: ys → c.id ∈ (s.slot sl).waitingCarry →
      (∀ d ∈ xs, d.id ∉ (s.slot sl).waitingCarry) →
      ∃ t, exec (.rdy sl ms) s = .next t ∧ (t.slot sl).state = .dialling ∧ (t.slot sl).grant = .carry c.id ∧
        (t.slot sl).waitingCarry = ((s.slot sl).waitingCarry.filter fun i => i != c.id) ∧
        (t.slot sl).waitingScan = (s.slot sl).waitingScan ∧ (t.slot sl).request = .dial c.code ∧
        (t.slot sl).deadline = some (now + 10000) ∧ (t.slot sl).repeats = 0 ∧
        (t.slot sl).sent = (s.slot sl).sent ++ [.dial c.code] ∧ t.slot (otherSlot sl) = s.slot (otherSlot sl) ∧
        t.cye = (s.cye.map fun d =>
          if d.id = c.id then { d with queueTimer := none, dialSent := true, state := .dialling } else d) ∧
        t.xpt = ((s.arrive ms).xptJoin (.carry c.id) (.slot sl) (.trunk c.trunk)).xpt ∧ t.ple = s.ple ∧
        t.lnc = s.lnc ∧ t.tkm = s.tkm)

/-- R51, R48 to R50, R52: what the kept items of a NETS make of a table: every kept item is in it with its fields and
age 0, with a fresh counter and no bar or those of the entry it matches; every other entry is one that stood there,
unchanged, and none is lost while there is room. R48: the items kept are, in their order, the first of each code that is
no earlier item's and has a network code and a radio type. R51: a new item in a full table replaces, of the entries that
no earlier item matched or made, the one of greatest age, then lowest level, then lowest code. -/
def Obligations.NetsItemsEnterTheTable : Prop :=
  ∀ (es : List NetEntry) (items : List NetItem), tableSound es → items.length ≤ 8 →
    let kept := goodItems [] items
    let after := takeItems [] kept es
    let rank (e : NetEntry) : Int := match e.level with
      | some l => l
      | none => -1
    (kept.map GoodItem.code).Nodup ∧ (kept.map GoodItem.code).Sublist (items.map NetItem.code) ∧
    (∀ g ∈ kept, 10000 ≤ g.code ∧ g.code ≤ 999999) ∧
    (∀ xs i ys ty, items = xs ++ i :: ys → 10000 ≤ i.code → i.code ≤ 999999 → i.radio = some ty →
      (∀ j ∈ xs, j.code = i.code → j.radio = none) →
      { code := i.code, radio := ty, level := i.level.map (min · 31), permitted := i.permitted } ∈ kept) ∧
    (∀ xs i ys, kept = xs ++ i :: ys → ∀ mid, takeItems [] xs es = mid → mid.length = 8 →
      (∀ e ∈ mid, e.code ≠ i.code) →
      ∃ d ∈ mid, (∀ j ∈ xs, j.code ≠ d.code) ∧
        (∀ e ∈ mid, e.code ≠ d.code → (∀ j ∈ xs, j.code ≠ e.code) →
          e.age < d.age ∨ e.age = d.age ∧ (rank d < rank e ∨ rank d = rank e ∧ d.code < e.code)) ∧
        takeItems [] (xs ++ [i]) es = (mid.filter fun e => e.code != d.code) ++
          [{ code := i.code, radio := i.radio, level := i.level, permitted := i.permitted,
             quality := { value := 0, decay := none }, barredUntil := none, age := 0 }]) ∧
    (∀ i ∈ kept, ∃ e ∈ after, e.code = i.code ∧ e.radio = i.radio ∧ e.level = i.level ∧ e.permitted = i.permitted ∧
      e.age = 0 ∧ ((e.quality = { value := 0, decay := none } ∧ e.barredUntil = none) ∨
        ∃ d ∈ es, d.code = i.code ∧ e.quality = d.quality ∧ e.barredUntil = d.barredUntil)) ∧
    (∀ e ∈ after, (∃ i ∈ kept, i.code = e.code) ∨ e ∈ es) ∧
    (es.length + kept.length ≤ 8 → ∀ d ∈ es, ∃ e ∈ after, e.code = d.code ∧ e.quality = d.quality ∧
      e.barredUntil = d.barredUntil)

/-- R72, R73, R78: a NETS taken in SCANNING reaches the table and ends the scan, and the scan deadline ends it with
the table untouched; the scan timer starts again and a waiting periodic claim goes. The first scan end after a
start-up brings the first REACH (R133). R12, R73: an emergency scan that is not the last awaited leaves the call waiting
for the rest, and the last one ends its wait, and the next round starts. R69: a LOCAL or CARRY claim that waits at the
scan's end is granted at once, the LOCAL one first and of the CARRY claims the one accepted earliest. The scan's end is
reported before the arbiter grants, and to PLE before ADV (log 8). -/
def Obligations.ScanEndsWithNetsOrDeadline : Prop :=
  (∀ (s : State) (sl : Slot) (ms at_ : Nat) (items : List NetItem) (byNets : Bool) (kind : ScanKind),
     (s.slot sl).state = .scanning → (s.slot sl).grant = .scan kind → (kind = .emergency → ¬ s.EndsWait sl) →
     (if byNets then s.phase = .running ∧ items.length ≤ 8 else s.Due (s.slot sl).deadline at_) →
     let now := if byNets then (s.arrive ms).clock.now else max s.clock.now at_
     let r := s.slot sl
     ∃ t, exec (if byNets then .nets sl items ms else .scanDeadlineExpiry sl) s = .next t ∧
       t.table sl = (if byNets then takeItems [] (goodItems [] items) (s.table sl) else s.table sl) ∧
       t.table (otherSlot sl) = s.table (otherSlot sl) ∧ t.slot (otherSlot sl) = s.slot (otherSlot sl) ∧
       (t.slot sl).waitingScan = false ∧ (t.slot sl).scanTimer = s.scanTimerFrom now ∧
       (t.slot sl).heartbeat = (if byNets then some (now + 15000) else r.heartbeat) ∧
       (∀ w, s.adv.timer = .startWait w → s.adv.lastBest = .notYet → t.adv.seq = (s.adv.seq + 1) % 256 ∧
         t.adv.lastBuild = some now ∧ ∃ p, t.adv.timer = .periodic p) ∧
       t.ple = (if kind = .emergency then s.ple.scanEnded sl else s.ple) ∧
       t.tkm = s.tkm ∧ t.nbt = s.nbt ∧ t.svc = s.svc ∧
       (r.waitingLocal = none → r.waitingCarry = [] →
         (t.slot sl).state = .idle ∧ (t.slot sl).grant = .nobody ∧ (t.slot sl).request = .nothing ∧
         (t.slot sl).deadline = none ∧ (t.slot sl).sent = r.sent ∧ t.cye = s.cye ∧ t.xpt = s.xpt) ∧
       (∀ code, r.waitingLocal = some .dial → s.ple.route = some ⟨.slot sl, some code⟩ →
         (t.slot sl).waitingLocal = none ∧ (t.slot sl).waitingCarry = r.waitingCarry ∧
         (t.slot sl).state = .dialling ∧ (t.slot sl).grant = .localCall ∧ (t.slot sl).request = .dial code ∧
         (t.slot sl).deadline = some (now + 10000) ∧ (t.slot sl).sent = r.sent ++ [.dial code] ∧
         t.cye = s.cye ∧ t.xpt = s.xpt) ∧
       (r.waitingLocal = some .emergencyScan →
         (t.slot sl).waitingLocal = none ∧ (t.slot sl).waitingCarry = r.waitingCarry ∧
         (t.slot sl).state = .scanning ∧ (t.slot sl).grant = .scan .emergency ∧ (t.slot sl).request = .scan ∧
         (t.slot sl).deadline = some (now + 45000) ∧ (t.slot sl).sent = r.sent ++ [.scan] ∧
         t.cye = s.cye ∧ t.xpt = s.xpt) ∧
       ∀ pre c post, r.waitingLocal = none → s.cye = pre ++ c :: post → c.id ∈ r.waitingCarry →
         (∀ d ∈ pre, d.id ∉ r.waitingCarry) →
         (t.slot sl).waitingCarry = (r.waitingCarry.filter fun i => i != c.id) ∧ (t.slot sl).state = .dialling ∧
         (t.slot sl).grant = .carry c.id ∧ (t.slot sl).request = .dial c.code ∧
         (t.slot sl).deadline = some (now + 10000) ∧ (t.slot sl).sent = r.sent ++ [.dial c.code] ∧
         t.cye = (s.cye.map fun d =>
           if d.id = c.id then { d with queueTimer := none, dialSent := true, state := .dialling } else d) ∧
         t.xpt = ((if byNets then s.arrive ms else s.advanceTo at_).xptJoin (.carry c.id) (.slot sl) (.trunk c.trunk)).xpt) ∧
  (∀ (s : State) (sl : Slot) (ms at_ : Nat) (items : List NetItem) (byNets : Bool),
     (if byNets then s.phase = .running ∧ items.length ≤ 8 else s.Due (s.slot sl).deadline at_) →
     (s.slot sl).state = .scanning → (s.slot sl).grant = .scan .emergency → s.EndsWait sl →
     ∃ t, exec (if byNets then .nets sl items ms else .scanDeadlineExpiry sl) s = .next t ∧
       t.ple.rounds = min 255 (s.ple.rounds + 1) ∧ t.ple.callId = s.ple.callId ∧
       t.table sl = (if byNets then takeItems [] (goodItems [] items) (s.table sl) else s.table sl) ∧
       t.table (otherSlot sl) = s.table (otherSlot sl) ∧ t.svc = s.svc ∧ t.tkm = s.tkm ∧
       (t.ple.state = .dialling ∨ t.ple.state = .relaying ∨ t.ple.state = .waiting) ∧
       ((∀ w, s.adv.timer ≠ .startWait w) → (∀ o, (s.slot o).waitingLocal = none) → (s.slot sl).waitingCarry = [] →
         (s.slot sl).idleTimer = none →
         let u := if byNets then (s.arrive ms).takeNets sl items else s.advanceTo at_
         let now := u.clock.now
         State.StartsRound ((u.setSlot sl fun r =>
           { r with state := .idle, grant := .nobody, request := .nothing, deadline := none, repeatsDue := 0,
                    rung := false, waitingScan := false, scanTimer := s.scanTimerFrom now
                    heartbeat := if byNets then some (now + 15000) else r.heartbeat }).withPle s.ple.waitEnded) t now))

/-- R79, R82, R83: DACK, RING and LIVE at the slot: its state, its limit and its heartbeat watch; the other slot
stands. R64, R65, R75, R78, R87: any readable message taken in a state that its entry does not name restarts the
heartbeat watch and changes nothing else; under lowered power, and in WARMING but for RDY, it changes nothing. -/
def Obligations.DialAnswersMoveTheSlot : Prop :=
  ∀ (s : State) (sl : Slot) (ms : Nat), s.phase = .running →
    let now := (s.arrive ms).clock.now
    ((s.slot sl).state = .dialling → ∃ t, exec (.dack sl ms) s = .next t ∧ (t.slot sl).state = .ringing ∧
      (t.slot sl).deadline = some (now + 120000) ∧ (t.slot sl).grant = (s.slot sl).grant ∧
      (t.slot sl).heartbeat = some (now + 15000) ∧ (t.slot sl).sent = (s.slot sl).sent ∧
      t.slot (otherSlot sl) = s.slot (otherSlot sl) ∧ t.nwt = s.nwt ∧ t.nbt = s.nbt ∧ t.tkm = s.tkm ∧ t.svc = s.svc) ∧
    ((s.slot sl).state = .ringing → ∃ t, exec (.ring sl ms) s = .next t ∧ (t.slot sl).state = .ringing ∧
      (t.slot sl).deadline = (if (s.slot sl).rung then (s.slot sl).deadline else some (now + 120000)) ∧
      (t.slot sl).rung = true ∧ (t.slot sl).grant = (s.slot sl).grant ∧
      (t.slot sl).heartbeat = some (now + 15000) ∧ t.slot (otherSlot sl) = s.slot (otherSlot sl) ∧
      t.ple = s.ple ∧ t.cye = s.cye ∧ t.nwt = s.nwt ∧ t.lnc = s.lnc ∧ t.tkm = s.tkm ∧ t.svc = s.svc) ∧
    ((s.slot sl).state = .dialling ∨ (s.slot sl).state = .ringing → ∃ t, exec (.live sl ms) s = .next t ∧
      (t.slot sl).state = .talking ∧ (t.slot sl).deadline = none ∧ (t.slot sl).grant = (s.slot sl).grant ∧
      (t.slot sl).heartbeat = some (now + 15000) ∧ (t.slot sl).sent = (s.slot sl).sent ∧
      t.slot (otherSlot sl) = s.slot (otherSlot sl) ∧ t.tkm = s.tkm ∧ t.svc = s.svc) ∧
    (∀ c, isMessageAt sl ms c = true → isPastWarmUp (s.slot sl).state = true → namesState (s.slot sl).state c = false →
      (s.slot sl).Sound → s.OutLampFollows →
      exec c s = .next ((s.arrive ms).withSlot sl { s.slot sl with heartbeat := some (now + 15000) })) ∧
    (∀ c, isMessageAt sl ms c = true → isPastWarmUp (s.slot sl).state = false →
      ((s.slot sl).state = .warming → c ≠ .rdy sl ms) → exec c s = .next (s.arrive ms))

/-- R14, R15: what DACK, RING and LIVE do to the local call that holds the slot's grant. R99, R102: what DACK, RING
and LIVE do to the carry record that holds the slot's grant, DACK and LIVE telling its requester; a credit that makes an
early advert due has it follow (R132). The slot's own transition is complete when its holder is told (log 7). -/
def Obligations.DialAnswersMoveTheHolder : Prop :=
  (∀ (s : State) (sl : Slot) (ms code : Nat), s.phase = .running → (s.slot sl).grant = .localCall →
     s.ple.route = some ⟨.slot sl, some code⟩ →
     let now := (s.arrive ms).clock.now
     ((s.slot sl).state = .dialling → s.ple.state = .dialling → ∃ t, exec (.dack sl ms) s = .next t ∧
       t.ple = { s.ple with state := .ringing, ringLimit := some (now + 120000) } ∧ t.xpt = s.xpt ∧
       t.cpi.lamp = .slow ∧ t.cye = s.cye ∧ t.lnc = s.lnc) ∧
     ((s.slot sl).state = .ringing → s.ple.state = .ringing → ∃ t, exec (.ring sl ms) s = .next t ∧ t.ple = s.ple ∧
       t.xpt = ((s.arrive ms).xptJoin .localCall .handset (.slot sl)).xpt) ∧
     ((s.slot sl).state = .dialling ∧ s.ple.state = .dialling ∨ (s.slot sl).state = .ringing ∧ s.ple.state = .ringing →
       ∃ t, exec (.live sl ms) s = .next t ∧
         t.ple = { s.ple with state := .talking, reachedTalking := true, talkRoute := s.ple.route, ringLimit := none,
                              placementLimit := none } ∧
         t.xpt = ((s.arrive ms).xptJoin .localCall .handset (.slot sl)).xpt ∧ t.cpi.lamp = .steady ∧
         t.table sl = ((s.table sl).map fun e =>
           if e.code = code then { e with quality := e.quality.report now .credit } else e) ∧
         t.table (otherSlot sl) = s.table (otherSlot sl) ∧ t.nbt = s.nbt ∧ t.cye = s.cye)) ∧
  (∀ (s : State) (sl : Slot) (ms : Nat) (c : CarryRec), s.phase = .running → s.QueueSound → c ∈ s.cye →
     c.slot = sl → (s.slot sl).grant = .carry c.id →
     let now := (s.arrive ms).clock.now
     ((s.slot sl).state = .dialling → c.state = .dialling → ∃ t, exec (.dack sl ms) s = .next t ∧
       t.cye = (s.cye.map fun d => if d.id = c.id then { d with state := .ringing } else d) ∧
       t.lnc = ((s.arrive ms).hand c.id.requester (.cprg c.id.callId .ringing)).lnc ∧ t.ple = s.ple ∧ t.xpt = s.xpt ∧
       t.nwt = s.nwt) ∧
     ((s.slot sl).state = .ringing →
       ∃ t, exec (.ring sl ms) s = .next t ∧ t.cye = s.cye ∧ t.xpt = s.xpt ∧ t.lnc = s.lnc) ∧
     ((s.slot sl).state = .dialling ∧ c.state = .dialling ∨ (s.slot sl).state = .ringing ∧ c.state = .ringing →
       ∃ t, exec (.live sl ms) s = .next t ∧
         t.cye = (s.cye.map fun d => if d.id = c.id then { d with state := .talking } else d) ∧
         t.table sl = ((s.table sl).map fun e =>
           if e.code = c.code then { e with quality := e.quality.report now .credit } else e) ∧
         t.table (otherSlot sl) = s.table (otherSlot sl) ∧ t.ple = s.ple ∧ t.xpt = s.xpt ∧
         (s.own = none → t.lnc = s.lnc) ∧
         (¬ s.EarlyAdvertDue (advertItems t) → t.lnc = ((s.arrive ms).hand c.id.requester (.cprg c.id.callId .talking)).lnc) ∧
         t.lnc = (((s.arrive ms).hand c.id.requester (.cprg c.id.callId .talking)).reportEntry sl c.code .credit).lnc))

/-- R16, R25, R56, R80: DNAK in DIALLING leaves the slot IDLE with no DROP and ends the local attempt as REFUSED:
NO_SERVICE and REJECTED charge the entry, BARRED bars it for 300 s and charges nothing. R26: the routes not yet tried
are taken in order, and with every route tried the record waits. R101, R102: a DNAK ends the carry that holds the grant
by the same reasons. R81: the first two DRTY of a call have DIAL sent again under a fresh 10 s deadline, as soon as the
modem line is free; the third ends the dial, and the local attempt or the carry that holds the grant ends as RETRY. A
bar is set before the report (log 9); no dial deadline runs while a repeat waits for the line (log 13). -/
def Obligations.DialRefusalsAndRetries : Prop :=
  (∀ (s : State) (sl : Slot) (reason : DnakReason) (ms code : Nat), s.phase = .running →
     (s.slot sl).state = .dialling → (s.slot sl).grant = .localCall → (s.slot sl).request = .dial code →
     (s.slot sl).NoClaims → s.ple.state = .dialling → s.ple.route = some ⟨.slot sl, some code⟩ →
     let now := (s.arrive ms).clock.now
     let v := (s.arrive ms).idled sl
     ∃ t, exec (.dnak sl reason ms) s = .next t ∧
       State.EndsAttempt (if reason = .barred then v.barEntry sl code else v.reportEntry sl code .failure) t now ∧
       (t.slot sl).heartbeat = some (now + 15000) ∧
       (s.AllTried →
         (t.slot sl).state = .idle ∧ (t.slot sl).grant = .nobody ∧ (t.slot sl).deadline = none ∧
         (t.slot sl).request = .nothing ∧ (t.slot sl).sent = (s.slot sl).sent ∧
         t.slot (otherSlot sl) = s.slot (otherSlot sl) ∧ t.ple.state = .waiting ∧
         t.ple.pauseTimer = some (now + s.ple.pauseLength * 1000) ∧ t.ple.attempts = s.ple.attempts) ∧
       t.table sl = ((s.table sl).map fun e =>
         if e.code = code then
           (if reason = .barred then { e with barredUntil := some (s.cfg.uptime + 300) }
             else { e with quality := e.quality.report now .failure })
         else e) ∧
       t.table (otherSlot sl) = s.table (otherSlot sl) ∧ t.nbt = s.nbt ∧ t.cye = s.cye ∧ t.svc = s.svc ∧
       t.tkm = s.tkm) ∧
  (∀ (s : State) (sl : Slot) (reason : DnakReason) (ms : Nat) (c : CarryRec), s.phase = .running →
     (s.slot sl).state = .dialling → (s.slot sl).request = .dial c.code → (s.slot sl).NoClaims → s.QueueSound →
     c ∈ s.cye → (s.slot sl).grant = .carry c.id → c.slot = sl → c.state = .dialling →
     (s.trunk c.trunk).owner = some c.id →
     ∃ t, exec (.dnak sl reason ms) s = .next t ∧
       (t.slot sl).state = .idle ∧ (t.slot sl).grant = .nobody ∧ (t.slot sl).deadline = none ∧
       (t.slot sl).sent = (s.slot sl).sent ∧ t.slot (otherSlot sl) = s.slot (otherSlot sl) ∧
       t.cye = (s.cye.filter fun d => d.id != c.id) ∧ t.trunk c.trunk = .free ∧
       (∀ u, u ≠ c.trunk → t.trunk u = s.trunk u) ∧
       (∃ r : LogRecord, t.svc.log = (r :: s.svc.log).take 32 ∧ r.kind = .carried ∧ r.callId = c.id.callId ∧
         r.partner = some (.box c.id.requester) ∧ r.outcome = .failed (match reason with
           | .noService => .noService
           | .barred => .barred
           | .rejected => .rejected)) ∧
       t.table sl = ((s.table sl).map fun e =>
         if e.code = c.code then
           (if reason = .barred then { e with barredUntil := some (s.cfg.uptime + 300) }
             else { e with quality := e.quality.report (s.arrive ms).clock.now .failure })
         else e) ∧
       t.table (otherSlot sl) = s.table (otherSlot sl) ∧ t.ple = s.ple ∧ t.nbt = s.nbt) ∧
  ((∀ (s : State) (sl : Slot) (ms : Nat), s.phase = .running → (s.slot sl).state = .dialling → (s.slot sl).repeats < 2 →
     exec (.drty sl ms) s = .next ((s.arrive ms).setSlot sl fun r =>
       { r with repeats := r.repeats + 1, repeatsDue := r.repeatsDue + 1, deadline := none,
                heartbeat := some ((s.arrive ms).clock.now + 15000) })) ∧
   (∀ (s : State) (sl : Slot) (ms code : Nat), s.phase = .running → (s.slot sl).state = .dialling →
     1 ≤ (s.slot sl).repeatsDue → (s.slot sl).request = .dial code →
     exec (.dialRepeat sl ms) s = .next ((s.arrive ms).setSlot sl fun r =>
       { r with sent := r.sent ++ [.dial code], repeatsDue := r.repeatsDue - 1,
                deadline := if r.repeatsDue = 1 then some ((s.arrive ms).clock.now + 10000) else none })) ∧
   (∀ (s : State) (sl : Slot) (ms code : Nat), s.phase = .running → (s.slot sl).state = .dialling →
     (s.slot sl).repeats = 2 → (s.slot sl).NoClaims → (s.slot sl).grant = .localCall → s.ple.state = .dialling →
     s.ple.route = some ⟨.slot sl, some code⟩ →
     let now := (s.arrive ms).clock.now
     ∃ t, exec (.drty sl ms) s = .next t ∧
       State.EndsAttempt (((s.arrive ms).idled sl).reportEntry sl code .failure) t now ∧
       (s.AllTried →
         (t.slot sl).state = .idle ∧ (t.slot sl).grant = .nobody ∧ (t.slot sl).deadline = none ∧
         (t.slot sl).sent = (s.slot sl).sent ∧ t.slot (otherSlot sl) = s.slot (otherSlot sl) ∧
         t.ple.state = .waiting ∧ t.ple.pauseTimer = some (now + s.ple.pauseLength * 1000) ∧
         t.ple.attempts = s.ple.attempts) ∧
       t.table sl = ((s.table sl).map fun e =>
         if e.code = code then { e with quality := e.quality.report now .failure } else e) ∧
       t.table (otherSlot sl) = s.table (otherSlot sl) ∧ t.cye = s.cye ∧ t.svc = s.svc) ∧
   ∀ (s : State) (sl : Slot) (ms : Nat) (c : CarryRec), s.phase = .running → (s.slot sl).state = .dialling →
     (s.slot sl).repeats = 2 → (s.slot sl).NoClaims → s.QueueSound → c ∈ s.cye → (s.slot sl).grant = .carry c.id →
     c.slot = sl → c.state = .dialling →
     ∃ t, exec (.drty sl ms) s = .next t ∧ (t.slot sl).state = .idle ∧ (t.slot sl).grant = .nobody ∧
       (t.slot sl).sent = (s.slot sl).sent ∧ t.cye = (s.cye.filter fun d => d.id != c.id) ∧
       (∃ r : LogRecord, t.svc.log = (r :: s.svc.log).take 32 ∧ r.kind = .carried ∧ r.outcome = .failed .retry) ∧
       t.table sl = ((s.table sl).map fun e =>
         if e.code = c.code then { e with quality := e.quality.report (s.arrive ms).clock.now .failure } else e) ∧
       t.ple = s.ple)

/-- R27, R28, R84: GONE in TALKING leaves the slot IDLE with no DROP. FAR_CLEARED closes the local call as TALKED and
charges nothing; the sixth loss closes it as LOST with a failure charged, and any earlier one charges the failure and
starts a round with the placement limit running afresh. R75: in CLEARING, GONE with any cause leaves the slot IDLE.
R16, R26, R84: GONE in DIALLING or RINGING ends the local attempt with no DROP, REFUSED(REJECTED) or LOST by its cause,
with a failure charged either way. R31: GONE in OFFERED closes the callback as CALLER_CLEARED with nothing sent. R101,
R102, R108: GONE ends the carry that holds the grant by its cause, its requester told, its trunk freed, and the failure
charged but for a far-end clear in TALKING; an early advert that the charge makes due follows the frames (R132).
R28, R30, R31: a callback in TALKING, whose route has no network code, ends alike with no entry charged (log 16).
The placement limit runs from the millisecond of the loss (log 38); origin and limit start of a closed record are the
model's (log 27). -/
def Obligations.CallEndsWhenTheModemLetsGo : Prop :=
  (∀ (s : State) (sl : Slot) (cause : GoneCause) (ms code : Nat), s.phase = .running → (s.slot sl).state = .talking →
     (s.slot sl).grant = .localCall → (s.slot sl).NoClaims → s.ple.state = .talking →
     s.ple.route = some ⟨.slot sl, some code⟩ → s.ple.talkRoute = s.ple.route →
     (cause ≠ .farCleared → s.ple.resumptions = 5) →
     let now := (s.arrive ms).clock.now
     ∃ t, exec (.gone sl cause ms) s = .next t ∧ (t.slot sl).state = .idle ∧ (t.slot sl).grant = .nobody ∧
       (t.slot sl).sent = (s.slot sl).sent ∧ t.slot (otherSlot sl) = s.slot (otherSlot sl) ∧
       t.ple = { State.reset.ple with window := some 900 } ∧
       (∃ r : LogRecord, t.svc.log = (r :: s.svc.log).take 32 ∧ r.callId = s.ple.callId ∧
         r.partner = some (.slot sl) ∧ r.code = some code ∧ r.talkSeconds = s.ple.talkSeconds ∧
         r.outcome = if cause = .farCleared then .talked else .lost) ∧
       t.table sl = ((s.table sl).map fun e =>
         if e.code = code ∧ cause ≠ .farCleared then { e with quality := e.quality.report now .failure } else e) ∧
       t.table (otherSlot sl) = s.table (otherSlot sl) ∧ t.cye = s.cye ∧ t.tkm = s.tkm ∧ t.nbt = s.nbt ∧
       (cause = .farCleared → t.cpi.lamp = .off) ∧ (cause ≠ .farCleared → t.cpi.lamp = .fast)) ∧
  (∀ (s : State) (sl : Slot) (cause : GoneCause) (ms code : Nat), s.phase = .running → (s.slot sl).state = .talking →
     (s.slot sl).grant = .localCall → (s.slot sl).NoClaims → s.ple.state = .talking →
     s.ple.route = some ⟨.slot sl, some code⟩ → cause ≠ .farCleared → s.ple.resumptions < 5 →
     let now := (s.arrive ms).clock.now
     ∃ t, exec (.gone sl cause ms) s = .next t ∧
       t.table sl = ((s.table sl).map fun e =>
         if e.code = code then { e with quality := e.quality.report now .failure } else e) ∧
       t.table (otherSlot sl) = s.table (otherSlot sl) ∧
       State.StartsRound (((s.arrive ms).reportEntry sl code .failure).setSlot sl fun r =>
         { r with state := .idle, grant := .nobody, request := .nothing, deadline := none, repeatsDue := 0, rung := false,
                  heartbeat := some (now + 15000), idleTimer := none }) t now ∧
       t.ple.resumptions = s.ple.resumptions + 1 ∧ t.ple.limitStart = s.cfg.uptime ∧
       t.ple.placementLimit = some (now + 1800000) ∧ t.ple.callId = s.ple.callId ∧ t.ple.origin = s.ple.origin ∧
       t.ple.handsetLifted = s.ple.handsetLifted ∧ t.ple.reachedTalking = s.ple.reachedTalking ∧
       t.ple.talkRoute = s.ple.talkRoute ∧ t.ple.talkSeconds = s.ple.talkSeconds ∧
       t.ple.pauseLength = s.ple.pauseLength ∧ t.cpi.lamp = .slow ∧ t.svc = s.svc ∧ t.nbt = s.nbt ∧ t.tkm = s.tkm) ∧
  (∀ (s : State) (sl : Slot) (cause : GoneCause) (ms : Nat), s.phase = .running → (s.slot sl).state = .talking →
     (s.slot sl).grant = .localCall → (s.slot sl).NoClaims → s.ple.state = .talking →
     s.ple.route = some ⟨.slot sl, none⟩ →
     let now := (s.arrive ms).clock.now
     let idle (t : State) : Prop := (t.slot sl).state = .idle ∧ (t.slot sl).grant = .nobody ∧
       (t.slot sl).deadline = none ∧ (t.slot sl).sent = (s.slot sl).sent ∧
       t.slot (otherSlot sl) = s.slot (otherSlot sl) ∧ t.lnc = s.lnc
     ∃ t, exec (.gone sl cause ms) s = .next t ∧ t.nwt = s.nwt ∧ t.nbt = s.nbt ∧ t.adv = s.adv ∧ t.tkm = s.tkm ∧
       (cause = .farCleared → s.ClosesCall t now .talked ∧ idle t ∧ t.cye = s.cye) ∧
       (cause ≠ .farCleared → s.ple.resumptions < 5 →
         State.StartsRound ((s.arrive ms).idled sl) t now ∧ s.Resumes t now) ∧
       (cause ≠ .farCleared → s.ple.resumptions = 5 → s.ClosesCall t now .lost ∧ idle t ∧ t.cye = s.cye)) ∧
  (∀ (s : State) (sl : Slot) (cause : GoneCause) (ms : Nat), s.phase = .running → (s.slot sl).state = .clearing →
     (s.slot sl).grant = .nobody → (s.slot sl).NoClaims →
     ∃ t, exec (.gone sl cause ms) s = .next t ∧ (t.slot sl).state = .idle ∧ (t.slot sl).deadline = none ∧
       (t.slot sl).request = .nothing ∧ (t.slot sl).power = (s.slot sl).power ∧ (t.slot sl).sent = (s.slot sl).sent ∧
       t.slot (otherSlot sl) = s.slot (otherSlot sl) ∧ t.ple = s.ple ∧ t.cye = s.cye ∧ t.nwt = s.nwt ∧ t.lnc = s.lnc) ∧
  (∀ (s : State) (sl : Slot) (cause : GoneCause) (ms code : Nat), s.phase = .running → (s.slot sl).grant = .localCall →
     (s.slot sl).NoClaims → s.ple.route = some ⟨.slot sl, some code⟩ →
     (s.slot sl).state = .dialling ∧ s.ple.state = .dialling ∨ (s.slot sl).state = .ringing ∧ s.ple.state = .ringing →
     let now := (s.arrive ms).clock.now
     ∃ t, exec (.gone sl cause ms) s = .next t ∧
       State.EndsAttempt (((s.arrive ms).idled sl).reportEntry sl code .failure) t now ∧
       (s.AllTried →
         (t.slot sl).state = .idle ∧ (t.slot sl).grant = .nobody ∧ (t.slot sl).request = .nothing ∧
         (t.slot sl).deadline = none ∧ (t.slot sl).sent = (s.slot sl).sent ∧
         t.slot (otherSlot sl) = s.slot (otherSlot sl) ∧ t.ple.state = .waiting) ∧
       t.table sl = ((s.table sl).map fun e =>
         if e.code = code then { e with quality := e.quality.report now .failure } else e) ∧
       t.table (otherSlot sl) = s.table (otherSlot sl) ∧ t.nbt = s.nbt ∧ t.cye = s.cye ∧ t.svc = s.svc) ∧
  (∀ (s : State) (sl : Slot) (cause : GoneCause) (ms : Nat), s.phase = .running → (s.slot sl).state = .offered →
     (s.slot sl).grant = .localCall → (s.slot sl).NoClaims → s.ple.state = .bell →
     ∃ t, exec (.gone sl cause ms) s = .next t ∧ s.ClosesCall t (s.arrive ms).clock.now .callerCleared ∧
       (t.slot sl).state = .idle ∧ (t.slot sl).grant = .nobody ∧ (t.slot sl).deadline = none ∧
       (t.slot sl).sent = (s.slot sl).sent ∧ t.slot (otherSlot sl) = s.slot (otherSlot sl) ∧ t.nwt = s.nwt ∧
       t.nbt = s.nbt ∧ t.lnc = s.lnc ∧ t.cye = s.cye ∧ t.tkm = s.tkm) ∧
  (∀ (s : State) (sl : Slot) (cause : GoneCause) (ms : Nat) (c : CarryRec), s.phase = .running → (s.slot sl).NoClaims →
     s.CarriesSound → c ∈ s.cye → c.slot = sl → (s.slot sl).grant = .carry c.id →
     (s.slot sl).state = .dialling ∧ c.state = .dialling ∨ (s.slot sl).state = .ringing ∧ c.state = .ringing ∨
       (s.slot sl).state = .talking ∧ c.state = .talking →
     let now := (s.arrive ms).clock.now
     let told : CprgReason := if cause = .farCleared then .farCleared else .lost
     let u := (s.arrive ms).handAll [some ⟨c.id.requester, .cprg c.id.callId (.failed told)⟩,
       some ⟨0, .tfre (trunkNum c.trunk)⟩]
     ∃ t, exec (.gone sl cause ms) s = .next t ∧
       s.EndsCarry t c (if cause = .farCleared ∧ c.state = .talking then .talked else .failed told) ∧
       (t.slot sl).state = .idle ∧ (t.slot sl).grant = .nobody ∧ (t.slot sl).deadline = none ∧
       (t.slot sl).sent = (s.slot sl).sent ∧ t.slot (otherSlot sl) = s.slot (otherSlot sl) ∧
       (cause = .farCleared → c.state = .talking → t.nwt = s.nwt ∧ t.adv = s.adv ∧ t.lnc = u.lnc) ∧
       (cause ≠ .farCleared ∨ c.state ≠ .talking →
         t.table sl = ((s.table sl).map fun e =>
           if e.code = c.code then { e with quality := e.quality.report now .failure } else e) ∧
         t.table (otherSlot sl) = s.table (otherSlot sl) ∧ t.lnc = (u.reportEntry sl c.code .failure).lnc) ∧
       t.ple = s.ple ∧ t.nbt = s.nbt)

/-- R53, R65, R85, R87: BEAT past the warm-up restarts the heartbeat watch and refreshes the camped entry; a discarded
signal restarts nothing. -/
def Obligations.BeatRefreshesTheCampedEntry : Prop :=
  (∀ (s : State) (sl : Slot) (code ms : Nat) (level : Option Nat), s.phase = .running →
    isPastWarmUp (s.slot sl).state = true →
    ∃ t, exec (.beat sl (some code) level ms) s = .next t ∧
      t.slot sl = { s.slot sl with heartbeat := some ((s.arrive ms).clock.now + 15000),
                                   idleTimer := (t.slot sl).idleTimer } ∧
      t.slot (otherSlot sl) = s.slot (otherSlot sl) ∧
      t.table sl = ((s.table sl).map fun e =>
        if e.code = code then { e with level := level.map (min · 31), age := 0 } else e) ∧
      t.table (otherSlot sl) = s.table (otherSlot sl) ∧ t.ple = s.ple ∧ t.cye = s.cye ∧ t.nbt = s.nbt ∧
      t.svc = s.svc ∧ t.tkm = s.tkm) ∧
  (∀ (s : State) (sl : Slot) (level : Option Nat) (ms : Nat), s.phase = .running → isPastWarmUp (s.slot sl).state = true →
    exec (.beat sl none level ms) s = .next ((s.arrive ms).setSlot sl fun r =>
      { r with heartbeat := some ((s.arrive ms).clock.now + 15000) })) ∧
  ∀ (s : State) (sl : Slot) (ms : Nat), s.phase = .running →
    exec (.modemSignalDiscarded sl ms) s = .next (s.arrive ms)

/-- R29, R30, R76, R86: a CALLIN in IDLE or SCANNING with the window open and the record IDLE is offered, a running scan
ending first with no NETS (R73); with the window closed, the record in use or the grant a carry's, and in a busy slot,
REFUSE goes out and nothing else changes. R171: the offer makes the box busy, and its sample timer is cut to 10 s. A
window of 0 seconds is open until its expiry (log 28). The record is in BELL before the scan's end is reported, so that
the first REACH (R133) tells of the call (log 33). -/
def Obligations.IncomingCallIsOfferedOrRefused : Prop :=
  ∀ (s : State) (sl : Slot) (ms : Nat), s.phase = .running →
    let now := (s.arrive ms).clock.now
    ((s.slot sl).state = .idle → s.ple.window ≠ none → s.ple.state = .idle → (s.slot sl).grant = .nobody →
      ∃ t, exec (.callin sl ms) s = .next t ∧ t.ple.state = .bell ∧ t.ple.origin = .callback ∧
        t.ple.callId = s.svc.nextCallId ∧ t.svc = { s.svc with nextCallId := (s.svc.nextCallId + 1) % 256 } ∧
        t.ple.route = some ⟨.slot sl, none⟩ ∧ t.ple.window = s.ple.window ∧ t.ple.rounds = 0 ∧
        t.ple.bellTimer = some (now + 60000) ∧ t.cpi.lamp = .off ∧
        (s.cpi.bell = .silent → t.cpi.bell = .ringing true ∧ t.cpi.bellCadence = some (now + 1000)) ∧
        (t.slot sl).state = .offered ∧ (t.slot sl).grant = .localCall ∧ (t.slot sl).sent = (s.slot sl).sent ∧
        t.slot (otherSlot sl) = s.slot (otherSlot sl) ∧ t.cye = s.cye ∧ t.nwt = s.nwt ∧
        t.spm = { s.spm with timer := s.spm.timer.map fun d => min d (now + 10000) } ∧ t.lnc = s.lnc) ∧
    ((s.slot sl).state = .scanning → s.ple.window ≠ none → s.ple.state = .idle →
      (∃ kind, (s.slot sl).grant = .scan kind) →
      ∃ t, exec (.callin sl ms) s = .next t ∧ t.ple.state = .bell ∧ t.ple.origin = .callback ∧
        t.ple.callId = s.svc.nextCallId ∧ t.svc = { s.svc with nextCallId := (s.svc.nextCallId + 1) % 256 } ∧
        t.ple.route = some ⟨.slot sl, none⟩ ∧ t.ple.window = s.ple.window ∧ t.ple.rounds = 0 ∧
        t.ple.bellTimer = some (now + 60000) ∧ t.cpi.lamp = .off ∧
        (s.cpi.bell = .silent → t.cpi.bell = .ringing true ∧ t.cpi.bellCadence = some (now + 1000)) ∧
        (t.slot sl).state = .offered ∧ (t.slot sl).grant = .localCall ∧ (t.slot sl).request = .nothing ∧
        (t.slot sl).deadline = none ∧ (t.slot sl).waitingScan = false ∧ (t.slot sl).sent = (s.slot sl).sent ∧
        (t.slot sl).waitingLocal = (s.slot sl).waitingLocal ∧ (t.slot sl).waitingCarry = (s.slot sl).waitingCarry ∧
        (t.slot sl).scanTimer = (match s.spm.supply with
          | .ok => some (now + s.cfg.record.scanInterval * 1000)
          | .low => some (now + 2 * s.cfg.record.scanInterval * 1000)
          | .critical => none) ∧
        t.slot (otherSlot sl) = s.slot (otherSlot sl) ∧ t.cye = s.cye ∧ t.nwt = s.nwt ∧
        t.spm = { s.spm with timer := s.spm.timer.map fun d => min d (now + 10000) } ∧
        (∀ w, s.adv.timer = .startWait w → t.adv.seq = (s.adv.seq + 1) % 256 ∧ t.adv.lastBuild = some now ∧
          t.lnc = (((s.arrive ms).withLnc { s.lnc with rng := rngStep s.lnc.rng }).hand 0 (.reach (reachPayload
            { seq := s.adv.seq, capacity := s.capacity, supply := s.spm.supply, localCall := true,
              items := advertItems s }))).lnc) ∧
        ((∀ w, s.adv.timer ≠ .startWait w) → t.adv = s.adv ∧ t.lnc = s.lnc)) ∧
    (((s.slot sl).state = .dialling ∨ (s.slot sl).state = .ringing ∨ (s.slot sl).state = .talking ∨
        (s.slot sl).state = .clearing) ∨
      ((s.slot sl).state = .idle ∨ (s.slot sl).state = .scanning) ∧
        (s.ple.window = none ∨ s.ple.state ≠ .idle ∨ ∃ id, (s.slot sl).grant = .carry id) →
      exec (.callin sl ms) s = .next (((s.arrive ms).setSlot sl fun r =>
        { r with heartbeat := some (now + 15000) }).setSlot sl fun r => { r with sent := r.sent ++ [.refuse] }))

/-! ### The slots' timers -/

/-- R64, R65, R66, R75, R77: a warm-up or clear deadline, a heartbeat watch that runs out and an RDY with work in hand
are faults: power is cut, nothing is outstanding, and the slot restarts after 2 s, or is DISABLED at the third fault
within 600 s. R16, R26, R66, R67: a fault takes the grant from the local call, whose attempt ends LOST in DIALLING and
RINGING, and a fault on a slot whose claim the local call waits for ends it SKIPPED, charging nothing; the routes not
yet tried are taken in order. R27, R31: in TALKING it is a loss, which resumes the call or closes it at the sixth; in
BELL it closes the callback. R101, R102, R108: a fault ends the carry that holds the grant as LOST, its requester told,
its trunk freed, and the failure charged once DIAL was sent. The slot of a DIALLING call that holds the grant is taken
as not IDLE, for the grant has DIAL sent at once (R69). R12, R66, R72, R73: a fault ends a running scan with no NETS and
an emergency scan that is claimed and not begun: PLE waits for the rest or starts the next round, and ADV is told of the
one that ran; the scan timer starts again, as it does where a periodic claim is withdrawn. R66, R97: each CARRY claim
that waits there ends its carry as LOST, in the order of the carry queue, after PLE is told of its own claim (log 39). A
callback in TALKING has no entry to charge (log 16). The slot's state is set before the reports (log 7); a fault before
DIAL is SKIPPED (log 23); the placement limit runs from the millisecond of the loss (log 38); origin and limit start of
a closed record are the model's (log 27). -/
def Obligations.FaultsRestartOrDisableTheSlot : Prop :=
  (∀ (s : State) (sl : Slot) (at_ ms : Nat) (c : Instr),
     (c = .warmUpDeadlineExpiry sl ∧ (s.slot sl).state = .warming ∧ s.Due (s.slot sl).deadline at_) ∨
     (c = .clearDeadlineExpiry sl ∧ (s.slot sl).state = .clearing ∧ s.Due (s.slot sl).deadline at_) ∨
     (c = .heartbeatWatchExpiry sl ∧ isPastWarmUp (s.slot sl).state = true ∧ s.Due (s.slot sl).heartbeat at_) ∨
     (c = .rdy sl ms ∧ s.phase = .running ∧ isPastWarmUp (s.slot sl).state = true ∧ (s.slot sl).state ≠ .idle) →
     let now := match c with
       | .rdy _ _ => (s.arrive ms).clock.now
       | _ => max s.clock.now at_
     let recent := (s.slot sl).faultTimes.filter fun u => decide (s.cfg.uptime < u + 600)
     ∃ t, exec c s = .next t ∧ (t.slot sl).power = false ∧ (t.slot sl).grant = .nobody ∧
       (t.slot sl).request = .nothing ∧ (t.slot sl).deadline = none ∧ (t.slot sl).heartbeat = none ∧
       (t.slot sl).idleTimer = none ∧ (t.slot sl).repeats = 0 ∧ (t.slot sl).sent = (s.slot sl).sent ∧
       (2 ≤ recent.length → (t.slot sl).state = .disabled ∧ (t.slot sl).faultTimes = recent ∧
         (t.slot sl).restartTimer = none ∧ (t.slot sl).scanTimer = none) ∧
       (recent.length < 2 → (t.slot sl).state = .restarting ∧ (t.slot sl).faultTimes = recent ++ [s.cfg.uptime] ∧
         (t.slot sl).restartTimer = some (now + 2000) ∧
         ((s.slot sl).waitingScan = true ∨ (∃ kind, (s.slot sl).grant = .scan kind) →
           (t.slot sl).scanTimer = s.scanTimerFrom now) ∧
         ((s.slot sl).waitingScan = false → (∀ kind, (s.slot sl).grant ≠ .scan kind) →
           (t.slot sl).scanTimer = (s.slot sl).scanTimer)) ∧
       (t.slot sl).NoClaims ∧
       ((s.slot sl).grant = .nobody → (s.slot sl).NoClaims →
         t.slot (otherSlot sl) = s.slot (otherSlot sl) ∧ t.ple = s.ple ∧ t.cye = s.cye ∧ t.nwt = s.nwt)) ∧
  (∀ (s v : State) (sl : Slot) (c : Instr) (code : Nat), s.FaultsAt sl c v →
     s.ple.route = some ⟨.slot sl, some code⟩ → (s.slot sl).waitingCarry = [] →
     let now := v.clock.now
     let after (t : State) : State := (v.setSlot sl fun _ => t.slot sl).watchAdvert
     let charged (t : State) : Prop :=
       t.table sl = ((s.table sl).map fun e =>
         if e.code = code then { e with quality := e.quality.report now .failure } else e) ∧
       t.table (otherSlot sl) = s.table (otherSlot sl)
     ((s.slot sl).grant = .localCall → (s.slot sl).waitingLocal = none →
       s.ple.state = .dialling ∧ (s.slot sl).state ≠ .idle ∨ s.ple.state = .ringing →
       ∃ t, exec c s = .next t ∧ charged t ∧ State.EndsAttempt ((after t).reportEntry sl code .failure) t now ∧
         (s.AllTried → t.ple.state = .waiting ∧ t.slot (otherSlot sl) = s.slot (otherSlot sl)) ∧
         t.cye = s.cye ∧ t.svc = s.svc) ∧
     ((s.slot sl).grant = .nobody → (s.slot sl).waitingLocal = some .dial → s.ple.state = .dialling →
       ∃ t, exec c s = .next t ∧ State.EndsAttempt (after t) t now ∧ (t.slot sl).waitingLocal = none ∧
         (s.AllTried → t.ple.state = .waiting ∧ t.slot (otherSlot sl) = s.slot (otherSlot sl)) ∧
         t.nwt = s.nwt ∧ t.cye = s.cye ∧ t.svc = s.svc) ∧
     ((s.slot sl).grant = .localCall → (s.slot sl).waitingLocal = none → s.ple.state = .talking →
       (s.ple.resumptions < 5 →
         ∃ t, exec c s = .next t ∧ charged t ∧ State.StartsRound ((after t).reportEntry sl code .failure) t now ∧
           s.Resumes t now ∧ t.nbt = s.nbt ∧ t.tkm = s.tkm) ∧
       (s.ple.resumptions = 5 →
         ∃ t, exec c s = .next t ∧ charged t ∧ s.ClosesCall t now .lost ∧
           t.slot (otherSlot sl) = s.slot (otherSlot sl) ∧ t.nbt = s.nbt ∧ t.cye = s.cye ∧ t.tkm = s.tkm))) ∧
  (∀ (s v : State) (sl : Slot) (c : Instr), s.FaultsAt sl c v → (s.slot sl).grant = .localCall →
     (s.slot sl).waitingLocal = none → (s.slot sl).waitingCarry = [] → s.ple.state = .talking →
     s.ple.route = some ⟨.slot sl, none⟩ →
     ∃ t, exec c s = .next t ∧ t.nwt = s.nwt ∧ t.nbt = s.nbt ∧ t.tkm = s.tkm ∧
       (s.ple.resumptions < 5 →
         State.StartsRound ((v.setSlot sl fun _ => t.slot sl).watchAdvert) t v.clock.now ∧ s.Resumes t v.clock.now) ∧
       (s.ple.resumptions = 5 → s.ClosesCall t v.clock.now .lost ∧
         t.slot (otherSlot sl) = s.slot (otherSlot sl) ∧ t.cye = s.cye)) ∧
  (∀ (s v : State) (sl : Slot) (c : Instr) (kind : ScanKind), s.FaultsAt sl c v → (s.slot sl).waitingCarry = [] →
     (s.slot sl).grant = .scan kind ∧ (s.slot sl).waitingLocal = none ∨
       kind = .emergency ∧ (s.slot sl).grant = .nobody ∧ (s.slot sl).waitingLocal = some .emergencyScan →
     let now := v.clock.now
     ((kind = .emergency → ¬ s.EndsWait sl) →
       ∃ t, exec c s = .next t ∧ t.ple = (if kind = .emergency then s.ple.scanEnded sl else s.ple) ∧
         t.slot (otherSlot sl) = s.slot (otherSlot sl) ∧ t.cye = s.cye ∧ t.nwt = s.nwt ∧ t.nbt = s.nbt ∧
         t.tkm = s.tkm ∧ t.svc = s.svc ∧ t.xpt = s.xpt ∧
         ((s.slot sl).grant = .scan kind → ∀ w, s.adv.timer = .startWait w → s.adv.lastBest = .notYet →
           t.adv.seq = (s.adv.seq + 1) % 256 ∧ t.adv.lastBuild = some now ∧ ∃ p, t.adv.timer = .periodic p)) ∧
     (kind = .emergency → s.EndsWait sl → (∀ w, s.adv.timer ≠ .startWait w) →
       (s.slot (otherSlot sl)).waitingLocal = none →
       ∃ t, exec c s = .next t ∧ t.nwt = s.nwt ∧ t.nbt = s.nbt ∧ t.tkm = s.tkm ∧ t.svc = s.svc ∧
         State.StartsRound (((v.setSlot sl fun _ => t.slot sl).watchAdvert).withPle s.ple.waitEnded) t now)) ∧
  (∀ (s v : State) (sl : Slot) (c : Instr), s.FaultsAt sl c v → s.CarriesSound →
     let ends (k : CarryRec) : Prop := k.id ∈ (s.slot sl).waitingCarry ∨ (s.slot sl).grant = .carry k.id
     let queued := s.cye.filter fun k => k.id ∈ (s.slot sl).waitingCarry
     ∃ t, exec c s = .next t ∧ t.cye = (s.cye.filter fun k => ¬ ends k) ∧
       (∀ k ∈ s.cye, ends k → t.trunk k.trunk = .free ∧ (∀ j ∈ t.xpt.joins, j.owner ≠ .carry k.id) ∧
         ∀ j ∈ t.xpt.waiting, j.owner ≠ .carry k.id) ∧
       (∀ u, (∀ k ∈ s.cye, ends k → k.trunk ≠ u) → t.trunk u = s.trunk u) ∧
       ((s.slot sl).grant = .nobody → (s.slot sl).waitingLocal = none →
         t.svc = { s.svc with
           log := ((queued.map fun k => k.loggedAs (.failed .lost) s.cfg.uptime).reverse ++ s.svc.log).take 32 } ∧
         t.lnc = (((v.setSlot sl fun _ => t.slot sl).watchAdvert).handAll (queued.flatMap fun k =>
           [some ⟨k.id.requester, .cprg k.id.callId (.failed .lost)⟩, some ⟨0, .tfre (trunkNum k.trunk)⟩])).lnc ∧
         t.slot (otherSlot sl) = s.slot (otherSlot sl) ∧ t.ple = s.ple ∧ t.nwt = s.nwt ∧ t.nbt = s.nbt)) ∧
  (∀ (s v : State) (sl : Slot) (c : Instr), s.FaultsAt sl c v → (s.slot sl).grant = .localCall →
     (s.slot sl).waitingLocal = none → (s.slot sl).waitingCarry = [] → s.ple.state = .bell →
     ∃ t, exec c s = .next t ∧ s.ClosesCall t v.clock.now .callerCleared ∧
       t.slot (otherSlot sl) = s.slot (otherSlot sl) ∧ t.nwt = s.nwt ∧ t.nbt = s.nbt ∧ t.cye = s.cye ∧ t.tkm = s.tkm) ∧
  ∀ (s v : State) (sl : Slot) (c : Instr) (k : CarryRec), s.FaultsAt sl c v → s.CarriesSound → k ∈ s.cye →
    k.slot = sl → (s.slot sl).grant = .carry k.id → (s.slot sl).waitingLocal = none → (s.slot sl).waitingCarry = [] →
    let now := v.clock.now
    ∃ t, exec c s = .next t ∧ s.EndsCarry t k (.failed .lost) ∧
      t.slot (otherSlot sl) = s.slot (otherSlot sl) ∧ t.ple = s.ple ∧ t.nbt = s.nbt ∧
      t.table sl = ((s.table sl).map fun e =>
        if e.code = k.code ∧ k.dialSent = true then { e with quality := e.quality.report now .failure } else e) ∧
      t.table (otherSlot sl) = s.table (otherSlot sl) ∧
      let u := ((v.setSlot sl fun _ => t.slot sl).watchAdvert).handAll
        [some ⟨k.id.requester, .cprg k.id.callId (.failed .lost)⟩, some ⟨0, .tfre (trunkNum k.trunk)⟩]
      t.lnc = (if k.dialSent then u.reportEntry sl k.code .failure else u).lnc

/-- R74, R75, R82, R101: a dial deadline and a slot's ring limit have DROP sent and leave the slot CLEARING; the carry
that holds the grant ends as TIMEOUT, with the failure charged and its trunk freed. R16, R26: the local call's attempt
ends as TIMEOUT with the failure charged, and the routes not yet tried are taken in order. -/
def Obligations.DialTimeoutDropsTheCarriedCall : Prop :=
  (∀ (s : State) (sl : Slot) (at_ code : Nat) (ringing : Bool), s.Due (s.slot sl).deadline at_ →
     (s.slot sl).state = (if ringing then .ringing else .dialling) → (s.slot sl).grant = .localCall →
     s.ple.state = (if ringing then .ringing else .dialling) → s.ple.route = some ⟨.slot sl, some code⟩ →
     let now := max s.clock.now at_
     ∃ t, exec (if ringing then .slotRingLimitExpiry sl else .dialDeadlineExpiry sl) s = .next t ∧
       State.EndsAttempt (((s.advanceTo at_).dropped sl).reportEntry sl code .failure) t now ∧
       (t.slot sl).state = .clearing ∧ (t.slot sl).grant = .nobody ∧ (t.slot sl).request = .drop ∧
       (t.slot sl).deadline = some (now + 5000) ∧ (t.slot sl).sent = (s.slot sl).sent ++ [.drop] ∧
       (s.AllTried → t.ple.state = .waiting ∧ t.slot (otherSlot sl) = s.slot (otherSlot sl)) ∧
       t.table sl = ((s.table sl).map fun e =>
         if e.code = code then { e with quality := e.quality.report now .failure } else e) ∧
       t.table (otherSlot sl) = s.table (otherSlot sl) ∧ t.nbt = s.nbt ∧ t.cye = s.cye ∧ t.svc = s.svc) ∧
  ∀ (s : State) (sl : Slot) (at_ : Nat) (ringing : Bool) (c : CarryRec), s.QueueSound → s.Due (s.slot sl).deadline at_ →
    (s.slot sl).state = (if ringing then .ringing else .dialling) → c ∈ s.cye → c.slot = sl →
    (s.slot sl).grant = .carry c.id → c.state = (if ringing then .ringing else .dialling) →
    (s.trunk c.trunk).owner = some c.id →
    let now := max s.clock.now at_
    ∃ t, exec (if ringing then .slotRingLimitExpiry sl else .dialDeadlineExpiry sl) s = .next t ∧
      (t.slot sl).state = .clearing ∧ (t.slot sl).grant = .nobody ∧ (t.slot sl).request = .drop ∧
      (t.slot sl).deadline = some (now + 5000) ∧ (t.slot sl).sent = (s.slot sl).sent ++ [.drop] ∧
      t.slot (otherSlot sl) = s.slot (otherSlot sl) ∧ t.cye = (s.cye.filter fun d => d.id != c.id) ∧
      t.trunk c.trunk = .free ∧ (∀ u, u ≠ c.trunk → t.trunk u = s.trunk u) ∧
      (∃ r : LogRecord, t.svc.log = (r :: s.svc.log).take 32 ∧ r.callId = c.id.callId ∧ r.kind = .carried ∧
        r.partner = some (.box c.id.requester) ∧ r.code = some c.code ∧ r.outcome = .failed .timeout) ∧
      t.table sl = ((s.table sl).map fun e =>
        if e.code = c.code then { e with quality := e.quality.report now .failure } else e) ∧
      t.table (otherSlot sl) = s.table (otherSlot sl) ∧ t.ple = s.ple ∧ t.nbt = s.nbt

/-- R63, R64, R67, R71, R72: the idle timer keeps or powers off an unused slot by the policy in force, the scan timer
claims a scan and warms an OFF slot, and the restart timer warms the slot. R64 to R66, R75: a warm-up deadline, a clear
deadline and a heartbeat watch that come due take power, grant and every claim from the slot, which is RESTARTING with
its restart timer running or DISABLED; one that does not run or is not yet due changes nothing (log 2). -/
def Obligations.SlotTimersPowerAndWarmTheSlot : Prop :=
  (∀ (s : State) (sl : Slot) (at_ : Nat), s.Due (s.slot sl).idleTimer at_ → (s.slot sl).state = .idle →
    (s.slot sl).grant = .nobody → (s.slot sl).NoClaims →
    let kept : Bool := s.spm.supply == .ok && (match s.cfg.record.policy, sl with
      | .none, _ => false
      | .both, _ => true
      | .one, .a => true
      | .one, .b => s.slc.a.state == .absent || s.slc.a.state == .disabled)
    ∃ t, exec (.idleTimerExpiry sl) s = .next t ∧
      (kept = true → t.slot sl = { s.slot sl with idleTimer := some (max s.clock.now at_ + 30000) }) ∧
      (kept = false → (t.slot sl).state = .off ∧ (t.slot sl).power = false ∧ (t.slot sl).heartbeat = none ∧
        (t.slot sl).idleTimer = none ∧ (t.slot sl).scanTimer = (s.slot sl).scanTimer) ∧
      t.slot (otherSlot sl) = s.slot (otherSlot sl) ∧ t.ple = s.ple ∧ t.cye = s.cye ∧ t.nwt = s.nwt ∧
      t.lnc = s.lnc ∧ t.adv = s.adv) ∧
  (∀ (s : State) (sl : Slot) (at_ : Nat), s.Due (s.slot sl).scanTimer at_ → (s.slot sl).state = .off →
    (s.slot sl).restartTimer = none →
    ∃ t, exec (.scanTimerExpiry sl) s = .next t ∧ (t.slot sl).scanTimer = none ∧ (t.slot sl).waitingScan = true ∧
      (t.slot sl).state = .warming ∧ (t.slot sl).power = true ∧
      (t.slot sl).deadline = some (max s.clock.now at_ + 20000) ∧ t.slot (otherSlot sl) = s.slot (otherSlot sl) ∧
      t.ple = s.ple ∧ t.cye = s.cye ∧ t.nwt = s.nwt ∧ t.lnc = s.lnc) ∧
  (∀ (s : State) (sl : Slot) (at_ : Nat), s.Due (s.slot sl).scanTimer at_ → (s.slot sl).state = .idle →
    (s.slot sl).grant = .nobody → (s.slot sl).NoClaims →
    ∃ t, exec (.scanTimerExpiry sl) s = .next t ∧ (t.slot sl).scanTimer = none ∧ (t.slot sl).waitingScan = false ∧
      (t.slot sl).state = .scanning ∧ (t.slot sl).grant = .scan .periodic ∧
      (t.slot sl).deadline = some (max s.clock.now at_ + 45000) ∧ (t.slot sl).sent = (s.slot sl).sent ++ [.scan] ∧
      t.slot (otherSlot sl) = s.slot (otherSlot sl) ∧ t.ple = s.ple) ∧
  (∀ (s : State) (sl : Slot) (c : Instr) (timer : Option Nat),
    (c = .warmUpDeadlineExpiry sl ∧ timer = (if (s.slot sl).state = .warming then (s.slot sl).deadline else none)) ∨
    (c = .clearDeadlineExpiry sl ∧ timer = (if (s.slot sl).state = .clearing then (s.slot sl).deadline else none)) ∨
    (c = .heartbeatWatchExpiry sl ∧ timer = (s.slot sl).heartbeat) →
    (∀ at_, s.Due timer at_ →
      ∃ t, exec c s = .next t ∧ (t.slot sl).power = false ∧ (t.slot sl).grant = .nobody ∧ (t.slot sl).NoClaims ∧
        (t.slot sl).request = .nothing ∧ (t.slot sl).deadline = none ∧ (t.slot sl).heartbeat = none ∧
        (t.slot sl).idleTimer = none ∧ (t.slot sl).sent = (s.slot sl).sent ∧
        ((t.slot sl).state = .restarting ∧ (t.slot sl).restartTimer = some (max s.clock.now at_ + 2000) ∨
          (t.slot sl).state = .disabled ∧ (t.slot sl).restartTimer = none ∧ (t.slot sl).scanTimer = none)) ∧
    ((∀ at_, ¬ s.Due timer at_) → exec c s = .next s)) ∧
  ∀ (s : State) (sl : Slot) (at_ : Nat), s.Due (s.slot sl).restartTimer at_ →
    (s.slot sl).state = .restarting ∨ (s.slot sl).state = .off →
    ∃ t, exec (.restartTimerExpiry sl) s = .next t ∧ (t.slot sl).state = .warming ∧ (t.slot sl).power = true ∧
      (t.slot sl).restartTimer = none ∧ (t.slot sl).deadline = some (max s.clock.now at_ + 20000) ∧
      (t.slot sl).waitingLocal = (s.slot sl).waitingLocal ∧ (t.slot sl).waitingCarry = (s.slot sl).waitingCarry ∧
      ((s.slot sl).state = .off → (t.slot sl).waitingScan = true) ∧ t.slot (otherSlot sl) = s.slot (otherSlot sl) ∧
      t.ple = s.ple ∧ t.cye = s.cye ∧ t.nwt = s.nwt ∧ t.nbt = s.nbt ∧ t.tkm = s.tkm

/-! ### Carries -/

/-- R91, R92, R93, R95: a CREQ that no check refuses makes a QUEUED record on the better slot and the lowest free trunk,
and is answered with CACK. R92, R93: the slot bound is one that qualifies, and of two the one whose entry has the higher
own score, SLOT_A at equal scores; none is bound only where none qualifies; an entry qualifies from the second at which
the uptime reaches its barred-until (log 32). R68, R93: the claim waits where the slot is busy, or IDLE with its grant
held, or warms for it where it is OFF and no restart timer runs, which it waits for otherwise. R69, R74, R93, R98:
accepted on a free IDLE slot, the record is granted, joined to its trunk and dialled at once. -/
def Obligations.CarryRequestIsAccepted : Prop :=
  (∀ (s : State) (code : Nat), s.NetworksSound →
     (boundSlot s code = none ↔ ∀ sl, ∀ e ∈ s.table sl, ¬ s.Qualifies sl code e) ∧
     ∀ sl, boundSlot s code = some sl ↔ ∃ e ∈ s.table sl, s.Qualifies sl code e ∧
       ∀ d ∈ s.table (otherSlot sl), s.Qualifies (otherSlot sl) code d →
         d.ownWorth < e.ownWorth ∨ d.ownWorth = e.ownWorth ∧ sl = .a) ∧
  (∀ (s : State) (h : Header) (callId code ms : Nat) (sl : Slot) (tr : Trunk), s.Hears h → s.own = some h.dst →
     h.src ≠ 63 → (∀ c ∈ s.cye, c.id ≠ ⟨h.src, callId⟩) → s.cfg.record.carrying = true → s.spm.supply ≠ .critical →
     s.cye.length < 3 → boundSlot s code = some sl → s.tkm.lowestFree = some tr →
     (s.slot sl).state ≠ .idle ∨ (s.slot sl).grant ≠ .nobody →
     let now := (s.frameHeard ms).clock.now
     let warms : Prop := (s.slot sl).state = .off ∧ (s.slot sl).restartTimer = none
     ∃ t, exec (.creq h callId code ms) s = .next t ∧
       t.cye = s.cye ++ [{ id := ⟨h.src, callId⟩, code := code, slot := sl, trunk := tr, state := .queued,
                           dialSent := false, queueTimer := some (now + 20000), silence := some (now + 8000),
                           talkSeconds := 0 }] ∧
       t.trunk tr = .claiming ⟨h.src, callId⟩ (now + 300) [] (now + 2000) ∧ (∀ u, u ≠ tr → t.trunk u = s.trunk u) ∧
       t.lnc = ((s.frameHeard ms).hand h.src (.cack callId (trunkNum tr))).lnc ∧
       (t.slot sl).waitingCarry = (s.slot sl).waitingCarry ++ [⟨h.src, callId⟩] ∧
       (t.slot sl).grant = (s.slot sl).grant ∧ (t.slot sl).sent = (s.slot sl).sent ∧
       (warms → (t.slot sl).state = .warming ∧ (t.slot sl).power = true ∧ (t.slot sl).deadline = some (now + 20000)) ∧
       (¬ warms → (t.slot sl).state = (s.slot sl).state ∧ (t.slot sl).power = (s.slot sl).power ∧
         (t.slot sl).deadline = (s.slot sl).deadline) ∧
       t.slot (otherSlot sl) = s.slot (otherSlot sl) ∧ t.ple = s.ple ∧ t.nwt = s.nwt ∧ t.nbt = s.nbt ∧
       t.xpt = s.xpt ∧ t.svc = s.svc ∧ t.adv = s.adv ∧
       (s.cye = [] → t.spm.timer = s.spm.timer.map fun d => min d (now + 10000))) ∧
  (∀ (s : State) (h : Header) (callId code ms : Nat) (sl : Slot) (tr : Trunk), s.Hears h → s.own = some h.dst →
     h.src ≠ 63 → (∀ c ∈ s.cye, c.id ≠ ⟨h.src, callId⟩) → s.cfg.record.carrying = true → s.spm.supply ≠ .critical →
     s.cye.length < 3 → boundSlot s code = some sl → s.tkm.lowestFree = some tr →
     (s.slot sl).state = .idle → (s.slot sl).grant = .nobody → (s.slot sl).NoClaims →
     let now := (s.frameHeard ms).clock.now
     ∃ t, exec (.creq h callId code ms) s = .next t ∧
       t.cye = s.cye ++ [{ id := ⟨h.src, callId⟩, code := code, slot := sl, trunk := tr, state := .dialling,
                           dialSent := true, queueTimer := none, silence := some (now + 8000), talkSeconds := 0 }] ∧
       (t.slot sl).state = .dialling ∧ (t.slot sl).grant = .carry ⟨h.src, callId⟩ ∧
       (t.slot sl).request = .dial code ∧ (t.slot sl).deadline = some (now + 10000) ∧
       (t.slot sl).sent = (s.slot sl).sent ++ [.dial code] ∧ (t.slot sl).waitingCarry = [] ∧
       t.xpt = ((s.frameHeard ms).xptJoin (.carry ⟨h.src, callId⟩) (.slot sl) (.trunk tr)).xpt ∧
       t.lnc = ((s.frameHeard ms).hand h.src (.cack callId (trunkNum tr))).lnc ∧
       t.slot (otherSlot sl) = s.slot (otherSlot sl) ∧ t.ple = s.ple)

/-- R91, R94, R95: the checks of a CREQ in their order: a repeat is answered with the record's CACK, and a refusal
with its CNAK; nothing but the answer is made. R157: one to all boxes is ignored. -/
def Obligations.CarryRequestIsAnsweredByTheFirstCheck : Prop :=
  ∀ (s : State) (h : Header) (callId code ms : Nat), s.Hears h → h.src ≠ 63 →
    let u := s.frameHeard ms
    (s.own = some h.dst →
      (∀ c ∈ s.cye, s.QueueSound → c.id = ⟨h.src, callId⟩ →
        exec (.creq h callId code ms) s = .next (u.hand h.src (.cack callId (trunkNum c.trunk)))) ∧
      ((∀ c ∈ s.cye, c.id ≠ ⟨h.src, callId⟩) →
        (s.cfg.record.carrying = false →
          exec (.creq h callId code ms) s = .next (u.hand h.src (.cnak callId .notCarrying))) ∧
        (s.cfg.record.carrying = true → s.spm.supply = .critical →
          exec (.creq h callId code ms) s = .next (u.hand h.src (.cnak callId .supply))) ∧
        (s.cfg.record.carrying = true → s.spm.supply ≠ .critical → 3 ≤ s.cye.length →
          exec (.creq h callId code ms) s = .next (u.hand h.src (.cnak callId .full))) ∧
        (s.cfg.record.carrying = true → s.spm.supply ≠ .critical → s.cye.length < 3 → boundSlot s code = none →
          exec (.creq h callId code ms) s = .next (u.hand h.src (.cnak callId .noNetwork))) ∧
        (s.cfg.record.carrying = true → s.spm.supply ≠ .critical → s.cye.length < 3 → boundSlot s code ≠ none →
          s.tkm.lowestFree = none →
          exec (.creq h callId code ms) s = .next (u.hand h.src (.cnak callId .noTrunk))))) ∧
    (s.own ≠ some h.dst → exec (.creq h callId code ms) s = .next u)

/-- R97, R103, R104, R108, R109: a carry's queue timer, its requester's silence and its requester's CEND end it: the
requester is told but after a CEND, the slot is given up, the trunk freed, the record logged and removed, and no
report is made. R70, R75: a slot in the call has DROP sent and is CLEARING; a waiting claim is withdrawn. The frames are
CPRG FAILED and then TFRE. -/
def Obligations.CarryEndsOnItsTimersAndOnCend : Prop :=
  ∀ (s : State) (c : CarryRec) (at_ ms : Nat) (h : Header) (cause : CendCause) (k : Instr) (told : Option CprgReason)
    (o : LogOutcome), s.CarriesSound → c ∈ s.cye →
    (k = .queueTimerExpiry c.id ∧ s.Due c.queueTimer at_ ∧ c.state = .queued ∧ told = some .busy ∧ o = .failed .busy) ∨
    (k = .requesterSilenceExpiry c.id ∧ s.Due c.silence at_ ∧ told = some .lost ∧ o = .failed .lost) ∨
    (k = .cend h c.id.callId cause ms ∧ s.Hears h ∧ h.src = c.id.requester ∧ s.own = some h.dst ∧ told = none ∧
      o = (if cause = .lost then .failed .lost else if c.state = .talking then .talked
        else if cause = .limit then .failed .timeout else .callerCleared)) →
    let u := match k with
      | .cend _ _ _ _ => s.frameHeard ms
      | _ => s.advanceTo at_
    let v := match told with
      | some r => u.hand c.id.requester (.cprg c.id.callId (.failed r))
      | none => u
    ∃ t, exec k s = .next t ∧
      t.cye.map CarryRec.id = ((s.cye.map CarryRec.id).filter fun i => i != c.id) ∧
      t.trunk c.trunk = .free ∧ (∀ u, u ≠ c.trunk → t.trunk u = s.trunk u) ∧
      t.lnc = (v.hand 0 (.tfre (trunkNum c.trunk))).lnc ∧
      t.svc.log = ({ callId := c.id.callId, kind := .carried, partner := some (.box c.id.requester),
                     code := some c.code, rounds := 0, attempts := if c.dialSent then 1 else 0, outcome := o,
                     talkSeconds := c.talkSeconds, endUptime := s.cfg.uptime } :: s.svc.log).take 32 ∧
      s.GivesUpSlot t u.clock.now c ∧
      (∀ j ∈ t.xpt.joins, j.owner ≠ .carry c.id) ∧ (∀ j ∈ t.xpt.waiting, j.owner ≠ .carry c.id) ∧
      t.nwt = s.nwt ∧ t.nbt = s.nbt ∧ t.ple = s.ple ∧ t.adv = s.adv ∧ t.spm = s.spm

/-! ### The relay attempt at the requester -/

/-- R18, R19, R23: a CACK that answers the attempt gives it the trunk, with a THLD and its two timers, and a CACK that
does not fit is answered with CEND(LIMIT); R21: a further CACK of the carrier moves the attempt, or restarts the silence
timer alone where it names the trunk in use. R119, R122, R157: PLE and the trunk map take it in either order, whatever
the map's entry is, a claim or a settled entry of this box too. R18, R23, R25, R26: a CNAK that answers the attempt ends
it by its reason: FULL, NO_TRUNK and SUPPLY charge nothing, NO_NETWORK and NOT_CARRYING are failures of the neighbour;
the routes not yet tried are taken in order; any other CNAK is ignored. The order of PLE and the trunk map is a free
value (log 6). -/
def Obligations.CarryAnswersMoveTheAttempt : Prop :=
  (∀ (s : State) (h : Header) (callId ms : Nat) (tr : Trunk), s.Hears h → s.own = some h.dst → h.src ≠ 63 →
     (∀ id g b x, s.trunk tr ≠ .claiming id g b x) → (∀ id x, s.trunk tr ≠ .owned id x) →
     let u := s.frameHeard ms
     let now := u.clock.now
     (s.ple.relayCarrier = some h.src → s.ple.callId = callId → s.ple.answerTimer.isSome = true →
       ∃ t, exec (.cack h callId (trunkNum tr) ms) s = .next t ∧
         t.ple = { s.ple with answerTimer := none, trunk := some tr, carrierSilence := some (now + 8000),
                              holdRefresh := some (now + 2000) } ∧
         t.lnc = (u.hand 0 (.thld (trunkNum tr) h.src h.dst callId)).lnc ∧
         t.xpt = (u.xptJoin .localCall .handset (.trunk tr)).xpt ∧ t.trunk tr = .held h.src (now + 8000) ∧
         (∀ v, v ≠ tr → t.trunk v = s.trunk v) ∧ t.slc = s.slc ∧ t.cye = s.cye ∧ t.nbt = s.nbt ∧ t.cpi = s.cpi) ∧
     (s.ple.relayCarrier ≠ some h.src ∨ s.ple.callId ≠ callId →
       ∃ t, exec (.cack h callId (trunkNum tr) ms) s = .next t ∧ t.ple = s.ple ∧ t.xpt = s.xpt ∧
         t.lnc = (u.hand h.src (.cend callId .limit)).lnc ∧ t.trunk tr = .held h.src (now + 8000) ∧
         (∀ v, v ≠ tr → t.trunk v = s.trunk v) ∧ t.slc = s.slc ∧ t.cye = s.cye ∧ t.nbt = s.nbt)) ∧
  (∀ (s : State) (h : Header) (callId ms : Nat) (tr : Trunk), s.Hears h → s.own = some h.dst → h.src ≠ 63 →
     (∀ id, (s.trunk tr).owner = some id → ∃ c ∈ s.cye, c.id = id) →
     let u := s.frameHeard ms
     let now := u.clock.now
     let lost : Prop := ∃ id g b x, s.trunk tr = .claiming id g b x ∧ h.src < h.dst
     let map := s.announcementFrame tr h.src
     let hold : TxFrame := ⟨0, .thld (trunkNum tr) h.src h.dst callId⟩
     let joined := (u.xptJoin .localCall .handset (.trunk tr)).xpt
     ∃ t, exec (.cack h callId (trunkNum tr) ms) s = .next t ∧ s.MapTakesAnnouncement t now tr h.src ∧
       t.nbt = s.nbt ∧ t.cfg = s.cfg ∧ (¬ lost → t.slc = s.slc ∧ t.cye = s.cye ∧ t.cpi = s.cpi ∧ t.svc = s.svc) ∧
       (s.ple.relayCarrier = some h.src → s.ple.callId = callId →
         (s.ple.answerTimer.isSome = true →
           t.ple = { s.ple with answerTimer := none, trunk := some tr, carrierSilence := some (now + 8000),
                                holdRefresh := some (now + 2000) } ∧
           (t.lnc = (u.handAll [some hold, map]).lnc ∨ t.lnc = (u.handAll [map, some hold]).lnc) ∧
           (¬ lost → t.xpt = joined)) ∧
         (s.ple.answerTimer = none → s.ple.trunk = some tr →
           t.ple = { s.ple with carrierSilence := some (now + 8000) } ∧ t.lnc = (u.handAll [map]).lnc ∧
           (¬ lost → t.xpt = s.xpt)) ∧
         (s.ple.answerTimer = none → ∀ old, s.ple.trunk = some old → old ≠ tr →
           t.ple = { s.ple with trunk := some tr, carrierSilence := some (now + 8000) } ∧
           (t.lnc = (u.handAll [some hold, map]).lnc ∨ t.lnc = (u.handAll [map, some hold]).lnc) ∧
           (¬ lost → t.xpt = joined))) ∧
       (s.ple.relayCarrier ≠ some h.src ∨ s.ple.callId ≠ callId ∨ s.ple.answerTimer = none ∧ s.ple.trunk = none →
         t.ple = s.ple ∧ (¬ lost → t.xpt = s.xpt) ∧
         (t.lnc = (u.handAll [some ⟨h.src, .cend callId .limit⟩, map]).lnc ∨
           t.lnc = (u.handAll [map, some ⟨h.src, .cend callId .limit⟩]).lnc))) ∧
  (∀ (s : State) (h : Header) (callId ms : Nat) (reason : CnakReason), s.Hears h →
     let now := (s.frameHeard ms).clock.now
     (s.own = some h.dst → s.ple.relayCarrier = some h.src → s.ple.callId = callId → s.ple.answerTimer.isSome = true →
       ∃ t, exec (.cnak h callId reason ms) s = .next t ∧
         t.nbt = (s.nbt.map fun e =>
           if e.addr = h.src ∧ (reason = .noNetwork ∨ reason = .notCarrying) then
             { e with quality := e.quality.report now .failure }
           else e) ∧
         State.EndsAttempt ((s.frameHeard ms).withNbt t.nbt) t now ∧
         (s.AllTried →
           t.ple = { s.ple with
             state := .waiting, trunk := none, answerTimer := none, holdRefresh := none, carrierSilence := none,
             ringLimit := none, pauseTimer := some (now + s.ple.pauseLength * 1000) } ∧
           t.lnc = (s.frameHeard ms).lnc ∧ t.slc = s.slc) ∧
         t.nwt = s.nwt ∧ t.cye = s.cye ∧ t.tkm = s.tkm ∧ t.svc = s.svc) ∧
     (s.own ≠ some h.dst ∨ s.ple.relayCarrier ≠ some h.src ∨ s.ple.callId ≠ callId ∨ s.ple.answerTimer = none →
       exec (.cnak h callId reason ms) s = .next (s.frameHeard ms)))

/-- R20, R22, R28: the stages of a CPRG once the attempt holds a trunk: RINGING, TALKING with the credit, and in TALKING
FAILED(FAR_CLEARED), which closes the call as TALKED with no CEND. One before the CACK is ignored. R20, R25, R26: a CPRG
FAILED before TALKING ends the attempt by its reason: BUSY, NO_TRUNK and BARRED charge nothing, every other reason is a
failure of the neighbour; the routes not yet tried are taken in order. R27: in TALKING a FAILED of any reason but
FAR_CLEARED is a loss, charged to the neighbour; with fewer than five resumptions a round starts, the placement limit
running afresh, and the sixth closes the call as LOST, with no CEND. The limit runs from the millisecond of the loss
(log 38); origin and limit start of a closed record are the model's (log 27). R20: a repeated RINGING in RINGING or
TALKING, and a repeated TALKING in TALKING, restarts the silence timer alone. R23: a CPRG for another box, of another
source or call id, or taken where no relay attempt is in hand, is ignored. -/
def Obligations.CarryProgressMovesTheAttempt : Prop :=
  (∀ (s : State) (h : Header) (callId ms : Nat) (code : Option Nat), s.Hears h → s.own = some h.dst →
     s.ple.route = some ⟨.box h.src, code⟩ → s.ple.callId = callId →
     let now := (s.frameHeard ms).clock.now
     (s.ple.state = .relaying → s.ple.trunk.isSome = true →
       ∃ t, exec (.cprg h callId .ringing ms) s = .next t ∧
         t.ple = { s.ple with state := .ringing, ringLimit := some (now + 120000),
                              carrierSilence := some (now + 8000) } ∧
         t.cpi.lamp = .slow ∧ t.nbt = s.nbt ∧ t.slc = s.slc ∧ t.lnc = (s.frameHeard ms).lnc) ∧
     (s.ple.state = .relaying ∨ s.ple.state = .ringing → s.ple.trunk.isSome = true →
       ∃ t, exec (.cprg h callId .talking ms) s = .next t ∧
         t.ple = { s.ple with state := .talking, reachedTalking := true, talkRoute := s.ple.route, ringLimit := none,
                              placementLimit := none, carrierSilence := some (now + 8000) } ∧
         t.nbt = (s.nbt.map fun e =>
           if e.addr = h.src then { e with quality := e.quality.report now .credit } else e) ∧
         t.cpi.lamp = .steady ∧ t.slc = s.slc ∧ t.xpt = s.xpt ∧ t.lnc = (s.frameHeard ms).lnc) ∧
     (s.ple.state = .talking → s.ple.trunk.isSome = true →
       ∃ t, exec (.cprg h callId (.failed .farCleared) ms) s = .next t ∧ t.ple.state = .idle ∧
         (∃ r : LogRecord, t.svc.log = (r :: s.svc.log).take 32 ∧ r.outcome = .talked) ∧ t.nbt = s.nbt ∧
         t.cpi.lamp = .off ∧ t.lnc = (s.frameHeard ms).lnc ∧ (∀ j ∈ t.xpt.joins, j.owner ≠ .localCall)) ∧
     (s.ple.state = .talking → s.ple.trunk.isSome = true → s.ple.resumptions < 5 → ∀ reason, reason ≠ .farCleared →
       ∃ t, exec (.cprg h callId (.failed reason) ms) s = .next t ∧
         t.nbt = (s.nbt.map fun e =>
           if e.addr = h.src then { e with quality := e.quality.report now .failure } else e) ∧
         State.StartsRound ((s.frameHeard ms).withNbt t.nbt) t now ∧
         t.ple.resumptions = s.ple.resumptions + 1 ∧ t.ple.limitStart = s.cfg.uptime ∧
         t.ple.placementLimit = some (now + 1800000) ∧ t.ple.trunk = none ∧ t.ple.holdRefresh = none ∧
         t.ple.carrierSilence = none ∧ t.ple.callId = s.ple.callId ∧ t.ple.origin = s.ple.origin ∧
         t.ple.handsetLifted = s.ple.handsetLifted ∧ t.ple.reachedTalking = s.ple.reachedTalking ∧
         t.ple.talkRoute = s.ple.talkRoute ∧ t.ple.talkSeconds = s.ple.talkSeconds ∧ t.cpi.lamp = .slow ∧
         t.nwt = s.nwt ∧ t.adv = s.adv ∧ t.svc = s.svc ∧ t.tkm = s.tkm) ∧
     (s.ple.state = .talking → s.ple.trunk.isSome = true → s.ple.resumptions = 5 → ∀ reason, reason ≠ .farCleared →
       ∃ t, exec (.cprg h callId (.failed reason) ms) s = .next t ∧
         t.nbt = (s.nbt.map fun e =>
           if e.addr = h.src then { e with quality := e.quality.report now .failure } else e) ∧
         s.ClosesCall t now .lost ∧ t.lnc = (s.frameHeard ms).lnc ∧ t.slc = s.slc ∧ t.cye = s.cye ∧
         t.nwt = s.nwt ∧ t.adv = s.adv ∧ t.tkm = s.tkm) ∧
     (s.ple.trunk = none → ∀ stage, exec (.cprg h callId stage ms) s = .next (s.frameHeard ms))) ∧
  (∀ (s : State) (h : Header) (callId ms : Nat) (code : Option Nat) (reason : CprgReason), s.Hears h →
     s.own = some h.dst → s.ple.route = some ⟨.box h.src, code⟩ → s.ple.callId = callId →
     s.ple.state = .relaying ∨ s.ple.state = .ringing → s.ple.trunk.isSome = true →
     let now := (s.frameHeard ms).clock.now
     ∃ t, exec (.cprg h callId (.failed reason) ms) s = .next t ∧
       t.nbt = (s.nbt.map fun e =>
         if e.addr = h.src ∧ reason ≠ .busy ∧ reason ≠ .noTrunk ∧ reason ≠ .barred then
           { e with quality := e.quality.report now .failure }
         else e) ∧
       State.EndsAttempt ((s.frameHeard ms).withNbt t.nbt) t now ∧
       (s.AllTried →
         t.ple = { s.ple with
           state := .waiting, trunk := none, answerTimer := none, holdRefresh := none, carrierSilence := none,
           ringLimit := none, pauseTimer := some (now + s.ple.pauseLength * 1000) } ∧
         t.lnc = (s.frameHeard ms).lnc ∧ t.slc = s.slc) ∧
       t.nwt = s.nwt ∧ t.cye = s.cye ∧ t.tkm = s.tkm ∧ t.svc = s.svc) ∧
  (∀ (s : State) (h : Header) (callId ms : Nat) (stage : CprgStage), s.Hears h →
     s.own ≠ some h.dst ∨ s.ple.relayCarrier ≠ some h.src ∨ s.ple.callId ≠ callId ∨ s.ple.trunk = none →
     exec (.cprg h callId stage ms) s = .next (s.frameHeard ms)) ∧
  (∀ (s : State) (h : Header) (callId ms : Nat) (stage : CprgStage), s.Hears h → s.own = some h.dst →
     s.ple.relayCarrier = some h.src → s.ple.callId = callId → s.ple.trunk.isSome = true →
     stage = .ringing ∧ (s.ple.state = .ringing ∨ s.ple.state = .talking) ∨ stage = .talking ∧ s.ple.state = .talking →
     exec (.cprg h callId stage ms) s = .next ((s.frameHeard ms).withPle
       { s.ple with carrierSilence := some ((s.frameHeard ms).clock.now + 8000) }))

/-- R21, R127: a TMOV of the carrier moves the attempt to the new trunk, with a THLD at once, or restarts the silence
timer alone where it names the trunk in use; any other TMOV for this box leaves the attempt. R119, R122: the map takes
it whatever its entry is, a claim or a settled entry of this box too, and the old trunk's entry stands. The order of PLE
and the trunk map is a free value (log 6). -/
def Obligations.TrunkMoveMovesTheAttempt : Prop :=
  (∀ (s : State) (h : Header) (callId old ms : Nat) (tr : Trunk), s.Hears h → s.own = some h.dst → h.src ≠ 63 →
    (∀ id g b x, s.trunk tr ≠ .claiming id g b x) → (∀ id x, s.trunk tr ≠ .owned id x) →
    s.ple.relayCarrier = some h.src → s.ple.callId = callId → s.ple.trunk.isSome = true →
    let u := s.frameHeard ms
    let now := u.clock.now
    ∃ t, exec (.tmov h callId old (trunkNum tr) ms) s = .next t ∧
      t.ple = { s.ple with trunk := some tr, carrierSilence := some (now + 8000) } ∧
      t.lnc = (if s.ple.trunk = some tr then u.lnc
        else (u.hand 0 (.thld (trunkNum tr) h.src h.dst callId)).lnc) ∧
      t.xpt = (if s.ple.trunk = some tr then s.xpt else (u.xptJoin .localCall .handset (.trunk tr)).xpt) ∧
      t.trunk tr = .held h.src (now + 8000) ∧ (∀ v, v ≠ tr → t.trunk v = s.trunk v) ∧ t.slc = s.slc ∧ t.cye = s.cye) ∧
  ∀ (s : State) (h : Header) (callId old ms : Nat) (tr : Trunk), s.Hears h → s.own = some h.dst → h.src ≠ 63 →
    (∀ id, (s.trunk tr).owner = some id → ∃ c ∈ s.cye, c.id = id) →
    let u := s.frameHeard ms
    let now := u.clock.now
    let lost : Prop := ∃ id g b x, s.trunk tr = .claiming id g b x ∧ h.src < h.dst
    let map := s.announcementFrame tr h.src
    let hold : TxFrame := ⟨0, .thld (trunkNum tr) h.src h.dst callId⟩
    ∃ t, exec (.tmov h callId old (trunkNum tr) ms) s = .next t ∧ s.MapTakesAnnouncement t now tr h.src ∧
      t.nbt = s.nbt ∧ t.cfg = s.cfg ∧ (¬ lost → t.slc = s.slc ∧ t.cye = s.cye ∧ t.cpi = s.cpi ∧ t.svc = s.svc) ∧
      (s.ple.relayCarrier = some h.src → s.ple.callId = callId →
        (s.ple.trunk = some tr → t.ple = { s.ple with carrierSilence := some (now + 8000) } ∧
          t.lnc = (u.handAll [map]).lnc ∧ (¬ lost → t.xpt = s.xpt)) ∧
        (∀ was, s.ple.trunk = some was → was ≠ tr →
          t.ple = { s.ple with trunk := some tr, carrierSilence := some (now + 8000) } ∧
          (t.lnc = (u.handAll [some hold, map]).lnc ∨ t.lnc = (u.handAll [map, some hold]).lnc) ∧
          (¬ lost → t.xpt = (u.xptJoin .localCall .handset (.trunk tr)).xpt))) ∧
      (s.ple.relayCarrier ≠ some h.src ∨ s.ple.callId ≠ callId ∨ s.ple.trunk = none →
        t.ple = s.ple ∧ t.lnc = (u.handAll [map]).lnc ∧ (¬ lost → t.xpt = s.xpt))

/-! ### The trunk map -/

/-- R118 to R121, R22, R103: what the map makes of the frames of other boxes on a FREE or HELD entry: CACK, TMOV and
THLD hold it by the box they name, a TFRE of its holder frees it, and a frame the map ignores leaves every entry: one of
source 63, one with a trunk field outside 1..4, a THLD with its holder or partner outside 1..62 or naming this box as
holder. -/
def Obligations.HeardTrunkFramesHoldAndFree : Prop :=
  ∀ (s : State) (h : Header) (ms callId old : Nat) (tr : Trunk), s.Hears h →
    let u := s.frameHeard ms
    let now := u.clock.now
    (s.own ≠ some h.dst → h.src ≠ 63 → s.trunk tr = .free ∨ (∃ b x, s.trunk tr = .held b x) →
      exec (.cack h callId (trunkNum tr) ms) s = .next (u.setTrunk tr (.held h.src (now + 8000))) ∧
      exec (.tmov h callId old (trunkNum tr) ms) s = .next (u.setTrunk tr (.held h.src (now + 8000)))) ∧
    (∀ holder partner, h.src ≠ 63 → 1 ≤ holder → holder ≤ 62 → 1 ≤ partner → partner ≤ 62 → s.own ≠ some holder →
      s.ple.trunk = none → s.trunk tr = .free ∨ (∃ b x, s.trunk tr = .held b x) →
      exec (.thld h (trunkNum tr) holder partner callId ms) s = .next (u.setTrunk tr (.held holder (now + 8000)))) ∧
    (∀ x, h.src ≠ 63 → s.trunk tr = .held h.src x →
      exec (.tfre h (trunkNum tr) ms) s = .next (u.setTrunk tr .free)) ∧
    (h.src = 63 ∨ (∀ x, s.trunk tr ≠ .held h.src x) → exec (.tfre h (trunkNum tr) ms) s = .next u) ∧
    (∀ holder partner, s.own = some holder →
      ∃ t, exec (.thld h (trunkNum tr) holder partner callId ms) s = .next t ∧ t.tkm = s.tkm ∧
        t.cye = (s.cye.map fun c =>
          if c.id = ⟨h.src, callId⟩ then { c with silence := some (now + 8000) } else c) ∧
        t.slc = s.slc ∧ t.nwt = s.nwt ∧ t.lnc = u.lnc) ∧
    (∀ holder partner, s.ple.relayCarrier = some holder → s.ple.trunk = some tr → s.ple.carrierSilence.isSome = true →
      s.trunk tr = .free ∨ (∃ b x, s.trunk tr = .held b x) → s.own ≠ some holder →
      ∃ t, exec (.thld h (trunkNum tr) holder partner callId ms) s = .next t ∧
        t.ple = { s.ple with carrierSilence := some (now + 8000) } ∧ t.lnc = u.lnc ∧ t.cye = s.cye) ∧
    (∀ field holder partner, h.src = 63 ∨ field = 0 ∨ 4 < field →
      ∀ k ∈ [Instr.cack h callId field ms, .tmov h callId old field ms, .thld h field holder partner callId ms,
        .tfre h field ms],
      ∃ t, exec k s = .next t ∧ t.tkm = s.tkm ∧ t.slc = s.slc ∧ t.nwt = s.nwt ∧ t.nbt = s.nbt ∧ t.svc = s.svc) ∧
    (∀ field holder partner, holder = 0 ∨ 62 < holder ∨ partner = 0 ∨ 62 < partner →
      ∃ t, exec (.thld h field holder partner callId ms) s = .next t ∧ t.tkm = s.tkm ∧ t.slc = s.slc ∧ t.nwt = s.nwt ∧
        t.nbt = s.nbt ∧ t.svc = s.svc) ∧
    (∀ field, field = 0 ∨ 4 < field →
      ∀ k ∈ [Instr.cack h callId field ms, .tmov h callId old field ms, .tfre h field ms], exec k s = .next u)

/-- R119, R122, R123, R124, R125, R106: conflicts over a trunk this box holds, by a CACK, a TMOV or a THLD: the lower
address wins between claims, an OWNED entry is kept with a THLD at once, and a trunk lost to another box is recorded
HELD while the record moves to the lowest free one with TMOV, a join already made moving with it. R123, R124: a THLD
takes a claim's trunk where its holder is not in the beaten list, whatever its address, and an OWNED trunk where its
holder is lower. R107, R126: a box that loses a trunk with no entry free ends the carry as NO_TRUNK and sends no TFRE.
R70, R75: its slot, where it is in the call, has DROP sent and is CLEARING. -/
def Obligations.TrunkConflictsAreSettledByTheRules : Prop :=
  (∀ (s : State) (h : Header) (ms callId old g x own : Nat) (b : List Nat) (tr : Trunk) (id : CarryId), s.Hears h →
     s.own = some own → own ≠ h.dst → h.src ≠ 63 →
     let u := s.frameHeard ms
     let now := u.clock.now
     (∀ k ∈ [Instr.cack h callId (trunkNum tr) ms, .tmov h callId old (trunkNum tr) ms],
       (s.trunk tr = .claiming id g b x → own < h.src →
         exec k s = .next (u.setTrunk tr (.claiming id g (if h.src ∈ b then b else b ++ [h.src]) x))) ∧
       (s.trunk tr = .owned id x →
         exec k s = .next (u.hand 0 (.thld (trunkNum tr) own id.requester id.callId))) ∧
       (∀ (c : CarryRec) (v : Trunk), s.CarriesSound → c ∈ s.cye → c.id = id →
         s.trunk tr = .claiming id g b x → h.src < own → s.tkm.lowestFree = some v →
         ∃ t, exec k s = .next t ∧ t.trunk tr = .held h.src (now + 8000) ∧
           t.trunk v = .claiming id (now + 300) [] x ∧ (∀ w, w ≠ tr → w ≠ v → t.trunk w = s.trunk w) ∧
           t.lnc = (u.hand id.requester (.tmov id.callId (trunkNum tr) (trunkNum v))).lnc ∧
           t.cye = (s.cye.map fun d => if d.id = id then { d with trunk := v } else d) ∧ t.slc = s.slc ∧
           t.xpt = (if c.state = .queued then s.xpt else (u.xptJoin (.carry id) (.slot c.slot) (.trunk v)).xpt) ∧
           t.svc = s.svc ∧ t.ple = s.ple)) ∧
     (∀ holder partner, 1 ≤ holder → holder ≤ 62 → 1 ≤ partner → partner ≤ 62 → holder ≠ own → s.ple.trunk = none →
       (s.trunk tr = .claiming id g b x → holder ∈ b →
         exec (.thld h (trunkNum tr) holder partner callId ms) s = .next u) ∧
       (s.trunk tr = .owned id x → own < holder →
         exec (.thld h (trunkNum tr) holder partner callId ms) s =
           .next (u.hand 0 (.thld (trunkNum tr) own id.requester id.callId))))) ∧
  (∀ (s : State) (h : Header) (ms callId g x own holder partner : Nat) (b : List Nat) (tr : Trunk) (c : CarryRec),
     s.Hears h → s.own = some own → h.src ≠ 63 → s.CarriesSound → c ∈ s.cye →
     s.trunk tr = .claiming c.id g b x ∧ holder ∉ b ∨ s.trunk tr = .owned c.id x ∧ holder < own →
     1 ≤ holder → holder ≤ 62 → holder ≠ own → 1 ≤ partner → partner ≤ 62 → s.ple.trunk = none →
     let u := s.frameHeard ms
     let now := u.clock.now
     (s.tkm.lowestFree = none →
       ∃ t, exec (.thld h (trunkNum tr) holder partner callId ms) s = .next t ∧
         t.trunk tr = .held holder (now + 8000) ∧ (∀ v, v ≠ tr → t.trunk v = s.trunk v) ∧
         t.lnc = (u.hand c.id.requester (.cprg c.id.callId (.failed .noTrunk))).lnc ∧
         t.cye.map CarryRec.id = ((s.cye.map CarryRec.id).filter fun i => i != c.id) ∧
         (∃ r : LogRecord, t.svc.log = (r :: s.svc.log).take 32 ∧ r.kind = .carried ∧ r.callId = c.id.callId ∧
           r.outcome = .failed .noTrunk) ∧
         s.GivesUpSlot t now c ∧ t.nwt = s.nwt ∧ t.ple = s.ple) ∧
     ∀ v, s.tkm.lowestFree = some v →
       ∃ t, exec (.thld h (trunkNum tr) holder partner callId ms) s = .next t ∧
         t.trunk tr = .held holder (now + 8000) ∧ t.trunk v = .claiming c.id (now + 300) [] x ∧
         (∀ w, w ≠ tr → w ≠ v → t.trunk w = s.trunk w) ∧
         t.lnc = (u.hand c.id.requester (.tmov c.id.callId (trunkNum tr) (trunkNum v))).lnc ∧
         t.cye = (s.cye.map fun d => if d.id = c.id then { d with trunk := v } else d) ∧ t.slc = s.slc ∧
         t.xpt = (if c.state = .queued then s.xpt else (u.xptJoin (.carry c.id) (.slot c.slot) (.trunk v)).xpt) ∧
         t.svc = s.svc ∧ t.ple = s.ple ∧ t.nwt = s.nwt) ∧
  ∀ (s : State) (h : Header) (ms callId old g x own : Nat) (b : List Nat) (tr : Trunk) (c : CarryRec), s.Hears h →
    s.own = some own → h.src ≠ 63 → s.CarriesSound → c ∈ s.cye → s.trunk tr = .claiming c.id g b x → h.src < own →
    s.tkm.lowestFree = none →
    let u := s.frameHeard ms
    ∀ k ∈ [Instr.cack h callId (trunkNum tr) ms, .tmov h callId old (trunkNum tr) ms],
    ∃ t, exec k s = .next t ∧ t.trunk tr = .held h.src (u.clock.now + 8000) ∧ (∀ v, v ≠ tr → t.trunk v = s.trunk v) ∧
      t.cye.map CarryRec.id = ((s.cye.map CarryRec.id).filter fun i => i != c.id) ∧
      (∃ r : LogRecord, t.svc.log = (r :: s.svc.log).take 32 ∧ r.kind = .carried ∧ r.callId = c.id.callId ∧
        r.outcome = .failed .noTrunk) ∧
      s.GivesUpSlot t u.clock.now c ∧ t.nwt = s.nwt ∧
      (own ≠ h.dst → t.lnc = (u.hand c.id.requester (.cprg c.id.callId (.failed .noTrunk))).lnc ∧ t.ple = s.ple)

/-- R115, R116, R120: the guard's end settles a claim, the hold refresh sends THLD and starts again, and a HELD entry
that no frame refreshes is FREE. -/
def Obligations.TrunkTimersSettleRefreshAndFree : Prop :=
  (∀ (s : State) (t : Trunk) (id : CarryId) (at_ x : Nat) (b : List Nat), s.trunk t = .claiming id at_ b x →
    at_ < s.clock.second + 1000 →
    exec (.guardTimerExpiry t) s = .next ((s.advanceTo at_).setTrunk t (.owned id x))) ∧
  (∀ (s : State) (t : Trunk) (id : CarryId) (at_ : Nat), s.TrunksAgree → s.QueueSound →
    (s.trunk t).owner = some id → s.Due (s.trunk t).refresh at_ →
    exec (.holdRefresh id) s = .next (((s.advanceTo at_).hand 0
      (.thld (trunkNum t) s.ownNum id.requester id.callId)).setTrunk t (match s.trunk t with
        | .claiming id g b _ => .claiming id g b (max s.clock.now at_ + 2000)
        | .owned id _ => .owned id (max s.clock.now at_ + 2000)
        | e => e))) ∧
  ∀ (s : State) (t : Trunk) (holder at_ : Nat), s.trunk t = .held holder at_ → at_ < s.clock.second + 1000 →
    exec (.holdTimerExpiry t) s = .next ((s.advanceTo at_).setTrunk t .free)

/-! ### Adverts -/

/-- R135, R136, R137, R45: a REACH makes an entry in a free place, NEW with a fresh counter, and updates the entry of a
known source, whose state moves with the sequence; a source of the tool or an ignored one changes nothing. In a full
table a new source takes the place of the oldest STALE entry, else of the oldest NEW one, the lower address at equal
ages; where every entry is USABLE it changes nothing. R135: a payload whose item count is above 4, or does not agree
with its length, changes nothing; of one that fits, a capacity above 3 is taken as 3, a supply flag other than OK or LOW
as CRITICAL, a level above 31 as 31, a q above 15 as 15, an item of a code outside 10000..999999 is dropped, and one of
a type that is none of the four is kept, with no type (log 25). -/
def Obligations.ReachMakesAndUpdatesItsNeighbour : Prop :=
  (∀ (s : State) (h : Header) (payload : List Byte) (ms : Nat), s.Hears h →
     payload.length < 4 ∨ (∃ n ∈ payload[3]?, 4 < n.toNat ∨ payload.length ≠ 4 + 6 * n.toNat) →
     exec (.reach h payload ms) s = .next (s.frameHeard ms)) ∧
  (∀ (s : State) (h : Header) (seq capacity flags : Byte) (items : List RawItem) (ms : Nat), s.Hears h →
     items.length ≤ 4 → (∀ i ∈ items, i.code < 16777216) →
     exec (.reach h (seq :: capacity :: flags :: byteOf items.length :: items.flatMap RawItem.bytes) ms) s =
       exec (.reach h (reachPayload
         { seq := seq.toNat
           capacity := min 3 capacity.toNat
           supply := if flags.toNat % 4 = 0 then .ok else if flags.toNat % 4 = 1 then .low else .critical
           localCall := false
           items := (items.filter fun i => decide (10000 ≤ i.code ∧ i.code ≤ 999999)).map fun i =>
             { code := i.code
               radio := (match i.radio.toNat with
                 | 2 => some .g2
                 | 3 => some .g3
                 | 4 => some .g4
                 | 5 => some .g5
                 | _ => none)
               level := min 31 i.level.toNat
               q := min 15 i.q.toNat } }) ms) s) ∧
  ∀ (s : State) (h : Header) (r : ReachAdvert) (ms : Nat), s.Hears h → h.dst = 0 ∨ s.own = some h.dst → r.Fits →
    let u := s.frameHeard ms
    let action := filterAction s.cfg.record.filters h.src
    (h.src = 63 ∨ action = some .ignore → exec (.reach h (reachPayload r) ms) s = .next u) ∧
    (h.src ≠ 63 → action ≠ some .ignore → (∀ n ∈ s.nbt, n.addr ≠ h.src) → s.nbt.length < 16 →
      exec (.reach h (reachPayload r) ms) s = .next (u.withNbt (s.nbt ++
        [{ addr := h.src, state := .fresh, seq := r.seq, age := 0, capacity := r.capacity, supply := r.supply,
           items := r.items, quality := { value := 0, decay := none },
           action := if action = some .prefer then .prefer else .normal }]))) ∧
    (h.src ≠ 63 → action ≠ some .ignore → (∀ n ∈ s.nbt, n.addr ≠ h.src) → 16 ≤ s.nbt.length →
      (∀ d ∈ s.nbt, d.state = .stale ∨ d.state = .fresh ∧ (∀ n ∈ s.nbt, n.state ≠ .stale) →
        (∀ n ∈ s.nbt, n.state = d.state → n.addr ≠ d.addr → n.age < d.age ∨ n.age = d.age ∧ d.addr < n.addr) →
        exec (.reach h (reachPayload r) ms) s = .next (u.withNbt ((s.nbt.filter fun n => n.addr != d.addr) ++
          [{ addr := h.src, state := .fresh, seq := r.seq, age := 0, capacity := r.capacity, supply := r.supply,
             items := r.items, quality := { value := 0, decay := none },
             action := if action = some .prefer then .prefer else .normal }]))) ∧
      ((∀ n ∈ s.nbt, n.state = .usable) → exec (.reach h (reachPayload r) ms) s = .next u)) ∧
    (h.src ≠ 63 → action ≠ some .ignore → (∃ n ∈ s.nbt, n.addr = h.src) →
      exec (.reach h (reachPayload r) ms) s = .next (u.withNbt (s.nbt.map fun n =>
        if n.addr = h.src then
          { n with
            state := (if n.state = .usable ∨ n.state = .fresh ∧ r.seq = (n.seq + 1) % 256 then .usable else .fresh)
            seq := r.seq, age := 0, capacity := r.capacity, supply := r.supply, items := r.items }
        else n)))

/-- R129, R131, R132, R133: an advert timer, a start wait and a spacing end that finds an early advert due build a
REACH: the sequence advances, the periodic timer starts with a fresh draw, and the frame is handed to all boxes; a
spacing end that finds none due clears the mark alone. R132, R61: an event of a table, here a BEAT or a second's ageing,
that makes an early advert due has the REACH built at once where 5 s have passed since the last build and marks it
otherwise; one that does not leaves the advert generator and the line. The early advert is tried inside the step that
makes it due (log 12). R130: what the items are: of distinct codes and at most four, each of an eligible entry that is
kept for its network, in the order of own score, counter and code, none left out for a later one. R111: what the
capacity is, case by case. An entry is eligible from the second at which the uptime reaches its barred-until (log 32).
-/
def Obligations.AdvertTimersBuildAReach : Prop :=
  (∀ (s : State) (at_ : Nat) (c : Instr),
    (c = .advertTimerExpiry ∧ s.adv.timer = .periodic at_ ∧ at_ < s.clock.second + 1000) ∨
    (c = .startWaitExpiry ∧ s.adv.timer = .startWait at_ ∧ at_ < s.clock.second + 1000) ∨
    (c = .earlyAdvertSpacingEnd ∧ s.adv.early = true ∧ (∃ b, s.adv.lastBuild = some b ∧ b + 5000 = at_) ∧
      at_ < s.clock.second + 1000 ∧ s.own ≠ none ∧ s.EarlyAdvertDue (advertItems s)) →
    let now := max s.clock.now at_
    let r := rngStep s.lnc.rng
    ∃ t, exec c s = .next t ∧
      t.adv = { seq := (s.adv.seq + 1) % 256
                timer := .periodic (now + s.cfg.record.advertInterval * 1000 + r.toNat % 31 * 100)
                lastBuild := some now
                lastBest := (match advertItems s with
                  | i :: _ => .item i.code i.level
                  | [] => .noItem)
                early := false } ∧
      t.lnc = (((s.advanceTo at_).withLnc { s.lnc with rng := r }).hand 0 (.reach (reachPayload
        { seq := s.adv.seq, capacity := s.capacity, supply := s.spm.supply, localCall := s.ple.state != .idle,
          items := advertItems s }))).lnc ∧
      t.ple = s.ple ∧ t.slc = s.slc ∧ t.nwt = s.nwt ∧ t.nbt = s.nbt ∧ t.cye = s.cye ∧ t.tkm = s.tkm) ∧
  (∀ (s : State) (b : Nat), s.adv.early = true → s.adv.lastBuild = some b → b + 5000 < s.clock.second + 1000 →
    ¬ s.EarlyAdvertDue (advertItems s) →
    exec .earlyAdvertSpacingEnd s = .next ((s.advanceTo (b + 5000)).withAdv { s.adv with early := false })) ∧
  (∀ (s : State) (sl : Slot) (code ms now : Nat) (level : Option Nat) (c : Instr), s.phase = .running → s.own ≠ none →
    (c = .beat sl (some code) level ms ∧ isPastWarmUp (s.slot sl).state = true ∧ now = (s.arrive ms).clock.now) ∨
    (c = .uptimeTick ∧ now = s.clock.second + 1000) →
    let r := rngStep s.lnc.rng
    ∃ t, exec c s = .next t ∧
      (¬ s.EarlyAdvertDue (advertItems t) → t.adv = s.adv ∧ t.lnc = s.lnc) ∧
      (s.EarlyAdvertDue (advertItems t) → (∃ b, s.adv.lastBuild = some b ∧ now < b + 5000) →
        t.adv = { s.adv with early := true } ∧ t.lnc = s.lnc) ∧
      (s.EarlyAdvertDue (advertItems t) → (∀ b, s.adv.lastBuild = some b → b + 5000 ≤ now) →
        t.adv = { seq := (s.adv.seq + 1) % 256
                  timer := .periodic (now + s.cfg.record.advertInterval * 1000 + r.toNat % 31 * 100)
                  lastBuild := some now
                  lastBest := (match advertItems t with
                    | i :: _ => .item i.code i.level
                    | [] => .noItem)
                  early := false } ∧
        t.lnc = (((s.withClock { s.clock with now := now }).withLnc { s.lnc with rng := r }).hand 0 (.reach (reachPayload
          { seq := s.adv.seq, capacity := s.capacity, supply := s.spm.supply, localCall := s.ple.state != .idle,
            items := advertItems t }))).lnc)) ∧
  (∀ s : State, s.NetworksSound →
     ∃ es : List NetEntry, advertItems s = (es.map fun e =>
         { code := e.code, radio := some e.radio, level := e.level.getD 8, q := e.quality.value }) ∧
       es.length ≤ 4 ∧ (es.map NetEntry.code).Nodup ∧ (∀ e ∈ es, ∃ sl, s.Keeps sl e) ∧
       es.Pairwise NetEntry.AdvertisedBefore ∧
       ∀ sl, ∀ e ∈ s.table sl, s.Keeps sl e → e ∈ es ∨ es.length = 4 ∧ ∀ d ∈ es, d.AdvertisedBefore e) ∧
  ∀ s : State, s.cye.length ≤ 3 →
    let out : Prop := ∀ sl, (s.slot sl).state = .absent ∨ (s.slot sl).state = .disabled
    (s.cfg.record.carrying = false ∨ s.spm.supply = .critical ∨ out → s.capacity = 0) ∧
    (s.cfg.record.carrying = true → s.spm.supply = .low → ¬ out → s.capacity = min 1 (3 - s.cye.length)) ∧
    (s.cfg.record.carrying = true → s.spm.supply = .ok → ¬ out → s.capacity = 3 - s.cye.length)

/-! ### The corridor line -/

/-- R142, R149, R150, R151, R153: the line idle time runs from the last byte heard, of this box or of another (log 24;
in one millisecond a byte comes before what else happens, log 10). From GAP to SENDING as it reaches 2 ms, each byte of
another box putting that off, the first byte making the line active; a GAP_END before that changes nothing; a
transmitter that takes a frame, or whose backoff ends, on a line that has been idle for 2 ms sends at once. A frame sent
whole leaves the line and the transmitter takes the next; a collision backs off by a draw, and the eighth drops the
frame with no draw. The trace of frames sent is the model's own (log 11), the collision count goes to 0 as a frame
is sent whole (log 40), and a frame that an engine reset marked is dropped at its end or next collision (log 30). -/
def Obligations.TransmitterSendsAndBacksOff : Prop :=
  (∀ (s : State) (b : Nat), s.IsLastByte s.clock.now b →
    s.lineIdle = if s.lnc.tx = .sending then 0 else s.clock.now - b) ∧
  (∀ (s : State) (b : Nat), s.lnc.tx = .gap → s.QuietFollows b → (∀ y, s.QuietFollows y → b ≤ y) →
    b + 2 < s.clock.second + 1000 →
    exec .gapEnd s = .next ((s.advanceTo (b + 2)).withLnc
      { s.lnc with tx := .sending, lastActive := max s.clock.now (b + 2) })) ∧
  (∀ s : State, s.lnc.tx ≠ .gap ∨ (∀ b, s.QuietFollows b → s.clock.second + 1000 ≤ b + 2) →
    exec .gapEnd s = .next s) ∧
  (∀ (s : State) (d : Nat) (f : Body), s.own ≠ none → s.lnc.tx = .idle → s.lnc.queue = [] →
    (⟨d, f⟩ : TxFrame).frameClass ≠ .unsent →
    (s.hand d f).lnc = { s.lnc with
      inHand := some ⟨d, f⟩, collisions := 0, turn := 0
      tx := if 2 ≤ s.lineIdle then .sending else .gap
      lastActive := if 2 ≤ s.lineIdle then s.clock.now else s.lnc.lastActive }) ∧
  (∀ (s : State) (ms : Nat) (f : TxFrame), s.phase = .running → s.lnc.tx = .sending → s.lnc.inHand = some f →
    ∃ t, exec (.frameSent ms) s = .next t ∧
      t.lnc = Lnc.takeFrame { s.lnc with
        tx := .idle, inHand := none, collisions := 0, dropAfter := false, lastActive := (s.arrive ms).clock.now,
        sent := s.lnc.sent ++ [encodeFrame { seg := s.cfg.record.segment, dst := f.dst, src := s.ownNum } f.body] } ∧
      t.ple = s.ple ∧ t.adv = s.adv ∧ t.cye = s.cye ∧ t.tkm = s.tkm) ∧
  (∀ (s : State) (ms : Nat), s.phase = .running → s.lnc.tx = .sending → s.lnc.dropAfter = false → s.lnc.collisions < 7 →
    let now := (s.arrive ms).clock.now
    let n := s.lnc.collisions + 1
    let r := rngStep s.lnc.rng
    let wait := r.toNat % 2 ^ min n 5 * 4
    exec (.collision ms) s = .next ((s.arrive ms).withLnc { s.lnc with
      lastActive := now, rng := r, collisions := n, tx := if wait = 0 then .gap else .backoff,
      backoff := if wait = 0 then none else some (now + wait) })) ∧
  (∀ (s : State) (ms : Nat), s.phase = .running → s.lnc.tx = .sending →
    s.lnc.collisions = 7 ∨ s.lnc.dropAfter = true →
    exec (.collision ms) s = .next ((s.arrive ms).withLnc (Lnc.takeFrame { s.lnc with
      lastActive := (s.arrive ms).clock.now, tx := .idle, inHand := none, collisions := 0, dropAfter := false }))) ∧
  ∀ (s : State) (at_ : Nat), s.Due s.lnc.backoff at_ →
    let now := max s.clock.now at_
    ∀ b, s.IsLastByte now b → exec .backoffTimerExpiry s = .next ((s.advanceTo at_).withLnc { s.lnc with
      tx := if b + 2 ≤ now then .sending else .gap, backoff := none
      lastActive := if b + 2 ≤ now then now else s.lnc.lastActive })

/-- R154, R155, R156: a damaged frame, of a length that does not fit or with wrong check bytes, raises the line error
count, one under this box's address sets the clash flag, and one of another segment or that cannot be read changes
nothing. -/
def Obligations.DroppedFramesCountOrFlag : Prop :=
  ∀ (s : State) (bytes : List Byte) (ms : Nat), s.phase = .running →
    let u := s.frameHeard ms
    (bytes.length < 7 ∨ (∃ n ∈ bytes[4]?, 40 < n.toNat ∨ bytes.length ≠ 7 + n.toNat) →
      exec (.receivedFrameDropped bytes ms) s =
        .next (u.withLnc { u.lnc with errors := min 65535 (s.lnc.errors + 1) })) ∧
    (∀ (h : Header) (k : Nat) (p x : List Byte), p.length ≤ 40 → x.length = 2 → x ≠ checkBytes (frameBytes h k p) →
      bytes = frameBytes h k p ++ x → exec (.receivedFrameDropped bytes ms) s =
        .next (u.withLnc { u.lnc with errors := min 65535 (s.lnc.errors + 1) })) ∧
    (∀ (h : Header) (k : Nat) (p : List Byte), h.wf = true → p.length ≤ 40 →
      bytes = frameBytes h k p ++ checkBytes (frameBytes h k p) →
      (h.seg ≠ s.cfg.record.segment → exec (.receivedFrameDropped bytes ms) s = .next u) ∧
      (h.seg = s.cfg.record.segment → s.own = some h.src →
        exec (.receivedFrameDropped bytes ms) s = .next (u.withLnc { u.lnc with clash := true })) ∧
      (h.seg = s.cfg.record.segment → s.own ≠ some h.src → parseBody (k % 256) p = none →
        exec (.receivedFrameDropped bytes ms) s = .next u))

/-! ### The service tool -/

/-- R146, R158, R185, R186: SQRY and LQRY of the tool are answered from the state as it stands; an index above 31 and
a frame that is not the tool's or not for this box are not answered. -/
def Obligations.ToolQueriesAreAnsweredFromTheState : Prop :=
  ∀ (s : State) (h : Header) (ms index : Nat), s.Hears h →
    let u := s.frameHeard ms
    let heard : Prop := h.src = 63 ∧ s.own ≠ none ∧ (h.dst = 0 ∨ s.own = some h.dst)
    let flag (b : Bool) (k : Nat) : Nat := if b then k else 0
    (heard → exec (.sqry h ms) s = .next (u.hand 63 (.srep
      ([byteOf (flag (s.cfg.load == .defaulted) 2 + flag s.lnc.clash 4), byteOf s.spm.level,
        byteOf (supplyCode s.spm.supply), byteOf (slotStateCode s.slc.a.state), byteOf (slotStateCode s.slc.b.state),
        byteOf s.slc.a.faultTimes.length, byteOf s.slc.b.faultTimes.length, byteOf (callStateCode s.ple.state),
        byteOf s.cye.length, byteOf (trunkStateCode s.tkm.t1), byteOf (trunkStateCode s.tkm.t2),
        byteOf (trunkStateCode s.tkm.t3), byteOf (trunkStateCode s.tkm.t4),
        byteOf (s.nbt.countP fun n => n.state == .usable)] ++
        bytes2 s.lnc.errors ++ [byteOf s.svc.log.length] ++ bytes4 s.cfg.uptime)))) ∧
    (heard → index ≤ 31 →
      (∀ r, s.svc.log[index]? = some r → exec (.lqry h index ms) s = .next (u.hand 63 (.lrep
        ([byteOf index, 0, byteOf r.callId, byteOf (logKindCode r.kind), byteOf (partnerCode r.partner)] ++
          bytes3 (r.code.getD 0) ++
          [byteOf r.rounds, byteOf r.attempts, byteOf (logOutcomeCode r.outcome), byteOf (logReasonCode r.outcome)] ++
          bytes2 r.talkSeconds ++ bytes4 r.endUptime)))) ∧
      (s.svc.log.length ≤ index → exec (.lqry h index ms) s = .next (u.hand 63 (.lrep
        (byteOf index :: 1 :: List.replicate 16 0))))) ∧
    (¬ heard → exec (.sqry h ms) s = .next u ∧ exec (.lqry h index ms) s = .next u ∧ exec (.erst h ms) s = .next u) ∧
    (31 < index → exec (.lqry h index ms) s = .next u)

/-- R187, R188, R63: an ERST of the tool is refused while a call or a carry is in hand, and otherwise resets the
engines and their tables, keeps what the box learnt of itself and its line, and is answered with the status report of
the state it leaves. A frame being sent at the reset is marked to be dropped (log 30). Origin and limit start of the
IDLE record are the model's (logs 4, 27). -/
def Obligations.EngineResetIsRefusedOrPerformed : Prop :=
  ∀ (s : State) (h : Header) (ms : Nat), s.Hears h → h.src = 63 → s.own ≠ none → h.dst = 0 ∨ s.own = some h.dst →
    let u := s.frameHeard ms
    (s.ple.state ≠ .idle ∨ s.cye ≠ [] → exec (.erst h ms) s = .next (u.hand 63 (.srep (u.statusReport true)))) ∧
    (s.ple.state = .idle → s.cye = [] → ∃ t, exec (.erst h ms) s = .next t ∧
      t.ple = State.reset.ple ∧ t.cye = [] ∧ t.rsl = [] ∧ t.nwt = State.reset.nwt ∧ t.nbt = [] ∧
      t.tkm = State.reset.tkm ∧ t.xpt = State.reset.xpt ∧ t.spm = s.spm ∧ t.cfg = s.cfg ∧ t.svc = s.svc ∧
      t.adv = { State.reset.adv with seq := s.adv.seq, timer := .startWait (u.clock.now + 45000) } ∧
      (∀ sl, (s.slot sl).state ≠ .absent → (t.slot sl).state = .off ∧ (t.slot sl).power = false ∧
        (t.slot sl).faultTimes = [] ∧ (t.slot sl).restartTimer = some (u.clock.now + 2000) ∧
        (t.slot sl).scanTimer = none ∧ (t.slot sl).idleTimer = none ∧ (t.slot sl).heartbeat = none) ∧
      (∀ sl, (s.slot sl).state = .absent → t.slot sl = s.slot sl) ∧
      t.cpi.button = s.cpi.button ∧ t.cpi.hook = s.cpi.hook ∧ t.cpi.bell = .silent ∧ t.cpi.lamp = .off ∧
      t.cpi.fastFlash = none ∧ t.cpi.outLamp = (s.slc.a.state == .absent && s.slc.b.state == .absent) ∧
      t.lnc.errors = s.lnc.errors ∧ t.lnc.clash = s.lnc.clash ∧ t.lnc.rng = s.lnc.rng ∧
      (s.lnc.tx ≠ .sending →
        t.lnc.inHand = some ⟨63, .srep (t.statusReport false)⟩ ∧ t.lnc.queue = [] ∧ t.lnc.tx = .gap) ∧
      (s.lnc.tx = .sending → t.lnc.inHand = s.lnc.inHand ∧ t.lnc.dropAfter = true ∧
        t.lnc.queue = [⟨63, .srep (t.statusReport false)⟩]))
end

