-- ==== Sys2Proof/Laws/State.lean ====
section
/-! SUPPORT. One lemma per field per replaced block, and the reads of a slot, a table or a trunk after its write. -/

namespace Sys2Proof.Machine

variable (s : State)

/-! `withClock` -/

@[simp] theorem State.withClock_phase (x) : (s.withClock x).phase = s.phase := rfl
@[simp] theorem State.withClock_clock (x) : (s.withClock x).clock = x := rfl
@[simp] theorem State.withClock_cpi (x) : (s.withClock x).cpi = s.cpi := rfl
@[simp] theorem State.withClock_xpt (x) : (s.withClock x).xpt = s.xpt := rfl
@[simp] theorem State.withClock_slc (x) : (s.withClock x).slc = s.slc := rfl
@[simp] theorem State.withClock_nwt (x) : (s.withClock x).nwt = s.nwt := rfl
@[simp] theorem State.withClock_nbt (x) : (s.withClock x).nbt = s.nbt := rfl
@[simp] theorem State.withClock_adv (x) : (s.withClock x).adv = s.adv := rfl
@[simp] theorem State.withClock_rsl (x) : (s.withClock x).rsl = s.rsl := rfl
@[simp] theorem State.withClock_ple (x) : (s.withClock x).ple = s.ple := rfl
@[simp] theorem State.withClock_cye (x) : (s.withClock x).cye = s.cye := rfl
@[simp] theorem State.withClock_tkm (x) : (s.withClock x).tkm = s.tkm := rfl
@[simp] theorem State.withClock_lnc (x) : (s.withClock x).lnc = s.lnc := rfl
@[simp] theorem State.withClock_spm (x) : (s.withClock x).spm = s.spm := rfl
@[simp] theorem State.withClock_cfg (x) : (s.withClock x).cfg = s.cfg := rfl
@[simp] theorem State.withClock_svc (x) : (s.withClock x).svc = s.svc := rfl
@[simp] theorem State.withClock_choices (x) : (s.withClock x).choices = s.choices := rfl
@[simp] theorem State.withClock_pending (x) : (s.withClock x).pending = s.pending := rfl

/-! `withCpi` -/

@[simp] theorem State.withCpi_phase (x) : (s.withCpi x).phase = s.phase := rfl
@[simp] theorem State.withCpi_clock (x) : (s.withCpi x).clock = s.clock := rfl
@[simp] theorem State.withCpi_cpi (x) : (s.withCpi x).cpi = x := rfl
@[simp] theorem State.withCpi_xpt (x) : (s.withCpi x).xpt = s.xpt := rfl
@[simp] theorem State.withCpi_slc (x) : (s.withCpi x).slc = s.slc := rfl
@[simp] theorem State.withCpi_nwt (x) : (s.withCpi x).nwt = s.nwt := rfl
@[simp] theorem State.withCpi_nbt (x) : (s.withCpi x).nbt = s.nbt := rfl
@[simp] theorem State.withCpi_adv (x) : (s.withCpi x).adv = s.adv := rfl
@[simp] theorem State.withCpi_rsl (x) : (s.withCpi x).rsl = s.rsl := rfl
@[simp] theorem State.withCpi_ple (x) : (s.withCpi x).ple = s.ple := rfl
@[simp] theorem State.withCpi_cye (x) : (s.withCpi x).cye = s.cye := rfl
@[simp] theorem State.withCpi_tkm (x) : (s.withCpi x).tkm = s.tkm := rfl
@[simp] theorem State.withCpi_lnc (x) : (s.withCpi x).lnc = s.lnc := rfl
@[simp] theorem State.withCpi_spm (x) : (s.withCpi x).spm = s.spm := rfl
@[simp] theorem State.withCpi_cfg (x) : (s.withCpi x).cfg = s.cfg := rfl
@[simp] theorem State.withCpi_svc (x) : (s.withCpi x).svc = s.svc := rfl
@[simp] theorem State.withCpi_choices (x) : (s.withCpi x).choices = s.choices := rfl
@[simp] theorem State.withCpi_pending (x) : (s.withCpi x).pending = s.pending := rfl

/-! `withXpt` -/

@[simp] theorem State.withXpt_phase (x) : (s.withXpt x).phase = s.phase := rfl
@[simp] theorem State.withXpt_clock (x) : (s.withXpt x).clock = s.clock := rfl
@[simp] theorem State.withXpt_cpi (x) : (s.withXpt x).cpi = s.cpi := rfl
@[simp] theorem State.withXpt_xpt (x) : (s.withXpt x).xpt = x := rfl
@[simp] theorem State.withXpt_slc (x) : (s.withXpt x).slc = s.slc := rfl
@[simp] theorem State.withXpt_nwt (x) : (s.withXpt x).nwt = s.nwt := rfl
@[simp] theorem State.withXpt_nbt (x) : (s.withXpt x).nbt = s.nbt := rfl
@[simp] theorem State.withXpt_adv (x) : (s.withXpt x).adv = s.adv := rfl
@[simp] theorem State.withXpt_rsl (x) : (s.withXpt x).rsl = s.rsl := rfl
@[simp] theorem State.withXpt_ple (x) : (s.withXpt x).ple = s.ple := rfl
@[simp] theorem State.withXpt_cye (x) : (s.withXpt x).cye = s.cye := rfl
@[simp] theorem State.withXpt_tkm (x) : (s.withXpt x).tkm = s.tkm := rfl
@[simp] theorem State.withXpt_lnc (x) : (s.withXpt x).lnc = s.lnc := rfl
@[simp] theorem State.withXpt_spm (x) : (s.withXpt x).spm = s.spm := rfl
@[simp] theorem State.withXpt_cfg (x) : (s.withXpt x).cfg = s.cfg := rfl
@[simp] theorem State.withXpt_svc (x) : (s.withXpt x).svc = s.svc := rfl
@[simp] theorem State.withXpt_choices (x) : (s.withXpt x).choices = s.choices := rfl
@[simp] theorem State.withXpt_pending (x) : (s.withXpt x).pending = s.pending := rfl

/-! `withSlc` -/

@[simp] theorem State.withSlc_phase (x) : (s.withSlc x).phase = s.phase := rfl
@[simp] theorem State.withSlc_clock (x) : (s.withSlc x).clock = s.clock := rfl
@[simp] theorem State.withSlc_cpi (x) : (s.withSlc x).cpi = s.cpi := rfl
@[simp] theorem State.withSlc_xpt (x) : (s.withSlc x).xpt = s.xpt := rfl
@[simp] theorem State.withSlc_slc (x) : (s.withSlc x).slc = x := rfl
@[simp] theorem State.withSlc_nwt (x) : (s.withSlc x).nwt = s.nwt := rfl
@[simp] theorem State.withSlc_nbt (x) : (s.withSlc x).nbt = s.nbt := rfl
@[simp] theorem State.withSlc_adv (x) : (s.withSlc x).adv = s.adv := rfl
@[simp] theorem State.withSlc_rsl (x) : (s.withSlc x).rsl = s.rsl := rfl
@[simp] theorem State.withSlc_ple (x) : (s.withSlc x).ple = s.ple := rfl
@[simp] theorem State.withSlc_cye (x) : (s.withSlc x).cye = s.cye := rfl
@[simp] theorem State.withSlc_tkm (x) : (s.withSlc x).tkm = s.tkm := rfl
@[simp] theorem State.withSlc_lnc (x) : (s.withSlc x).lnc = s.lnc := rfl
@[simp] theorem State.withSlc_spm (x) : (s.withSlc x).spm = s.spm := rfl
@[simp] theorem State.withSlc_cfg (x) : (s.withSlc x).cfg = s.cfg := rfl
@[simp] theorem State.withSlc_svc (x) : (s.withSlc x).svc = s.svc := rfl
@[simp] theorem State.withSlc_choices (x) : (s.withSlc x).choices = s.choices := rfl
@[simp] theorem State.withSlc_pending (x) : (s.withSlc x).pending = s.pending := rfl

/-! `withNwt` -/

@[simp] theorem State.withNwt_phase (x) : (s.withNwt x).phase = s.phase := rfl
@[simp] theorem State.withNwt_clock (x) : (s.withNwt x).clock = s.clock := rfl
@[simp] theorem State.withNwt_cpi (x) : (s.withNwt x).cpi = s.cpi := rfl
@[simp] theorem State.withNwt_xpt (x) : (s.withNwt x).xpt = s.xpt := rfl
@[simp] theorem State.withNwt_slc (x) : (s.withNwt x).slc = s.slc := rfl
@[simp] theorem State.withNwt_nwt (x) : (s.withNwt x).nwt = x := rfl
@[simp] theorem State.withNwt_nbt (x) : (s.withNwt x).nbt = s.nbt := rfl
@[simp] theorem State.withNwt_adv (x) : (s.withNwt x).adv = s.adv := rfl
@[simp] theorem State.withNwt_rsl (x) : (s.withNwt x).rsl = s.rsl := rfl
@[simp] theorem State.withNwt_ple (x) : (s.withNwt x).ple = s.ple := rfl
@[simp] theorem State.withNwt_cye (x) : (s.withNwt x).cye = s.cye := rfl
@[simp] theorem State.withNwt_tkm (x) : (s.withNwt x).tkm = s.tkm := rfl
@[simp] theorem State.withNwt_lnc (x) : (s.withNwt x).lnc = s.lnc := rfl
@[simp] theorem State.withNwt_spm (x) : (s.withNwt x).spm = s.spm := rfl
@[simp] theorem State.withNwt_cfg (x) : (s.withNwt x).cfg = s.cfg := rfl
@[simp] theorem State.withNwt_svc (x) : (s.withNwt x).svc = s.svc := rfl
@[simp] theorem State.withNwt_choices (x) : (s.withNwt x).choices = s.choices := rfl
@[simp] theorem State.withNwt_pending (x) : (s.withNwt x).pending = s.pending := rfl

/-! `withNbt` -/

@[simp] theorem State.withNbt_phase (x) : (s.withNbt x).phase = s.phase := rfl
@[simp] theorem State.withNbt_clock (x) : (s.withNbt x).clock = s.clock := rfl
@[simp] theorem State.withNbt_cpi (x) : (s.withNbt x).cpi = s.cpi := rfl
@[simp] theorem State.withNbt_xpt (x) : (s.withNbt x).xpt = s.xpt := rfl
@[simp] theorem State.withNbt_slc (x) : (s.withNbt x).slc = s.slc := rfl
@[simp] theorem State.withNbt_nwt (x) : (s.withNbt x).nwt = s.nwt := rfl
@[simp] theorem State.withNbt_nbt (x) : (s.withNbt x).nbt = x := rfl
@[simp] theorem State.withNbt_adv (x) : (s.withNbt x).adv = s.adv := rfl
@[simp] theorem State.withNbt_rsl (x) : (s.withNbt x).rsl = s.rsl := rfl
@[simp] theorem State.withNbt_ple (x) : (s.withNbt x).ple = s.ple := rfl
@[simp] theorem State.withNbt_cye (x) : (s.withNbt x).cye = s.cye := rfl
@[simp] theorem State.withNbt_tkm (x) : (s.withNbt x).tkm = s.tkm := rfl
@[simp] theorem State.withNbt_lnc (x) : (s.withNbt x).lnc = s.lnc := rfl
@[simp] theorem State.withNbt_spm (x) : (s.withNbt x).spm = s.spm := rfl
@[simp] theorem State.withNbt_cfg (x) : (s.withNbt x).cfg = s.cfg := rfl
@[simp] theorem State.withNbt_svc (x) : (s.withNbt x).svc = s.svc := rfl
@[simp] theorem State.withNbt_choices (x) : (s.withNbt x).choices = s.choices := rfl
@[simp] theorem State.withNbt_pending (x) : (s.withNbt x).pending = s.pending := rfl

/-! `withAdv` -/

@[simp] theorem State.withAdv_phase (x) : (s.withAdv x).phase = s.phase := rfl
@[simp] theorem State.withAdv_clock (x) : (s.withAdv x).clock = s.clock := rfl
@[simp] theorem State.withAdv_cpi (x) : (s.withAdv x).cpi = s.cpi := rfl
@[simp] theorem State.withAdv_xpt (x) : (s.withAdv x).xpt = s.xpt := rfl
@[simp] theorem State.withAdv_slc (x) : (s.withAdv x).slc = s.slc := rfl
@[simp] theorem State.withAdv_nwt (x) : (s.withAdv x).nwt = s.nwt := rfl
@[simp] theorem State.withAdv_nbt (x) : (s.withAdv x).nbt = s.nbt := rfl
@[simp] theorem State.withAdv_adv (x) : (s.withAdv x).adv = x := rfl
@[simp] theorem State.withAdv_rsl (x) : (s.withAdv x).rsl = s.rsl := rfl
@[simp] theorem State.withAdv_ple (x) : (s.withAdv x).ple = s.ple := rfl
@[simp] theorem State.withAdv_cye (x) : (s.withAdv x).cye = s.cye := rfl
@[simp] theorem State.withAdv_tkm (x) : (s.withAdv x).tkm = s.tkm := rfl
@[simp] theorem State.withAdv_lnc (x) : (s.withAdv x).lnc = s.lnc := rfl
@[simp] theorem State.withAdv_spm (x) : (s.withAdv x).spm = s.spm := rfl
@[simp] theorem State.withAdv_cfg (x) : (s.withAdv x).cfg = s.cfg := rfl
@[simp] theorem State.withAdv_svc (x) : (s.withAdv x).svc = s.svc := rfl
@[simp] theorem State.withAdv_choices (x) : (s.withAdv x).choices = s.choices := rfl
@[simp] theorem State.withAdv_pending (x) : (s.withAdv x).pending = s.pending := rfl

/-! `withRsl` -/

@[simp] theorem State.withRsl_phase (x) : (s.withRsl x).phase = s.phase := rfl
@[simp] theorem State.withRsl_clock (x) : (s.withRsl x).clock = s.clock := rfl
@[simp] theorem State.withRsl_cpi (x) : (s.withRsl x).cpi = s.cpi := rfl
@[simp] theorem State.withRsl_xpt (x) : (s.withRsl x).xpt = s.xpt := rfl
@[simp] theorem State.withRsl_slc (x) : (s.withRsl x).slc = s.slc := rfl
@[simp] theorem State.withRsl_nwt (x) : (s.withRsl x).nwt = s.nwt := rfl
@[simp] theorem State.withRsl_nbt (x) : (s.withRsl x).nbt = s.nbt := rfl
@[simp] theorem State.withRsl_adv (x) : (s.withRsl x).adv = s.adv := rfl
@[simp] theorem State.withRsl_rsl (x) : (s.withRsl x).rsl = x := rfl
@[simp] theorem State.withRsl_ple (x) : (s.withRsl x).ple = s.ple := rfl
@[simp] theorem State.withRsl_cye (x) : (s.withRsl x).cye = s.cye := rfl
@[simp] theorem State.withRsl_tkm (x) : (s.withRsl x).tkm = s.tkm := rfl
@[simp] theorem State.withRsl_lnc (x) : (s.withRsl x).lnc = s.lnc := rfl
@[simp] theorem State.withRsl_spm (x) : (s.withRsl x).spm = s.spm := rfl
@[simp] theorem State.withRsl_cfg (x) : (s.withRsl x).cfg = s.cfg := rfl
@[simp] theorem State.withRsl_svc (x) : (s.withRsl x).svc = s.svc := rfl
@[simp] theorem State.withRsl_choices (x) : (s.withRsl x).choices = s.choices := rfl
@[simp] theorem State.withRsl_pending (x) : (s.withRsl x).pending = s.pending := rfl

/-! `withPle` -/

@[simp] theorem State.withPle_phase (x) : (s.withPle x).phase = s.phase := rfl
@[simp] theorem State.withPle_clock (x) : (s.withPle x).clock = s.clock := rfl
@[simp] theorem State.withPle_cpi (x) : (s.withPle x).cpi = s.cpi := rfl
@[simp] theorem State.withPle_xpt (x) : (s.withPle x).xpt = s.xpt := rfl
@[simp] theorem State.withPle_slc (x) : (s.withPle x).slc = s.slc := rfl
@[simp] theorem State.withPle_nwt (x) : (s.withPle x).nwt = s.nwt := rfl
@[simp] theorem State.withPle_nbt (x) : (s.withPle x).nbt = s.nbt := rfl
@[simp] theorem State.withPle_adv (x) : (s.withPle x).adv = s.adv := rfl
@[simp] theorem State.withPle_rsl (x) : (s.withPle x).rsl = s.rsl := rfl
@[simp] theorem State.withPle_ple (x) : (s.withPle x).ple = x := rfl
@[simp] theorem State.withPle_cye (x) : (s.withPle x).cye = s.cye := rfl
@[simp] theorem State.withPle_tkm (x) : (s.withPle x).tkm = s.tkm := rfl
@[simp] theorem State.withPle_lnc (x) : (s.withPle x).lnc = s.lnc := rfl
@[simp] theorem State.withPle_spm (x) : (s.withPle x).spm = s.spm := rfl
@[simp] theorem State.withPle_cfg (x) : (s.withPle x).cfg = s.cfg := rfl
@[simp] theorem State.withPle_svc (x) : (s.withPle x).svc = s.svc := rfl
@[simp] theorem State.withPle_choices (x) : (s.withPle x).choices = s.choices := rfl
@[simp] theorem State.withPle_pending (x) : (s.withPle x).pending = s.pending := rfl

/-! `withCye` -/

@[simp] theorem State.withCye_phase (x) : (s.withCye x).phase = s.phase := rfl
@[simp] theorem State.withCye_clock (x) : (s.withCye x).clock = s.clock := rfl
@[simp] theorem State.withCye_cpi (x) : (s.withCye x).cpi = s.cpi := rfl
@[simp] theorem State.withCye_xpt (x) : (s.withCye x).xpt = s.xpt := rfl
@[simp] theorem State.withCye_slc (x) : (s.withCye x).slc = s.slc := rfl
@[simp] theorem State.withCye_nwt (x) : (s.withCye x).nwt = s.nwt := rfl
@[simp] theorem State.withCye_nbt (x) : (s.withCye x).nbt = s.nbt := rfl
@[simp] theorem State.withCye_adv (x) : (s.withCye x).adv = s.adv := rfl
@[simp] theorem State.withCye_rsl (x) : (s.withCye x).rsl = s.rsl := rfl
@[simp] theorem State.withCye_ple (x) : (s.withCye x).ple = s.ple := rfl
@[simp] theorem State.withCye_cye (x) : (s.withCye x).cye = x := rfl
@[simp] theorem State.withCye_tkm (x) : (s.withCye x).tkm = s.tkm := rfl
@[simp] theorem State.withCye_lnc (x) : (s.withCye x).lnc = s.lnc := rfl
@[simp] theorem State.withCye_spm (x) : (s.withCye x).spm = s.spm := rfl
@[simp] theorem State.withCye_cfg (x) : (s.withCye x).cfg = s.cfg := rfl
@[simp] theorem State.withCye_svc (x) : (s.withCye x).svc = s.svc := rfl
@[simp] theorem State.withCye_choices (x) : (s.withCye x).choices = s.choices := rfl
@[simp] theorem State.withCye_pending (x) : (s.withCye x).pending = s.pending := rfl

/-! `withTkm` -/

@[simp] theorem State.withTkm_phase (x) : (s.withTkm x).phase = s.phase := rfl
@[simp] theorem State.withTkm_clock (x) : (s.withTkm x).clock = s.clock := rfl
@[simp] theorem State.withTkm_cpi (x) : (s.withTkm x).cpi = s.cpi := rfl
@[simp] theorem State.withTkm_xpt (x) : (s.withTkm x).xpt = s.xpt := rfl
@[simp] theorem State.withTkm_slc (x) : (s.withTkm x).slc = s.slc := rfl
@[simp] theorem State.withTkm_nwt (x) : (s.withTkm x).nwt = s.nwt := rfl
@[simp] theorem State.withTkm_nbt (x) : (s.withTkm x).nbt = s.nbt := rfl
@[simp] theorem State.withTkm_adv (x) : (s.withTkm x).adv = s.adv := rfl
@[simp] theorem State.withTkm_rsl (x) : (s.withTkm x).rsl = s.rsl := rfl
@[simp] theorem State.withTkm_ple (x) : (s.withTkm x).ple = s.ple := rfl
@[simp] theorem State.withTkm_cye (x) : (s.withTkm x).cye = s.cye := rfl
@[simp] theorem State.withTkm_tkm (x) : (s.withTkm x).tkm = x := rfl
@[simp] theorem State.withTkm_lnc (x) : (s.withTkm x).lnc = s.lnc := rfl
@[simp] theorem State.withTkm_spm (x) : (s.withTkm x).spm = s.spm := rfl
@[simp] theorem State.withTkm_cfg (x) : (s.withTkm x).cfg = s.cfg := rfl
@[simp] theorem State.withTkm_svc (x) : (s.withTkm x).svc = s.svc := rfl
@[simp] theorem State.withTkm_choices (x) : (s.withTkm x).choices = s.choices := rfl
@[simp] theorem State.withTkm_pending (x) : (s.withTkm x).pending = s.pending := rfl

/-! `withLnc` -/

@[simp] theorem State.withLnc_phase (x) : (s.withLnc x).phase = s.phase := rfl
@[simp] theorem State.withLnc_clock (x) : (s.withLnc x).clock = s.clock := rfl
@[simp] theorem State.withLnc_cpi (x) : (s.withLnc x).cpi = s.cpi := rfl
@[simp] theorem State.withLnc_xpt (x) : (s.withLnc x).xpt = s.xpt := rfl
@[simp] theorem State.withLnc_slc (x) : (s.withLnc x).slc = s.slc := rfl
@[simp] theorem State.withLnc_nwt (x) : (s.withLnc x).nwt = s.nwt := rfl
@[simp] theorem State.withLnc_nbt (x) : (s.withLnc x).nbt = s.nbt := rfl
@[simp] theorem State.withLnc_adv (x) : (s.withLnc x).adv = s.adv := rfl
@[simp] theorem State.withLnc_rsl (x) : (s.withLnc x).rsl = s.rsl := rfl
@[simp] theorem State.withLnc_ple (x) : (s.withLnc x).ple = s.ple := rfl
@[simp] theorem State.withLnc_cye (x) : (s.withLnc x).cye = s.cye := rfl
@[simp] theorem State.withLnc_tkm (x) : (s.withLnc x).tkm = s.tkm := rfl
@[simp] theorem State.withLnc_lnc (x) : (s.withLnc x).lnc = x := rfl
@[simp] theorem State.withLnc_spm (x) : (s.withLnc x).spm = s.spm := rfl
@[simp] theorem State.withLnc_cfg (x) : (s.withLnc x).cfg = s.cfg := rfl
@[simp] theorem State.withLnc_svc (x) : (s.withLnc x).svc = s.svc := rfl
@[simp] theorem State.withLnc_choices (x) : (s.withLnc x).choices = s.choices := rfl
@[simp] theorem State.withLnc_pending (x) : (s.withLnc x).pending = s.pending := rfl

/-! `withSpm` -/

@[simp] theorem State.withSpm_phase (x) : (s.withSpm x).phase = s.phase := rfl
@[simp] theorem State.withSpm_clock (x) : (s.withSpm x).clock = s.clock := rfl
@[simp] theorem State.withSpm_cpi (x) : (s.withSpm x).cpi = s.cpi := rfl
@[simp] theorem State.withSpm_xpt (x) : (s.withSpm x).xpt = s.xpt := rfl
@[simp] theorem State.withSpm_slc (x) : (s.withSpm x).slc = s.slc := rfl
@[simp] theorem State.withSpm_nwt (x) : (s.withSpm x).nwt = s.nwt := rfl
@[simp] theorem State.withSpm_nbt (x) : (s.withSpm x).nbt = s.nbt := rfl
@[simp] theorem State.withSpm_adv (x) : (s.withSpm x).adv = s.adv := rfl
@[simp] theorem State.withSpm_rsl (x) : (s.withSpm x).rsl = s.rsl := rfl
@[simp] theorem State.withSpm_ple (x) : (s.withSpm x).ple = s.ple := rfl
@[simp] theorem State.withSpm_cye (x) : (s.withSpm x).cye = s.cye := rfl
@[simp] theorem State.withSpm_tkm (x) : (s.withSpm x).tkm = s.tkm := rfl
@[simp] theorem State.withSpm_lnc (x) : (s.withSpm x).lnc = s.lnc := rfl
@[simp] theorem State.withSpm_spm (x) : (s.withSpm x).spm = x := rfl
@[simp] theorem State.withSpm_cfg (x) : (s.withSpm x).cfg = s.cfg := rfl
@[simp] theorem State.withSpm_svc (x) : (s.withSpm x).svc = s.svc := rfl
@[simp] theorem State.withSpm_choices (x) : (s.withSpm x).choices = s.choices := rfl
@[simp] theorem State.withSpm_pending (x) : (s.withSpm x).pending = s.pending := rfl

/-! `withCfg` -/

@[simp] theorem State.withCfg_phase (x) : (s.withCfg x).phase = s.phase := rfl
@[simp] theorem State.withCfg_clock (x) : (s.withCfg x).clock = s.clock := rfl
@[simp] theorem State.withCfg_cpi (x) : (s.withCfg x).cpi = s.cpi := rfl
@[simp] theorem State.withCfg_xpt (x) : (s.withCfg x).xpt = s.xpt := rfl
@[simp] theorem State.withCfg_slc (x) : (s.withCfg x).slc = s.slc := rfl
@[simp] theorem State.withCfg_nwt (x) : (s.withCfg x).nwt = s.nwt := rfl
@[simp] theorem State.withCfg_nbt (x) : (s.withCfg x).nbt = s.nbt := rfl
@[simp] theorem State.withCfg_adv (x) : (s.withCfg x).adv = s.adv := rfl
@[simp] theorem State.withCfg_rsl (x) : (s.withCfg x).rsl = s.rsl := rfl
@[simp] theorem State.withCfg_ple (x) : (s.withCfg x).ple = s.ple := rfl
@[simp] theorem State.withCfg_cye (x) : (s.withCfg x).cye = s.cye := rfl
@[simp] theorem State.withCfg_tkm (x) : (s.withCfg x).tkm = s.tkm := rfl
@[simp] theorem State.withCfg_lnc (x) : (s.withCfg x).lnc = s.lnc := rfl
@[simp] theorem State.withCfg_spm (x) : (s.withCfg x).spm = s.spm := rfl
@[simp] theorem State.withCfg_cfg (x) : (s.withCfg x).cfg = x := rfl
@[simp] theorem State.withCfg_svc (x) : (s.withCfg x).svc = s.svc := rfl
@[simp] theorem State.withCfg_choices (x) : (s.withCfg x).choices = s.choices := rfl
@[simp] theorem State.withCfg_pending (x) : (s.withCfg x).pending = s.pending := rfl

/-! `withSvc` -/

@[simp] theorem State.withSvc_phase (x) : (s.withSvc x).phase = s.phase := rfl
@[simp] theorem State.withSvc_clock (x) : (s.withSvc x).clock = s.clock := rfl
@[simp] theorem State.withSvc_cpi (x) : (s.withSvc x).cpi = s.cpi := rfl
@[simp] theorem State.withSvc_xpt (x) : (s.withSvc x).xpt = s.xpt := rfl
@[simp] theorem State.withSvc_slc (x) : (s.withSvc x).slc = s.slc := rfl
@[simp] theorem State.withSvc_nwt (x) : (s.withSvc x).nwt = s.nwt := rfl
@[simp] theorem State.withSvc_nbt (x) : (s.withSvc x).nbt = s.nbt := rfl
@[simp] theorem State.withSvc_adv (x) : (s.withSvc x).adv = s.adv := rfl
@[simp] theorem State.withSvc_rsl (x) : (s.withSvc x).rsl = s.rsl := rfl
@[simp] theorem State.withSvc_ple (x) : (s.withSvc x).ple = s.ple := rfl
@[simp] theorem State.withSvc_cye (x) : (s.withSvc x).cye = s.cye := rfl
@[simp] theorem State.withSvc_tkm (x) : (s.withSvc x).tkm = s.tkm := rfl
@[simp] theorem State.withSvc_lnc (x) : (s.withSvc x).lnc = s.lnc := rfl
@[simp] theorem State.withSvc_spm (x) : (s.withSvc x).spm = s.spm := rfl
@[simp] theorem State.withSvc_cfg (x) : (s.withSvc x).cfg = s.cfg := rfl
@[simp] theorem State.withSvc_svc (x) : (s.withSvc x).svc = x := rfl
@[simp] theorem State.withSvc_choices (x) : (s.withSvc x).choices = s.choices := rfl
@[simp] theorem State.withSvc_pending (x) : (s.withSvc x).pending = s.pending := rfl

/-! `withChoices` -/

@[simp] theorem State.withChoices_phase (x) : (s.withChoices x).phase = s.phase := rfl
@[simp] theorem State.withChoices_clock (x) : (s.withChoices x).clock = s.clock := rfl
@[simp] theorem State.withChoices_cpi (x) : (s.withChoices x).cpi = s.cpi := rfl
@[simp] theorem State.withChoices_xpt (x) : (s.withChoices x).xpt = s.xpt := rfl
@[simp] theorem State.withChoices_slc (x) : (s.withChoices x).slc = s.slc := rfl
@[simp] theorem State.withChoices_nwt (x) : (s.withChoices x).nwt = s.nwt := rfl
@[simp] theorem State.withChoices_nbt (x) : (s.withChoices x).nbt = s.nbt := rfl
@[simp] theorem State.withChoices_adv (x) : (s.withChoices x).adv = s.adv := rfl
@[simp] theorem State.withChoices_rsl (x) : (s.withChoices x).rsl = s.rsl := rfl
@[simp] theorem State.withChoices_ple (x) : (s.withChoices x).ple = s.ple := rfl
@[simp] theorem State.withChoices_cye (x) : (s.withChoices x).cye = s.cye := rfl
@[simp] theorem State.withChoices_tkm (x) : (s.withChoices x).tkm = s.tkm := rfl
@[simp] theorem State.withChoices_lnc (x) : (s.withChoices x).lnc = s.lnc := rfl
@[simp] theorem State.withChoices_spm (x) : (s.withChoices x).spm = s.spm := rfl
@[simp] theorem State.withChoices_cfg (x) : (s.withChoices x).cfg = s.cfg := rfl
@[simp] theorem State.withChoices_svc (x) : (s.withChoices x).svc = s.svc := rfl
@[simp] theorem State.withChoices_choices (x) : (s.withChoices x).choices = x := rfl
@[simp] theorem State.withChoices_pending (x) : (s.withChoices x).pending = s.pending := rfl

/-! `withPending` -/

@[simp] theorem State.withPending_phase (x) : (s.withPending x).phase = s.phase := rfl
@[simp] theorem State.withPending_clock (x) : (s.withPending x).clock = s.clock := rfl
@[simp] theorem State.withPending_cpi (x) : (s.withPending x).cpi = s.cpi := rfl
@[simp] theorem State.withPending_xpt (x) : (s.withPending x).xpt = s.xpt := rfl
@[simp] theorem State.withPending_slc (x) : (s.withPending x).slc = s.slc := rfl
@[simp] theorem State.withPending_nwt (x) : (s.withPending x).nwt = s.nwt := rfl
@[simp] theorem State.withPending_nbt (x) : (s.withPending x).nbt = s.nbt := rfl
@[simp] theorem State.withPending_adv (x) : (s.withPending x).adv = s.adv := rfl
@[simp] theorem State.withPending_rsl (x) : (s.withPending x).rsl = s.rsl := rfl
@[simp] theorem State.withPending_ple (x) : (s.withPending x).ple = s.ple := rfl
@[simp] theorem State.withPending_cye (x) : (s.withPending x).cye = s.cye := rfl
@[simp] theorem State.withPending_tkm (x) : (s.withPending x).tkm = s.tkm := rfl
@[simp] theorem State.withPending_lnc (x) : (s.withPending x).lnc = s.lnc := rfl
@[simp] theorem State.withPending_spm (x) : (s.withPending x).spm = s.spm := rfl
@[simp] theorem State.withPending_cfg (x) : (s.withPending x).cfg = s.cfg := rfl
@[simp] theorem State.withPending_svc (x) : (s.withPending x).svc = s.svc := rfl
@[simp] theorem State.withPending_choices (x) : (s.withPending x).choices = s.choices := rfl
@[simp] theorem State.withPending_pending (x) : (s.withPending x).pending = x := rfl

/-! Reads through an index -/

theorem State.slot_a : s.slot .a = s.slc.a := rfl
theorem State.slot_b : s.slot .b = s.slc.b := rfl
theorem State.table_a : s.table .a = s.nwt.a := rfl
theorem State.table_b : s.table .b = s.nwt.b := rfl

@[simp] theorem State.withSlot_slot (sl : Slot) (r : SlotRec) : (s.withSlot sl r).slot sl = r := by cases sl <;> rfl

@[simp] theorem State.withSlot_otherSlot (sl : Slot) (r : SlotRec) :
    (s.withSlot sl r).slot (otherSlot sl) = s.slot (otherSlot sl) := by cases sl <;> rfl

@[simp] theorem State.withTable_table (sl : Slot) (es : List NetEntry) : (s.withTable sl es).table sl = es := by
  cases sl <;> rfl

@[simp] theorem State.withTable_otherTable (sl : Slot) (es : List NetEntry) :
    (s.withTable sl es).table (otherSlot sl) = s.table (otherSlot sl) := by cases sl <;> rfl

@[simp] theorem Tkm.get_set (m : Tkm) (t : Trunk) (e : TrunkEntry) : (m.set t e).get t = e := by cases t <;> rfl

theorem Tkm.get_set_of_ne (m : Tkm) {t u : Trunk} (e : TrunkEntry) (h : t ≠ u) : (m.set t e).get u = m.get u := by
  cases t <;> cases u <;> first | rfl | exact absurd rfl h

@[simp] theorem otherSlot_otherSlot (sl : Slot) : otherSlot (otherSlot sl) = sl := by cases sl <;> rfl

/-- The slot written holds the changed record, its idle timer settled. -/
@[simp] theorem State.setSlot_slot (sl : Slot) (f : SlotRec → SlotRec) :
    (s.setSlot sl f).slot sl = (f (s.slot sl)).settleIdle s.clock.now := by cases sl <;> rfl

/-- The other slot is untouched: what happens on one slot changes nothing on the other. -/
@[simp] theorem State.setSlot_otherSlot (sl : Slot) (f : SlotRec → SlotRec) :
    (s.setSlot sl f).slot (otherSlot sl) = s.slot (otherSlot sl) := by cases sl <;> rfl

/-- Of the call point, a change of a slot touches the OUT lamp alone. -/
theorem State.setSlot_cpi (sl : Slot) (f : SlotRec → SlotRec) :
    (s.setSlot sl f).cpi = { s.cpi with outLamp := (s.setSlot sl f).cpi.outLamp } := by cases sl <;> rfl

end Sys2Proof.Machine
end

