-- ==== Sys2Proof/Laws/Ops.lean ====
section
/-! SUPPORT. What each shared operation of the time base, the crosspoint, the call point, the line and the log leaves unchanged: the fields it never writes. -/

namespace Sys2Proof.Machine

@[simp] theorem State.arrive_frame (s : State) (ms : Nat) :
    (s.arrive ms).phase = s.phase ∧ (s.arrive ms).cpi = s.cpi ∧ (s.arrive ms).xpt = s.xpt ∧
    (s.arrive ms).slc = s.slc ∧ (s.arrive ms).nwt = s.nwt ∧ (s.arrive ms).nbt = s.nbt ∧
    (s.arrive ms).adv = s.adv ∧ (s.arrive ms).rsl = s.rsl ∧ (s.arrive ms).ple = s.ple ∧
    (s.arrive ms).cye = s.cye ∧ (s.arrive ms).tkm = s.tkm ∧ (s.arrive ms).lnc = s.lnc ∧
    (s.arrive ms).spm = s.spm ∧ (s.arrive ms).cfg = s.cfg ∧ (s.arrive ms).svc = s.svc ∧
    (s.arrive ms).choices = s.choices ∧ (s.arrive ms).pending = s.pending := by
  simp only [State.arrive]
  simp

@[simp] theorem State.advanceTo_frame (s : State) (t : Nat) :
    (s.advanceTo t).phase = s.phase ∧ (s.advanceTo t).cpi = s.cpi ∧ (s.advanceTo t).xpt = s.xpt ∧
    (s.advanceTo t).slc = s.slc ∧ (s.advanceTo t).nwt = s.nwt ∧ (s.advanceTo t).nbt = s.nbt ∧
    (s.advanceTo t).adv = s.adv ∧ (s.advanceTo t).rsl = s.rsl ∧ (s.advanceTo t).ple = s.ple ∧
    (s.advanceTo t).cye = s.cye ∧ (s.advanceTo t).tkm = s.tkm ∧ (s.advanceTo t).lnc = s.lnc ∧
    (s.advanceTo t).spm = s.spm ∧ (s.advanceTo t).cfg = s.cfg ∧ (s.advanceTo t).svc = s.svc ∧
    (s.advanceTo t).choices = s.choices ∧ (s.advanceTo t).pending = s.pending := by
  simp only [State.advanceTo]
  simp

@[simp] theorem State.withTable_frame (s : State) (sl : Slot) (es : List NetEntry) :
    (s.withTable sl es).phase = s.phase ∧ (s.withTable sl es).clock = s.clock ∧ (s.withTable sl es).cpi = s.cpi ∧
    (s.withTable sl es).xpt = s.xpt ∧ (s.withTable sl es).slc = s.slc ∧ (s.withTable sl es).nbt = s.nbt ∧
    (s.withTable sl es).adv = s.adv ∧ (s.withTable sl es).rsl = s.rsl ∧ (s.withTable sl es).ple = s.ple ∧
    (s.withTable sl es).cye = s.cye ∧ (s.withTable sl es).tkm = s.tkm ∧ (s.withTable sl es).lnc = s.lnc ∧
    (s.withTable sl es).spm = s.spm ∧ (s.withTable sl es).cfg = s.cfg ∧ (s.withTable sl es).svc = s.svc ∧
    (s.withTable sl es).choices = s.choices ∧ (s.withTable sl es).pending = s.pending := by
  simp only [State.withTable]
  repeat' split
  all_goals simp

@[simp] theorem State.withSlot_frame (s : State) (sl : Slot) (r : SlotRec) :
    (s.withSlot sl r).phase = s.phase ∧ (s.withSlot sl r).clock = s.clock ∧ (s.withSlot sl r).cpi = s.cpi ∧
    (s.withSlot sl r).xpt = s.xpt ∧ (s.withSlot sl r).nwt = s.nwt ∧ (s.withSlot sl r).nbt = s.nbt ∧
    (s.withSlot sl r).adv = s.adv ∧ (s.withSlot sl r).rsl = s.rsl ∧ (s.withSlot sl r).ple = s.ple ∧
    (s.withSlot sl r).cye = s.cye ∧ (s.withSlot sl r).tkm = s.tkm ∧ (s.withSlot sl r).lnc = s.lnc ∧
    (s.withSlot sl r).spm = s.spm ∧ (s.withSlot sl r).cfg = s.cfg ∧ (s.withSlot sl r).svc = s.svc ∧
    (s.withSlot sl r).choices = s.choices ∧ (s.withSlot sl r).pending = s.pending := by
  simp only [State.withSlot]
  repeat' split
  all_goals simp

@[simp] theorem State.setOutLamp_frame (s : State) :
    s.setOutLamp.phase = s.phase ∧ s.setOutLamp.clock = s.clock ∧ s.setOutLamp.xpt = s.xpt ∧
    s.setOutLamp.slc = s.slc ∧ s.setOutLamp.nwt = s.nwt ∧ s.setOutLamp.nbt = s.nbt ∧ s.setOutLamp.adv = s.adv ∧
    s.setOutLamp.rsl = s.rsl ∧ s.setOutLamp.ple = s.ple ∧ s.setOutLamp.cye = s.cye ∧ s.setOutLamp.tkm = s.tkm ∧
    s.setOutLamp.lnc = s.lnc ∧ s.setOutLamp.spm = s.spm ∧ s.setOutLamp.cfg = s.cfg ∧ s.setOutLamp.svc = s.svc ∧
    s.setOutLamp.choices = s.choices ∧ s.setOutLamp.pending = s.pending := by
  simp only [State.setOutLamp]
  simp

@[simp] theorem State.xptJoin_frame (s : State) (o : Owner) (x y : Endpoint) :
    (s.xptJoin o x y).phase = s.phase ∧ (s.xptJoin o x y).clock = s.clock ∧ (s.xptJoin o x y).cpi = s.cpi ∧
    (s.xptJoin o x y).slc = s.slc ∧ (s.xptJoin o x y).nwt = s.nwt ∧ (s.xptJoin o x y).nbt = s.nbt ∧
    (s.xptJoin o x y).adv = s.adv ∧ (s.xptJoin o x y).rsl = s.rsl ∧ (s.xptJoin o x y).ple = s.ple ∧
    (s.xptJoin o x y).cye = s.cye ∧ (s.xptJoin o x y).tkm = s.tkm ∧ (s.xptJoin o x y).lnc = s.lnc ∧
    (s.xptJoin o x y).spm = s.spm ∧ (s.xptJoin o x y).cfg = s.cfg ∧ (s.xptJoin o x y).svc = s.svc ∧
    (s.xptJoin o x y).choices = s.choices ∧ (s.xptJoin o x y).pending = s.pending := by
  simp only [State.xptJoin]
  simp

@[simp] theorem State.xptBreak_frame (s : State) (o : Owner) :
    (s.xptBreak o).phase = s.phase ∧ (s.xptBreak o).clock = s.clock ∧ (s.xptBreak o).cpi = s.cpi ∧
    (s.xptBreak o).slc = s.slc ∧ (s.xptBreak o).nwt = s.nwt ∧ (s.xptBreak o).nbt = s.nbt ∧
    (s.xptBreak o).adv = s.adv ∧ (s.xptBreak o).rsl = s.rsl ∧ (s.xptBreak o).ple = s.ple ∧
    (s.xptBreak o).cye = s.cye ∧ (s.xptBreak o).tkm = s.tkm ∧ (s.xptBreak o).lnc = s.lnc ∧
    (s.xptBreak o).spm = s.spm ∧ (s.xptBreak o).cfg = s.cfg ∧ (s.xptBreak o).svc = s.svc ∧
    (s.xptBreak o).choices = s.choices ∧ (s.xptBreak o).pending = s.pending := by
  simp only [State.xptBreak]
  simp

@[simp] theorem State.joinTone_frame (s : State) :
    s.joinTone.phase = s.phase ∧ s.joinTone.clock = s.clock ∧ s.joinTone.cpi = s.cpi ∧ s.joinTone.slc = s.slc ∧
    s.joinTone.nwt = s.nwt ∧ s.joinTone.nbt = s.nbt ∧ s.joinTone.adv = s.adv ∧ s.joinTone.rsl = s.rsl ∧
    s.joinTone.ple = s.ple ∧ s.joinTone.cye = s.cye ∧ s.joinTone.tkm = s.tkm ∧ s.joinTone.lnc = s.lnc ∧
    s.joinTone.spm = s.spm ∧ s.joinTone.cfg = s.cfg ∧ s.joinTone.svc = s.svc ∧ s.joinTone.choices = s.choices ∧
    s.joinTone.pending = s.pending := by
  simp only [State.joinTone]
  simp

@[simp] theorem State.cutSampleTimer_frame (s : State) :
    s.cutSampleTimer.phase = s.phase ∧ s.cutSampleTimer.clock = s.clock ∧ s.cutSampleTimer.cpi = s.cpi ∧
    s.cutSampleTimer.xpt = s.xpt ∧ s.cutSampleTimer.slc = s.slc ∧ s.cutSampleTimer.nwt = s.nwt ∧
    s.cutSampleTimer.nbt = s.nbt ∧ s.cutSampleTimer.adv = s.adv ∧ s.cutSampleTimer.rsl = s.rsl ∧
    s.cutSampleTimer.ple = s.ple ∧ s.cutSampleTimer.cye = s.cye ∧ s.cutSampleTimer.tkm = s.tkm ∧
    s.cutSampleTimer.lnc = s.lnc ∧ s.cutSampleTimer.cfg = s.cfg ∧ s.cutSampleTimer.svc = s.svc ∧
    s.cutSampleTimer.choices = s.choices ∧ s.cutSampleTimer.pending = s.pending := by
  simp only [State.cutSampleTimer]
  simp

@[simp] theorem State.enterCallState_frame (s : State) (st : CallState) :
    (s.enterCallState st).phase = s.phase ∧ (s.enterCallState st).clock = s.clock ∧
    (s.enterCallState st).xpt = s.xpt ∧ (s.enterCallState st).slc = s.slc ∧ (s.enterCallState st).nwt = s.nwt ∧
    (s.enterCallState st).nbt = s.nbt ∧ (s.enterCallState st).adv = s.adv ∧ (s.enterCallState st).rsl = s.rsl ∧
    (s.enterCallState st).cye = s.cye ∧ (s.enterCallState st).tkm = s.tkm ∧ (s.enterCallState st).lnc = s.lnc ∧
    (s.enterCallState st).cfg = s.cfg ∧ (s.enterCallState st).svc = s.svc ∧
    (s.enterCallState st).choices = s.choices ∧ (s.enterCallState st).pending = s.pending := by
  simp only [State.enterCallState]
  repeat' split
  all_goals simp

@[simp] theorem State.lineActive_frame (s : State) :
    s.lineActive.phase = s.phase ∧ s.lineActive.clock = s.clock ∧ s.lineActive.cpi = s.cpi ∧
    s.lineActive.xpt = s.xpt ∧ s.lineActive.slc = s.slc ∧ s.lineActive.nwt = s.nwt ∧ s.lineActive.nbt = s.nbt ∧
    s.lineActive.adv = s.adv ∧ s.lineActive.rsl = s.rsl ∧ s.lineActive.ple = s.ple ∧ s.lineActive.cye = s.cye ∧
    s.lineActive.tkm = s.tkm ∧ s.lineActive.spm = s.spm ∧ s.lineActive.cfg = s.cfg ∧ s.lineActive.svc = s.svc ∧
    s.lineActive.choices = s.choices ∧ s.lineActive.pending = s.pending := by
  simp only [State.lineActive]
  simp

@[simp] theorem State.beginSending_frame (s : State) :
    s.beginSending.phase = s.phase ∧ s.beginSending.clock = s.clock ∧ s.beginSending.cpi = s.cpi ∧
    s.beginSending.xpt = s.xpt ∧ s.beginSending.slc = s.slc ∧ s.beginSending.nwt = s.nwt ∧
    s.beginSending.nbt = s.nbt ∧ s.beginSending.adv = s.adv ∧ s.beginSending.rsl = s.rsl ∧
    s.beginSending.ple = s.ple ∧ s.beginSending.cye = s.cye ∧ s.beginSending.tkm = s.tkm ∧
    s.beginSending.spm = s.spm ∧ s.beginSending.cfg = s.cfg ∧ s.beginSending.svc = s.svc ∧
    s.beginSending.choices = s.choices ∧ s.beginSending.pending = s.pending := by
  simp only [State.beginSending]
  simp

@[simp] theorem State.sendIfQuiet_frame (s : State) :
    s.sendIfQuiet.phase = s.phase ∧ s.sendIfQuiet.clock = s.clock ∧ s.sendIfQuiet.cpi = s.cpi ∧
    s.sendIfQuiet.xpt = s.xpt ∧ s.sendIfQuiet.slc = s.slc ∧ s.sendIfQuiet.nwt = s.nwt ∧ s.sendIfQuiet.nbt = s.nbt ∧
    s.sendIfQuiet.adv = s.adv ∧ s.sendIfQuiet.rsl = s.rsl ∧ s.sendIfQuiet.ple = s.ple ∧ s.sendIfQuiet.cye = s.cye ∧
    s.sendIfQuiet.tkm = s.tkm ∧ s.sendIfQuiet.spm = s.spm ∧ s.sendIfQuiet.cfg = s.cfg ∧ s.sendIfQuiet.svc = s.svc ∧
    s.sendIfQuiet.choices = s.choices ∧ s.sendIfQuiet.pending = s.pending := by
  simp only [State.sendIfQuiet]
  split <;> simp

/-- R149, R153: what the beginning of sending writes. -/
@[simp] theorem State.beginSending_lnc (s : State) :
    s.beginSending.lnc = { s.lnc with tx := .sending, lastActive := s.clock.now } := by
  simp [State.beginSending, State.lineActive]

/-- R149: a transmitter that has just entered GAP, by the line idle time. -/
theorem State.sendIfQuiet_lnc (s : State) : s.sendIfQuiet.lnc =
    if s.lnc.tx = .gap ∧ 2 ≤ s.lineIdle then { s.lnc with tx := .sending, lastActive := s.clock.now } else s.lnc := by
  rw [State.sendIfQuiet, apply_ite State.lnc, State.beginSending_lnc]
  rfl

@[simp] theorem State.hand_frame (s : State) (d : Nat) (b : Body) :
    (s.hand d b).phase = s.phase ∧ (s.hand d b).clock = s.clock ∧ (s.hand d b).cpi = s.cpi ∧
    (s.hand d b).xpt = s.xpt ∧ (s.hand d b).slc = s.slc ∧ (s.hand d b).nwt = s.nwt ∧ (s.hand d b).nbt = s.nbt ∧
    (s.hand d b).adv = s.adv ∧ (s.hand d b).rsl = s.rsl ∧ (s.hand d b).ple = s.ple ∧ (s.hand d b).cye = s.cye ∧
    (s.hand d b).tkm = s.tkm ∧ (s.hand d b).spm = s.spm ∧ (s.hand d b).cfg = s.cfg ∧ (s.hand d b).svc = s.svc ∧
    (s.hand d b).choices = s.choices ∧ (s.hand d b).pending = s.pending := by
  simp only [State.hand]
  repeat' split
  all_goals simp

@[simp] theorem State.draw_frame (s : State) :
    s.draw.phase = s.phase ∧ s.draw.clock = s.clock ∧ s.draw.cpi = s.cpi ∧ s.draw.xpt = s.xpt ∧
    s.draw.slc = s.slc ∧ s.draw.nwt = s.nwt ∧ s.draw.nbt = s.nbt ∧ s.draw.adv = s.adv ∧ s.draw.rsl = s.rsl ∧
    s.draw.ple = s.ple ∧ s.draw.cye = s.cye ∧ s.draw.tkm = s.tkm ∧ s.draw.spm = s.spm ∧ s.draw.cfg = s.cfg ∧
    s.draw.svc = s.svc ∧ s.draw.choices = s.choices ∧ s.draw.pending = s.pending := by
  simp only [State.draw]
  simp

@[simp] theorem State.logAppend_frame (s : State) (r : LogRecord) :
    (s.logAppend r).phase = s.phase ∧ (s.logAppend r).clock = s.clock ∧ (s.logAppend r).cpi = s.cpi ∧
    (s.logAppend r).xpt = s.xpt ∧ (s.logAppend r).slc = s.slc ∧ (s.logAppend r).nwt = s.nwt ∧
    (s.logAppend r).nbt = s.nbt ∧ (s.logAppend r).adv = s.adv ∧ (s.logAppend r).rsl = s.rsl ∧
    (s.logAppend r).ple = s.ple ∧ (s.logAppend r).cye = s.cye ∧ (s.logAppend r).tkm = s.tkm ∧
    (s.logAppend r).lnc = s.lnc ∧ (s.logAppend r).spm = s.spm ∧ (s.logAppend r).cfg = s.cfg ∧
    (s.logAppend r).choices = s.choices ∧ (s.logAppend r).pending = s.pending := by
  simp only [State.logAppend]
  simp

@[simp] theorem State.frameHeard_frame (s : State) (ms : Nat) :
    (s.frameHeard ms).phase = s.phase ∧ (s.frameHeard ms).cpi = s.cpi ∧ (s.frameHeard ms).xpt = s.xpt ∧
    (s.frameHeard ms).slc = s.slc ∧ (s.frameHeard ms).nwt = s.nwt ∧ (s.frameHeard ms).nbt = s.nbt ∧
    (s.frameHeard ms).adv = s.adv ∧ (s.frameHeard ms).rsl = s.rsl ∧ (s.frameHeard ms).ple = s.ple ∧
    (s.frameHeard ms).cye = s.cye ∧ (s.frameHeard ms).tkm = s.tkm ∧ (s.frameHeard ms).spm = s.spm ∧
    (s.frameHeard ms).cfg = s.cfg ∧ (s.frameHeard ms).svc = s.svc ∧ (s.frameHeard ms).choices = s.choices ∧
    (s.frameHeard ms).pending = s.pending := by
  simp only [State.frameHeard]
  simp

@[simp] theorem State.dropFrame_frame (s : State) (f : FrameFate) :
    (s.dropFrame f).phase = s.phase ∧ (s.dropFrame f).clock = s.clock ∧ (s.dropFrame f).cpi = s.cpi ∧
    (s.dropFrame f).xpt = s.xpt ∧ (s.dropFrame f).slc = s.slc ∧ (s.dropFrame f).nwt = s.nwt ∧
    (s.dropFrame f).nbt = s.nbt ∧ (s.dropFrame f).adv = s.adv ∧ (s.dropFrame f).rsl = s.rsl ∧
    (s.dropFrame f).ple = s.ple ∧ (s.dropFrame f).cye = s.cye ∧ (s.dropFrame f).tkm = s.tkm ∧
    (s.dropFrame f).spm = s.spm ∧ (s.dropFrame f).cfg = s.cfg ∧ (s.dropFrame f).svc = s.svc ∧
    (s.dropFrame f).choices = s.choices ∧ (s.dropFrame f).pending = s.pending := by
  simp only [State.dropFrame]
  repeat' split
  all_goals simp

end Sys2Proof.Machine
end

