-- ==== Sys2Proof/Laws/Tables.lean ====
section
/-! SUPPORT. What each shared operation of the adverts and the two tables leaves unchanged: the fields it never writes. -/

namespace Sys2Proof.Machine

@[simp] theorem State.buildReach_frame (s : State) :
    s.buildReach.phase = s.phase ∧ s.buildReach.clock = s.clock ∧ s.buildReach.cpi = s.cpi ∧
    s.buildReach.xpt = s.xpt ∧ s.buildReach.slc = s.slc ∧ s.buildReach.nwt = s.nwt ∧ s.buildReach.nbt = s.nbt ∧
    s.buildReach.rsl = s.rsl ∧ s.buildReach.ple = s.ple ∧ s.buildReach.cye = s.cye ∧ s.buildReach.tkm = s.tkm ∧
    s.buildReach.spm = s.spm ∧ s.buildReach.cfg = s.cfg ∧ s.buildReach.svc = s.svc ∧
    s.buildReach.choices = s.choices ∧ s.buildReach.pending = s.pending := by
  simp only [State.buildReach]
  simp

@[simp] theorem State.watchAdvert_frame (s : State) :
    s.watchAdvert.phase = s.phase ∧ s.watchAdvert.clock = s.clock ∧ s.watchAdvert.cpi = s.cpi ∧
    s.watchAdvert.xpt = s.xpt ∧ s.watchAdvert.slc = s.slc ∧ s.watchAdvert.nwt = s.nwt ∧
    s.watchAdvert.nbt = s.nbt ∧ s.watchAdvert.rsl = s.rsl ∧ s.watchAdvert.ple = s.ple ∧
    s.watchAdvert.cye = s.cye ∧ s.watchAdvert.tkm = s.tkm ∧ s.watchAdvert.spm = s.spm ∧
    s.watchAdvert.cfg = s.cfg ∧ s.watchAdvert.svc = s.svc ∧ s.watchAdvert.choices = s.choices ∧
    s.watchAdvert.pending = s.pending := by
  simp only [State.watchAdvert]
  repeat' split
  all_goals simp

@[simp] theorem State.advScanEnded_frame (s : State) :
    s.advScanEnded.phase = s.phase ∧ s.advScanEnded.clock = s.clock ∧ s.advScanEnded.cpi = s.cpi ∧
    s.advScanEnded.xpt = s.xpt ∧ s.advScanEnded.slc = s.slc ∧ s.advScanEnded.nwt = s.nwt ∧
    s.advScanEnded.nbt = s.nbt ∧ s.advScanEnded.rsl = s.rsl ∧ s.advScanEnded.ple = s.ple ∧
    s.advScanEnded.cye = s.cye ∧ s.advScanEnded.tkm = s.tkm ∧ s.advScanEnded.spm = s.spm ∧
    s.advScanEnded.cfg = s.cfg ∧ s.advScanEnded.svc = s.svc ∧ s.advScanEnded.choices = s.choices ∧
    s.advScanEnded.pending = s.pending := by
  simp only [State.advScanEnded]
  repeat' split
  all_goals simp

@[simp] theorem State.tableEvent_frame (s : State) (sl : Slot) (f : List NetEntry → List NetEntry) :
    (s.tableEvent sl f).phase = s.phase ∧ (s.tableEvent sl f).clock = s.clock ∧ (s.tableEvent sl f).cpi = s.cpi ∧
    (s.tableEvent sl f).xpt = s.xpt ∧ (s.tableEvent sl f).slc = s.slc ∧ (s.tableEvent sl f).nbt = s.nbt ∧
    (s.tableEvent sl f).rsl = s.rsl ∧ (s.tableEvent sl f).ple = s.ple ∧ (s.tableEvent sl f).cye = s.cye ∧
    (s.tableEvent sl f).tkm = s.tkm ∧ (s.tableEvent sl f).spm = s.spm ∧ (s.tableEvent sl f).cfg = s.cfg ∧
    (s.tableEvent sl f).svc = s.svc ∧ (s.tableEvent sl f).choices = s.choices ∧
    (s.tableEvent sl f).pending = s.pending := by
  simp only [State.tableEvent]
  simp

@[simp] theorem State.takeNets_frame (s : State) (sl : Slot) (is : List NetItem) :
    (s.takeNets sl is).phase = s.phase ∧ (s.takeNets sl is).clock = s.clock ∧ (s.takeNets sl is).cpi = s.cpi ∧
    (s.takeNets sl is).xpt = s.xpt ∧ (s.takeNets sl is).slc = s.slc ∧ (s.takeNets sl is).nbt = s.nbt ∧
    (s.takeNets sl is).rsl = s.rsl ∧ (s.takeNets sl is).ple = s.ple ∧ (s.takeNets sl is).cye = s.cye ∧
    (s.takeNets sl is).tkm = s.tkm ∧ (s.takeNets sl is).spm = s.spm ∧ (s.takeNets sl is).cfg = s.cfg ∧
    (s.takeNets sl is).svc = s.svc ∧ (s.takeNets sl is).choices = s.choices ∧
    (s.takeNets sl is).pending = s.pending := by
  simp only [State.takeNets]
  simp

@[simp] theorem State.takeBeat_frame (s : State) (sl : Slot) (c l : Option Nat) :
    (s.takeBeat sl c l).phase = s.phase ∧ (s.takeBeat sl c l).clock = s.clock ∧ (s.takeBeat sl c l).cpi = s.cpi ∧
    (s.takeBeat sl c l).xpt = s.xpt ∧ (s.takeBeat sl c l).slc = s.slc ∧ (s.takeBeat sl c l).nbt = s.nbt ∧
    (s.takeBeat sl c l).rsl = s.rsl ∧ (s.takeBeat sl c l).ple = s.ple ∧ (s.takeBeat sl c l).cye = s.cye ∧
    (s.takeBeat sl c l).tkm = s.tkm ∧ (s.takeBeat sl c l).spm = s.spm ∧ (s.takeBeat sl c l).cfg = s.cfg ∧
    (s.takeBeat sl c l).svc = s.svc ∧ (s.takeBeat sl c l).choices = s.choices ∧
    (s.takeBeat sl c l).pending = s.pending := by
  simp only [State.takeBeat]
  repeat' split
  all_goals simp

@[simp] theorem State.barEntry_frame (s : State) (sl : Slot) (c : Nat) :
    (s.barEntry sl c).phase = s.phase ∧ (s.barEntry sl c).clock = s.clock ∧ (s.barEntry sl c).cpi = s.cpi ∧
    (s.barEntry sl c).xpt = s.xpt ∧ (s.barEntry sl c).slc = s.slc ∧ (s.barEntry sl c).nbt = s.nbt ∧
    (s.barEntry sl c).rsl = s.rsl ∧ (s.barEntry sl c).ple = s.ple ∧ (s.barEntry sl c).cye = s.cye ∧
    (s.barEntry sl c).tkm = s.tkm ∧ (s.barEntry sl c).spm = s.spm ∧ (s.barEntry sl c).cfg = s.cfg ∧
    (s.barEntry sl c).svc = s.svc ∧ (s.barEntry sl c).choices = s.choices ∧ (s.barEntry sl c).pending = s.pending := by
  simp only [State.barEntry]
  simp

@[simp] theorem State.reportEntry_frame (s : State) (sl : Slot) (c : Nat) (r : Report) :
    (s.reportEntry sl c r).phase = s.phase ∧ (s.reportEntry sl c r).clock = s.clock ∧
    (s.reportEntry sl c r).cpi = s.cpi ∧ (s.reportEntry sl c r).xpt = s.xpt ∧
    (s.reportEntry sl c r).slc = s.slc ∧ (s.reportEntry sl c r).nbt = s.nbt ∧
    (s.reportEntry sl c r).rsl = s.rsl ∧ (s.reportEntry sl c r).ple = s.ple ∧
    (s.reportEntry sl c r).cye = s.cye ∧ (s.reportEntry sl c r).tkm = s.tkm ∧
    (s.reportEntry sl c r).spm = s.spm ∧ (s.reportEntry sl c r).cfg = s.cfg ∧
    (s.reportEntry sl c r).svc = s.svc ∧ (s.reportEntry sl c r).choices = s.choices ∧
    (s.reportEntry sl c r).pending = s.pending := by
  simp only [State.reportEntry]
  simp

@[simp] theorem State.takeReachFrame_frame (s : State) (src : Nat) (p : List Byte) :
    (s.takeReachFrame src p).phase = s.phase ∧ (s.takeReachFrame src p).clock = s.clock ∧
    (s.takeReachFrame src p).cpi = s.cpi ∧ (s.takeReachFrame src p).xpt = s.xpt ∧
    (s.takeReachFrame src p).slc = s.slc ∧ (s.takeReachFrame src p).nwt = s.nwt ∧
    (s.takeReachFrame src p).adv = s.adv ∧ (s.takeReachFrame src p).rsl = s.rsl ∧
    (s.takeReachFrame src p).ple = s.ple ∧ (s.takeReachFrame src p).cye = s.cye ∧
    (s.takeReachFrame src p).tkm = s.tkm ∧ (s.takeReachFrame src p).lnc = s.lnc ∧
    (s.takeReachFrame src p).spm = s.spm ∧ (s.takeReachFrame src p).cfg = s.cfg ∧
    (s.takeReachFrame src p).svc = s.svc ∧ (s.takeReachFrame src p).choices = s.choices ∧
    (s.takeReachFrame src p).pending = s.pending := by
  simp only [State.takeReachFrame]
  repeat' split
  all_goals simp

@[simp] theorem State.reportNeighbour_frame (s : State) (n : Nat) (r : Report) :
    (s.reportNeighbour n r).phase = s.phase ∧ (s.reportNeighbour n r).clock = s.clock ∧
    (s.reportNeighbour n r).cpi = s.cpi ∧ (s.reportNeighbour n r).xpt = s.xpt ∧
    (s.reportNeighbour n r).slc = s.slc ∧ (s.reportNeighbour n r).nwt = s.nwt ∧
    (s.reportNeighbour n r).adv = s.adv ∧ (s.reportNeighbour n r).rsl = s.rsl ∧
    (s.reportNeighbour n r).ple = s.ple ∧ (s.reportNeighbour n r).cye = s.cye ∧
    (s.reportNeighbour n r).tkm = s.tkm ∧ (s.reportNeighbour n r).lnc = s.lnc ∧
    (s.reportNeighbour n r).spm = s.spm ∧ (s.reportNeighbour n r).cfg = s.cfg ∧
    (s.reportNeighbour n r).svc = s.svc ∧ (s.reportNeighbour n r).choices = s.choices ∧
    (s.reportNeighbour n r).pending = s.pending := by
  simp only [State.reportNeighbour]
  simp

end Sys2Proof.Machine
end

