-- ==== Sys2Proof/Laws/Slots.lean ====
section
/-! SUPPORT. What each shared operation of the slot controller leaves unchanged: the fields it never writes. -/

namespace Sys2Proof.Machine

@[simp] theorem State.setSlot_frame (s : State) (sl : Slot) (f : SlotRec → SlotRec) :
    (s.setSlot sl f).phase = s.phase ∧ (s.setSlot sl f).clock = s.clock ∧ (s.setSlot sl f).xpt = s.xpt ∧
    (s.setSlot sl f).nwt = s.nwt ∧ (s.setSlot sl f).nbt = s.nbt ∧ (s.setSlot sl f).adv = s.adv ∧
    (s.setSlot sl f).rsl = s.rsl ∧ (s.setSlot sl f).ple = s.ple ∧ (s.setSlot sl f).cye = s.cye ∧
    (s.setSlot sl f).tkm = s.tkm ∧ (s.setSlot sl f).lnc = s.lnc ∧ (s.setSlot sl f).spm = s.spm ∧
    (s.setSlot sl f).cfg = s.cfg ∧ (s.setSlot sl f).svc = s.svc ∧ (s.setSlot sl f).choices = s.choices ∧
    (s.setSlot sl f).pending = s.pending := by
  simp only [State.setSlot]
  simp

@[simp] theorem State.requestDial_frame (s : State) (sl : Slot) (h : Holder) (c : Nat) :
    (s.requestDial sl h c).phase = s.phase ∧ (s.requestDial sl h c).clock = s.clock ∧
    (s.requestDial sl h c).xpt = s.xpt ∧ (s.requestDial sl h c).nwt = s.nwt ∧
    (s.requestDial sl h c).nbt = s.nbt ∧ (s.requestDial sl h c).adv = s.adv ∧
    (s.requestDial sl h c).rsl = s.rsl ∧ (s.requestDial sl h c).ple = s.ple ∧
    (s.requestDial sl h c).cye = s.cye ∧ (s.requestDial sl h c).tkm = s.tkm ∧
    (s.requestDial sl h c).lnc = s.lnc ∧ (s.requestDial sl h c).spm = s.spm ∧
    (s.requestDial sl h c).cfg = s.cfg ∧ (s.requestDial sl h c).svc = s.svc ∧
    (s.requestDial sl h c).choices = s.choices ∧ (s.requestDial sl h c).pending = s.pending := by
  simp only [State.requestDial]
  repeat' split
  all_goals simp

@[simp] theorem State.grantLocal_frame (s : State) (sl : Slot) :
    (s.grantLocal sl).phase = s.phase ∧ (s.grantLocal sl).clock = s.clock ∧ (s.grantLocal sl).xpt = s.xpt ∧
    (s.grantLocal sl).nwt = s.nwt ∧ (s.grantLocal sl).nbt = s.nbt ∧ (s.grantLocal sl).adv = s.adv ∧
    (s.grantLocal sl).rsl = s.rsl ∧ (s.grantLocal sl).ple = s.ple ∧ (s.grantLocal sl).cye = s.cye ∧
    (s.grantLocal sl).tkm = s.tkm ∧ (s.grantLocal sl).lnc = s.lnc ∧ (s.grantLocal sl).spm = s.spm ∧
    (s.grantLocal sl).cfg = s.cfg ∧ (s.grantLocal sl).svc = s.svc ∧ (s.grantLocal sl).choices = s.choices ∧
    (s.grantLocal sl).pending = s.pending := by
  simp only [State.grantLocal]
  simp

@[simp] theorem State.setCarry_frame (s : State) (id : CarryId) (f : CarryRec → CarryRec) :
    (s.setCarry id f).phase = s.phase ∧ (s.setCarry id f).clock = s.clock ∧ (s.setCarry id f).cpi = s.cpi ∧
    (s.setCarry id f).xpt = s.xpt ∧ (s.setCarry id f).slc = s.slc ∧ (s.setCarry id f).nwt = s.nwt ∧
    (s.setCarry id f).nbt = s.nbt ∧ (s.setCarry id f).adv = s.adv ∧ (s.setCarry id f).rsl = s.rsl ∧
    (s.setCarry id f).ple = s.ple ∧ (s.setCarry id f).tkm = s.tkm ∧ (s.setCarry id f).lnc = s.lnc ∧
    (s.setCarry id f).spm = s.spm ∧ (s.setCarry id f).cfg = s.cfg ∧ (s.setCarry id f).svc = s.svc ∧
    (s.setCarry id f).choices = s.choices ∧ (s.setCarry id f).pending = s.pending := by
  simp only [State.setCarry]
  simp

@[simp] theorem State.grantCarry_frame (s : State) (sl : Slot) (c : CarryRec) :
    (s.grantCarry sl c).phase = s.phase ∧ (s.grantCarry sl c).clock = s.clock ∧ (s.grantCarry sl c).nwt = s.nwt ∧
    (s.grantCarry sl c).nbt = s.nbt ∧ (s.grantCarry sl c).adv = s.adv ∧ (s.grantCarry sl c).rsl = s.rsl ∧
    (s.grantCarry sl c).ple = s.ple ∧ (s.grantCarry sl c).tkm = s.tkm ∧ (s.grantCarry sl c).lnc = s.lnc ∧
    (s.grantCarry sl c).spm = s.spm ∧ (s.grantCarry sl c).cfg = s.cfg ∧ (s.grantCarry sl c).svc = s.svc ∧
    (s.grantCarry sl c).choices = s.choices ∧ (s.grantCarry sl c).pending = s.pending := by
  simp only [State.grantCarry]
  simp

@[simp] theorem State.arbiter_frame (s : State) (sl : Slot) :
    (s.arbiter sl).phase = s.phase ∧ (s.arbiter sl).clock = s.clock ∧ (s.arbiter sl).nwt = s.nwt ∧
    (s.arbiter sl).nbt = s.nbt ∧ (s.arbiter sl).adv = s.adv ∧ (s.arbiter sl).rsl = s.rsl ∧
    (s.arbiter sl).ple = s.ple ∧ (s.arbiter sl).tkm = s.tkm ∧ (s.arbiter sl).lnc = s.lnc ∧
    (s.arbiter sl).spm = s.spm ∧ (s.arbiter sl).cfg = s.cfg ∧ (s.arbiter sl).svc = s.svc ∧
    (s.arbiter sl).choices = s.choices ∧ (s.arbiter sl).pending = s.pending := by
  simp only [State.arbiter]
  repeat' split
  all_goals simp

@[simp] theorem State.placeClaim_frame (s : State) (sl : Slot) (c : Claim) :
    (s.placeClaim sl c).phase = s.phase ∧ (s.placeClaim sl c).clock = s.clock ∧ (s.placeClaim sl c).nwt = s.nwt ∧
    (s.placeClaim sl c).nbt = s.nbt ∧ (s.placeClaim sl c).adv = s.adv ∧ (s.placeClaim sl c).rsl = s.rsl ∧
    (s.placeClaim sl c).ple = s.ple ∧ (s.placeClaim sl c).tkm = s.tkm ∧ (s.placeClaim sl c).lnc = s.lnc ∧
    (s.placeClaim sl c).spm = s.spm ∧ (s.placeClaim sl c).cfg = s.cfg ∧ (s.placeClaim sl c).svc = s.svc ∧
    (s.placeClaim sl c).choices = s.choices ∧ (s.placeClaim sl c).pending = s.pending := by
  simp only [State.placeClaim]
  repeat' split
  all_goals simp

@[simp] theorem State.withdrawLocal_frame (s : State) (sl : Slot) :
    (s.withdrawLocal sl).phase = s.phase ∧ (s.withdrawLocal sl).clock = s.clock ∧
    (s.withdrawLocal sl).xpt = s.xpt ∧ (s.withdrawLocal sl).nwt = s.nwt ∧ (s.withdrawLocal sl).nbt = s.nbt ∧
    (s.withdrawLocal sl).adv = s.adv ∧ (s.withdrawLocal sl).rsl = s.rsl ∧ (s.withdrawLocal sl).ple = s.ple ∧
    (s.withdrawLocal sl).cye = s.cye ∧ (s.withdrawLocal sl).tkm = s.tkm ∧ (s.withdrawLocal sl).lnc = s.lnc ∧
    (s.withdrawLocal sl).spm = s.spm ∧ (s.withdrawLocal sl).cfg = s.cfg ∧ (s.withdrawLocal sl).svc = s.svc ∧
    (s.withdrawLocal sl).choices = s.choices ∧ (s.withdrawLocal sl).pending = s.pending := by
  simp only [State.withdrawLocal]
  simp

@[simp] theorem State.withdrawCarry_frame (s : State) (sl : Slot) (id : CarryId) :
    (s.withdrawCarry sl id).phase = s.phase ∧ (s.withdrawCarry sl id).clock = s.clock ∧
    (s.withdrawCarry sl id).xpt = s.xpt ∧ (s.withdrawCarry sl id).nwt = s.nwt ∧
    (s.withdrawCarry sl id).nbt = s.nbt ∧ (s.withdrawCarry sl id).adv = s.adv ∧
    (s.withdrawCarry sl id).rsl = s.rsl ∧ (s.withdrawCarry sl id).ple = s.ple ∧
    (s.withdrawCarry sl id).cye = s.cye ∧ (s.withdrawCarry sl id).tkm = s.tkm ∧
    (s.withdrawCarry sl id).lnc = s.lnc ∧ (s.withdrawCarry sl id).spm = s.spm ∧
    (s.withdrawCarry sl id).cfg = s.cfg ∧ (s.withdrawCarry sl id).svc = s.svc ∧
    (s.withdrawCarry sl id).choices = s.choices ∧ (s.withdrawCarry sl id).pending = s.pending := by
  simp only [State.withdrawCarry]
  simp

@[simp] theorem State.withdrawScan_frame (s : State) (sl : Slot) :
    (s.withdrawScan sl).phase = s.phase ∧ (s.withdrawScan sl).clock = s.clock ∧ (s.withdrawScan sl).xpt = s.xpt ∧
    (s.withdrawScan sl).nwt = s.nwt ∧ (s.withdrawScan sl).nbt = s.nbt ∧ (s.withdrawScan sl).adv = s.adv ∧
    (s.withdrawScan sl).rsl = s.rsl ∧ (s.withdrawScan sl).ple = s.ple ∧ (s.withdrawScan sl).cye = s.cye ∧
    (s.withdrawScan sl).tkm = s.tkm ∧ (s.withdrawScan sl).lnc = s.lnc ∧ (s.withdrawScan sl).spm = s.spm ∧
    (s.withdrawScan sl).cfg = s.cfg ∧ (s.withdrawScan sl).svc = s.svc ∧ (s.withdrawScan sl).choices = s.choices ∧
    (s.withdrawScan sl).pending = s.pending := by
  simp only [State.withdrawScan]
  simp

@[simp] theorem State.release_frame (s : State) (sl : Slot) (h : Holder) :
    (s.release sl h).phase = s.phase ∧ (s.release sl h).clock = s.clock ∧ (s.release sl h).nwt = s.nwt ∧
    (s.release sl h).nbt = s.nbt ∧ (s.release sl h).adv = s.adv ∧ (s.release sl h).rsl = s.rsl ∧
    (s.release sl h).ple = s.ple ∧ (s.release sl h).tkm = s.tkm ∧ (s.release sl h).lnc = s.lnc ∧
    (s.release sl h).spm = s.spm ∧ (s.release sl h).cfg = s.cfg ∧ (s.release sl h).svc = s.svc ∧
    (s.release sl h).choices = s.choices ∧ (s.release sl h).pending = s.pending := by
  simp only [State.release]
  repeat' split
  all_goals simp

@[simp] theorem State.takeOffer_frame (s : State) (sl : Slot) :
    (s.takeOffer sl).phase = s.phase ∧ (s.takeOffer sl).clock = s.clock ∧ (s.takeOffer sl).xpt = s.xpt ∧
    (s.takeOffer sl).nwt = s.nwt ∧ (s.takeOffer sl).nbt = s.nbt ∧ (s.takeOffer sl).adv = s.adv ∧
    (s.takeOffer sl).rsl = s.rsl ∧ (s.takeOffer sl).ple = s.ple ∧ (s.takeOffer sl).cye = s.cye ∧
    (s.takeOffer sl).tkm = s.tkm ∧ (s.takeOffer sl).lnc = s.lnc ∧ (s.takeOffer sl).spm = s.spm ∧
    (s.takeOffer sl).cfg = s.cfg ∧ (s.takeOffer sl).svc = s.svc ∧ (s.takeOffer sl).choices = s.choices ∧
    (s.takeOffer sl).pending = s.pending := by
  simp only [State.takeOffer]
  repeat' split
  all_goals simp

@[simp] theorem State.refuseCallin_frame (s : State) (sl : Slot) :
    (s.refuseCallin sl).phase = s.phase ∧ (s.refuseCallin sl).clock = s.clock ∧ (s.refuseCallin sl).xpt = s.xpt ∧
    (s.refuseCallin sl).nwt = s.nwt ∧ (s.refuseCallin sl).nbt = s.nbt ∧ (s.refuseCallin sl).adv = s.adv ∧
    (s.refuseCallin sl).rsl = s.rsl ∧ (s.refuseCallin sl).ple = s.ple ∧ (s.refuseCallin sl).cye = s.cye ∧
    (s.refuseCallin sl).tkm = s.tkm ∧ (s.refuseCallin sl).lnc = s.lnc ∧ (s.refuseCallin sl).spm = s.spm ∧
    (s.refuseCallin sl).cfg = s.cfg ∧ (s.refuseCallin sl).svc = s.svc ∧ (s.refuseCallin sl).choices = s.choices ∧
    (s.refuseCallin sl).pending = s.pending := by
  simp only [State.refuseCallin]
  simp

@[simp] theorem State.startScanTimer_frame (s : State) (sl : Slot) :
    (s.startScanTimer sl).phase = s.phase ∧ (s.startScanTimer sl).clock = s.clock ∧
    (s.startScanTimer sl).xpt = s.xpt ∧ (s.startScanTimer sl).nwt = s.nwt ∧ (s.startScanTimer sl).nbt = s.nbt ∧
    (s.startScanTimer sl).adv = s.adv ∧ (s.startScanTimer sl).rsl = s.rsl ∧ (s.startScanTimer sl).ple = s.ple ∧
    (s.startScanTimer sl).cye = s.cye ∧ (s.startScanTimer sl).tkm = s.tkm ∧ (s.startScanTimer sl).lnc = s.lnc ∧
    (s.startScanTimer sl).spm = s.spm ∧ (s.startScanTimer sl).cfg = s.cfg ∧ (s.startScanTimer sl).svc = s.svc ∧
    (s.startScanTimer sl).choices = s.choices ∧ (s.startScanTimer sl).pending = s.pending := by
  simp only [State.startScanTimer]
  simp

@[simp] theorem State.supplyChangedAt_frame (s : State) (o : Supply) (sl : Slot) :
    (s.supplyChangedAt o sl).phase = s.phase ∧ (s.supplyChangedAt o sl).clock = s.clock ∧
    (s.supplyChangedAt o sl).xpt = s.xpt ∧ (s.supplyChangedAt o sl).nwt = s.nwt ∧
    (s.supplyChangedAt o sl).nbt = s.nbt ∧ (s.supplyChangedAt o sl).adv = s.adv ∧
    (s.supplyChangedAt o sl).rsl = s.rsl ∧ (s.supplyChangedAt o sl).ple = s.ple ∧
    (s.supplyChangedAt o sl).cye = s.cye ∧ (s.supplyChangedAt o sl).tkm = s.tkm ∧
    (s.supplyChangedAt o sl).lnc = s.lnc ∧ (s.supplyChangedAt o sl).spm = s.spm ∧
    (s.supplyChangedAt o sl).cfg = s.cfg ∧ (s.supplyChangedAt o sl).svc = s.svc ∧
    (s.supplyChangedAt o sl).choices = s.choices ∧ (s.supplyChangedAt o sl).pending = s.pending := by
  simp only [State.supplyChangedAt]
  repeat' split
  all_goals simp

@[simp] theorem State.supplyChanged_frame (s : State) (o : Supply) :
    (s.supplyChanged o).phase = s.phase ∧ (s.supplyChanged o).clock = s.clock ∧ (s.supplyChanged o).xpt = s.xpt ∧
    (s.supplyChanged o).nwt = s.nwt ∧ (s.supplyChanged o).nbt = s.nbt ∧ (s.supplyChanged o).adv = s.adv ∧
    (s.supplyChanged o).rsl = s.rsl ∧ (s.supplyChanged o).ple = s.ple ∧ (s.supplyChanged o).cye = s.cye ∧
    (s.supplyChanged o).tkm = s.tkm ∧ (s.supplyChanged o).lnc = s.lnc ∧ (s.supplyChanged o).spm = s.spm ∧
    (s.supplyChanged o).cfg = s.cfg ∧ (s.supplyChanged o).svc = s.svc ∧ (s.supplyChanged o).choices = s.choices ∧
    (s.supplyChanged o).pending = s.pending := by
  simp only [State.supplyChanged]
  simp

@[simp] theorem State.closeScan_frame (s : State) (sl : Slot) :
    (s.closeScan sl).phase = s.phase ∧ (s.closeScan sl).clock = s.clock ∧ (s.closeScan sl).xpt = s.xpt ∧
    (s.closeScan sl).nwt = s.nwt ∧ (s.closeScan sl).nbt = s.nbt ∧ (s.closeScan sl).adv = s.adv ∧
    (s.closeScan sl).rsl = s.rsl ∧ (s.closeScan sl).ple = s.ple ∧ (s.closeScan sl).cye = s.cye ∧
    (s.closeScan sl).tkm = s.tkm ∧ (s.closeScan sl).lnc = s.lnc ∧ (s.closeScan sl).spm = s.spm ∧
    (s.closeScan sl).cfg = s.cfg ∧ (s.closeScan sl).svc = s.svc ∧ (s.closeScan sl).choices = s.choices ∧
    (s.closeScan sl).pending = s.pending := by
  simp only [State.closeScan]
  simp

@[simp] theorem State.hearModule_frame (s : State) (sl : Slot) :
    (s.hearModule sl).phase = s.phase ∧ (s.hearModule sl).clock = s.clock ∧ (s.hearModule sl).xpt = s.xpt ∧
    (s.hearModule sl).nwt = s.nwt ∧ (s.hearModule sl).nbt = s.nbt ∧ (s.hearModule sl).adv = s.adv ∧
    (s.hearModule sl).rsl = s.rsl ∧ (s.hearModule sl).ple = s.ple ∧ (s.hearModule sl).cye = s.cye ∧
    (s.hearModule sl).tkm = s.tkm ∧ (s.hearModule sl).lnc = s.lnc ∧ (s.hearModule sl).spm = s.spm ∧
    (s.hearModule sl).cfg = s.cfg ∧ (s.hearModule sl).svc = s.svc ∧ (s.hearModule sl).choices = s.choices ∧
    (s.hearModule sl).pending = s.pending := by
  simp only [State.hearModule]
  simp

end Sys2Proof.Machine
end

