-- ==== Sys2Proof/Laws/Carrying.lean ====
section
/-! SUPPORT. What each shared operation of the carry engine and the trunk map leaves unchanged: the fields it never writes. -/

namespace Sys2Proof.Machine

@[simp] theorem State.setTrunk_frame (s : State) (t : Trunk) (e : TrunkEntry) :
    (s.setTrunk t e).phase = s.phase ∧ (s.setTrunk t e).clock = s.clock ∧ (s.setTrunk t e).cpi = s.cpi ∧
    (s.setTrunk t e).xpt = s.xpt ∧ (s.setTrunk t e).slc = s.slc ∧ (s.setTrunk t e).nwt = s.nwt ∧
    (s.setTrunk t e).nbt = s.nbt ∧ (s.setTrunk t e).adv = s.adv ∧ (s.setTrunk t e).rsl = s.rsl ∧
    (s.setTrunk t e).ple = s.ple ∧ (s.setTrunk t e).cye = s.cye ∧ (s.setTrunk t e).lnc = s.lnc ∧
    (s.setTrunk t e).spm = s.spm ∧ (s.setTrunk t e).cfg = s.cfg ∧ (s.setTrunk t e).svc = s.svc ∧
    (s.setTrunk t e).choices = s.choices ∧ (s.setTrunk t e).pending = s.pending := by
  simp only [State.setTrunk]
  simp

@[simp] theorem State.claimTrunk_frame (s : State) (t : Trunk) (id : CarryId) :
    (s.claimTrunk t id).phase = s.phase ∧ (s.claimTrunk t id).clock = s.clock ∧ (s.claimTrunk t id).cpi = s.cpi ∧
    (s.claimTrunk t id).xpt = s.xpt ∧ (s.claimTrunk t id).slc = s.slc ∧ (s.claimTrunk t id).nwt = s.nwt ∧
    (s.claimTrunk t id).nbt = s.nbt ∧ (s.claimTrunk t id).adv = s.adv ∧ (s.claimTrunk t id).rsl = s.rsl ∧
    (s.claimTrunk t id).ple = s.ple ∧ (s.claimTrunk t id).cye = s.cye ∧ (s.claimTrunk t id).lnc = s.lnc ∧
    (s.claimTrunk t id).spm = s.spm ∧ (s.claimTrunk t id).cfg = s.cfg ∧ (s.claimTrunk t id).svc = s.svc ∧
    (s.claimTrunk t id).choices = s.choices ∧ (s.claimTrunk t id).pending = s.pending := by
  simp only [State.claimTrunk]
  simp

@[simp] theorem State.holdFrame_frame (s : State) (t : Trunk) (id : CarryId) :
    (s.holdFrame t id).phase = s.phase ∧ (s.holdFrame t id).clock = s.clock ∧ (s.holdFrame t id).cpi = s.cpi ∧
    (s.holdFrame t id).xpt = s.xpt ∧ (s.holdFrame t id).slc = s.slc ∧ (s.holdFrame t id).nwt = s.nwt ∧
    (s.holdFrame t id).nbt = s.nbt ∧ (s.holdFrame t id).adv = s.adv ∧ (s.holdFrame t id).rsl = s.rsl ∧
    (s.holdFrame t id).ple = s.ple ∧ (s.holdFrame t id).cye = s.cye ∧ (s.holdFrame t id).tkm = s.tkm ∧
    (s.holdFrame t id).spm = s.spm ∧ (s.holdFrame t id).cfg = s.cfg ∧ (s.holdFrame t id).svc = s.svc ∧
    (s.holdFrame t id).choices = s.choices ∧ (s.holdFrame t id).pending = s.pending := by
  simp only [State.holdFrame]
  simp

@[simp] theorem State.freeTrunk_frame (s : State) (t : Trunk) (id : CarryId) :
    (s.freeTrunk t id).phase = s.phase ∧ (s.freeTrunk t id).clock = s.clock ∧ (s.freeTrunk t id).cpi = s.cpi ∧
    (s.freeTrunk t id).xpt = s.xpt ∧ (s.freeTrunk t id).slc = s.slc ∧ (s.freeTrunk t id).nwt = s.nwt ∧
    (s.freeTrunk t id).nbt = s.nbt ∧ (s.freeTrunk t id).adv = s.adv ∧ (s.freeTrunk t id).rsl = s.rsl ∧
    (s.freeTrunk t id).ple = s.ple ∧ (s.freeTrunk t id).cye = s.cye ∧ (s.freeTrunk t id).spm = s.spm ∧
    (s.freeTrunk t id).cfg = s.cfg ∧ (s.freeTrunk t id).svc = s.svc ∧ (s.freeTrunk t id).choices = s.choices ∧
    (s.freeTrunk t id).pending = s.pending := by
  simp only [State.freeTrunk]
  repeat' split
  all_goals simp

@[simp] theorem State.giveUpSlot_frame (s : State) (c : CarryRec) :
    (s.giveUpSlot c).phase = s.phase ∧ (s.giveUpSlot c).clock = s.clock ∧ (s.giveUpSlot c).nwt = s.nwt ∧
    (s.giveUpSlot c).nbt = s.nbt ∧ (s.giveUpSlot c).adv = s.adv ∧ (s.giveUpSlot c).rsl = s.rsl ∧
    (s.giveUpSlot c).ple = s.ple ∧ (s.giveUpSlot c).tkm = s.tkm ∧ (s.giveUpSlot c).lnc = s.lnc ∧
    (s.giveUpSlot c).spm = s.spm ∧ (s.giveUpSlot c).cfg = s.cfg ∧ (s.giveUpSlot c).svc = s.svc ∧
    (s.giveUpSlot c).choices = s.choices ∧ (s.giveUpSlot c).pending = s.pending := by
  simp only [State.giveUpSlot]
  repeat' split
  all_goals simp

@[simp] theorem State.endCarry_frame (s : State) (c : CarryRec) (r : Option CprgReason) (f : Bool) (p : Option Report) (o : LogOutcome) :
    (s.endCarry c r f p o).phase = s.phase ∧ (s.endCarry c r f p o).clock = s.clock ∧
    (s.endCarry c r f p o).nbt = s.nbt ∧ (s.endCarry c r f p o).rsl = s.rsl ∧
    (s.endCarry c r f p o).ple = s.ple ∧ (s.endCarry c r f p o).spm = s.spm ∧
    (s.endCarry c r f p o).cfg = s.cfg ∧ (s.endCarry c r f p o).choices = s.choices ∧
    (s.endCarry c r f p o).pending = s.pending := by
  simp only [State.endCarry]
  repeat' split
  all_goals simp

@[simp] theorem State.carryClaimFault_frame (s : State) (id : CarryId) :
    (s.carryClaimFault id).phase = s.phase ∧ (s.carryClaimFault id).clock = s.clock ∧
    (s.carryClaimFault id).nbt = s.nbt ∧ (s.carryClaimFault id).rsl = s.rsl ∧
    (s.carryClaimFault id).ple = s.ple ∧ (s.carryClaimFault id).spm = s.spm ∧
    (s.carryClaimFault id).cfg = s.cfg ∧ (s.carryClaimFault id).choices = s.choices ∧
    (s.carryClaimFault id).pending = s.pending := by
  simp only [State.carryClaimFault]
  repeat' split
  all_goals simp

@[simp] theorem State.acceptCarry_frame (s : State) (id : CarryId) (c : Nat) (sl : Slot) (t : Trunk) :
    (s.acceptCarry id c sl t).phase = s.phase ∧ (s.acceptCarry id c sl t).clock = s.clock ∧
    (s.acceptCarry id c sl t).nbt = s.nbt ∧ (s.acceptCarry id c sl t).rsl = s.rsl ∧
    (s.acceptCarry id c sl t).ple = s.ple ∧ (s.acceptCarry id c sl t).cfg = s.cfg ∧
    (s.acceptCarry id c sl t).choices = s.choices ∧ (s.acceptCarry id c sl t).pending = s.pending := by
  simp only [State.acceptCarry]
  repeat' split
  all_goals simp

@[simp] theorem State.takeCreq_frame (s : State) (src i c : Nat) :
    (s.takeCreq src i c).phase = s.phase ∧ (s.takeCreq src i c).clock = s.clock ∧
    (s.takeCreq src i c).nbt = s.nbt ∧ (s.takeCreq src i c).rsl = s.rsl ∧ (s.takeCreq src i c).ple = s.ple ∧
    (s.takeCreq src i c).cfg = s.cfg ∧ (s.takeCreq src i c).choices = s.choices ∧
    (s.takeCreq src i c).pending = s.pending := by
  simp only [State.takeCreq]
  repeat' split
  all_goals simp

@[simp] theorem State.carryReport_frame (s : State) (id : CarryId) (r : SlotReport) :
    (s.carryReport id r).phase = s.phase ∧ (s.carryReport id r).clock = s.clock ∧
    (s.carryReport id r).nbt = s.nbt ∧ (s.carryReport id r).rsl = s.rsl ∧ (s.carryReport id r).ple = s.ple ∧
    (s.carryReport id r).spm = s.spm ∧ (s.carryReport id r).cfg = s.cfg ∧
    (s.carryReport id r).choices = s.choices ∧ (s.carryReport id r).pending = s.pending := by
  simp only [State.carryReport]
  repeat' split
  all_goals simp

@[simp] theorem State.takeCend_frame (s : State) (src i : Nat) (c : CendCause) :
    (s.takeCend src i c).phase = s.phase ∧ (s.takeCend src i c).clock = s.clock ∧
    (s.takeCend src i c).nbt = s.nbt ∧ (s.takeCend src i c).rsl = s.rsl ∧ (s.takeCend src i c).ple = s.ple ∧
    (s.takeCend src i c).spm = s.spm ∧ (s.takeCend src i c).cfg = s.cfg ∧
    (s.takeCend src i c).choices = s.choices ∧ (s.takeCend src i c).pending = s.pending := by
  simp only [State.takeCend]
  repeat' split
  all_goals simp

@[simp] theorem State.carryHeardHold_frame (s : State) (src h i : Nat) :
    (s.carryHeardHold src h i).phase = s.phase ∧ (s.carryHeardHold src h i).clock = s.clock ∧
    (s.carryHeardHold src h i).cpi = s.cpi ∧ (s.carryHeardHold src h i).xpt = s.xpt ∧
    (s.carryHeardHold src h i).slc = s.slc ∧ (s.carryHeardHold src h i).nwt = s.nwt ∧
    (s.carryHeardHold src h i).nbt = s.nbt ∧ (s.carryHeardHold src h i).adv = s.adv ∧
    (s.carryHeardHold src h i).rsl = s.rsl ∧ (s.carryHeardHold src h i).ple = s.ple ∧
    (s.carryHeardHold src h i).tkm = s.tkm ∧ (s.carryHeardHold src h i).lnc = s.lnc ∧
    (s.carryHeardHold src h i).spm = s.spm ∧ (s.carryHeardHold src h i).cfg = s.cfg ∧
    (s.carryHeardHold src h i).svc = s.svc ∧ (s.carryHeardHold src h i).choices = s.choices ∧
    (s.carryHeardHold src h i).pending = s.pending := by
  simp only [State.carryHeardHold]
  repeat' split
  all_goals simp

@[simp] theorem State.carryMoved_frame (s : State) (id : CarryId) (t : Trunk) :
    (s.carryMoved id t).phase = s.phase ∧ (s.carryMoved id t).clock = s.clock ∧ (s.carryMoved id t).cpi = s.cpi ∧
    (s.carryMoved id t).slc = s.slc ∧ (s.carryMoved id t).nwt = s.nwt ∧ (s.carryMoved id t).nbt = s.nbt ∧
    (s.carryMoved id t).adv = s.adv ∧ (s.carryMoved id t).rsl = s.rsl ∧ (s.carryMoved id t).ple = s.ple ∧
    (s.carryMoved id t).tkm = s.tkm ∧ (s.carryMoved id t).lnc = s.lnc ∧ (s.carryMoved id t).spm = s.spm ∧
    (s.carryMoved id t).cfg = s.cfg ∧ (s.carryMoved id t).svc = s.svc ∧ (s.carryMoved id t).choices = s.choices ∧
    (s.carryMoved id t).pending = s.pending := by
  simp only [State.carryMoved]
  repeat' split
  all_goals simp

@[simp] theorem State.carryTrunkLost_frame (s : State) (id : CarryId) :
    (s.carryTrunkLost id).phase = s.phase ∧ (s.carryTrunkLost id).clock = s.clock ∧
    (s.carryTrunkLost id).nbt = s.nbt ∧ (s.carryTrunkLost id).rsl = s.rsl ∧ (s.carryTrunkLost id).ple = s.ple ∧
    (s.carryTrunkLost id).spm = s.spm ∧ (s.carryTrunkLost id).cfg = s.cfg ∧
    (s.carryTrunkLost id).choices = s.choices ∧ (s.carryTrunkLost id).pending = s.pending := by
  simp only [State.carryTrunkLost]
  repeat' split
  all_goals simp

@[simp] theorem State.loseTrunk_frame (s : State) (t : Trunk) (id : CarryId) (w : Nat) :
    (s.loseTrunk t id w).phase = s.phase ∧ (s.loseTrunk t id w).clock = s.clock ∧
    (s.loseTrunk t id w).nbt = s.nbt ∧ (s.loseTrunk t id w).rsl = s.rsl ∧ (s.loseTrunk t id w).ple = s.ple ∧
    (s.loseTrunk t id w).spm = s.spm ∧ (s.loseTrunk t id w).cfg = s.cfg ∧
    (s.loseTrunk t id w).choices = s.choices ∧ (s.loseTrunk t id w).pending = s.pending := by
  simp only [State.loseTrunk]
  repeat' split
  all_goals simp

@[simp] theorem State.trunkAnnounced_frame (s : State) (t : Trunk) (src : Nat) :
    (s.trunkAnnounced t src).phase = s.phase ∧ (s.trunkAnnounced t src).clock = s.clock ∧
    (s.trunkAnnounced t src).nbt = s.nbt ∧ (s.trunkAnnounced t src).rsl = s.rsl ∧
    (s.trunkAnnounced t src).ple = s.ple ∧ (s.trunkAnnounced t src).spm = s.spm ∧
    (s.trunkAnnounced t src).cfg = s.cfg ∧ (s.trunkAnnounced t src).choices = s.choices ∧
    (s.trunkAnnounced t src).pending = s.pending := by
  simp only [State.trunkAnnounced]
  repeat' split
  all_goals simp

@[simp] theorem State.mapAnnounced_frame (s : State) (src f : Nat) :
    (s.mapAnnounced src f).phase = s.phase ∧ (s.mapAnnounced src f).clock = s.clock ∧
    (s.mapAnnounced src f).nbt = s.nbt ∧ (s.mapAnnounced src f).rsl = s.rsl ∧
    (s.mapAnnounced src f).ple = s.ple ∧ (s.mapAnnounced src f).spm = s.spm ∧
    (s.mapAnnounced src f).cfg = s.cfg ∧ (s.mapAnnounced src f).choices = s.choices ∧
    (s.mapAnnounced src f).pending = s.pending := by
  simp only [State.mapAnnounced]
  repeat' split
  all_goals simp

@[simp] theorem State.trunkHeld_frame (s : State) (t : Trunk) (h : Nat) :
    (s.trunkHeld t h).phase = s.phase ∧ (s.trunkHeld t h).clock = s.clock ∧ (s.trunkHeld t h).nbt = s.nbt ∧
    (s.trunkHeld t h).rsl = s.rsl ∧ (s.trunkHeld t h).ple = s.ple ∧ (s.trunkHeld t h).spm = s.spm ∧
    (s.trunkHeld t h).cfg = s.cfg ∧ (s.trunkHeld t h).choices = s.choices ∧ (s.trunkHeld t h).pending = s.pending := by
  simp only [State.trunkHeld]
  repeat' split
  all_goals simp

@[simp] theorem State.mapHeld_frame (s : State) (src f h p : Nat) :
    (s.mapHeld src f h p).phase = s.phase ∧ (s.mapHeld src f h p).clock = s.clock ∧
    (s.mapHeld src f h p).nbt = s.nbt ∧ (s.mapHeld src f h p).rsl = s.rsl ∧ (s.mapHeld src f h p).ple = s.ple ∧
    (s.mapHeld src f h p).spm = s.spm ∧ (s.mapHeld src f h p).cfg = s.cfg ∧
    (s.mapHeld src f h p).choices = s.choices ∧ (s.mapHeld src f h p).pending = s.pending := by
  simp only [State.mapHeld]
  repeat' split
  all_goals simp

@[simp] theorem State.mapFreed_frame (s : State) (src f : Nat) :
    (s.mapFreed src f).phase = s.phase ∧ (s.mapFreed src f).clock = s.clock ∧ (s.mapFreed src f).cpi = s.cpi ∧
    (s.mapFreed src f).xpt = s.xpt ∧ (s.mapFreed src f).slc = s.slc ∧ (s.mapFreed src f).nwt = s.nwt ∧
    (s.mapFreed src f).nbt = s.nbt ∧ (s.mapFreed src f).adv = s.adv ∧ (s.mapFreed src f).rsl = s.rsl ∧
    (s.mapFreed src f).ple = s.ple ∧ (s.mapFreed src f).cye = s.cye ∧ (s.mapFreed src f).lnc = s.lnc ∧
    (s.mapFreed src f).spm = s.spm ∧ (s.mapFreed src f).cfg = s.cfg ∧ (s.mapFreed src f).svc = s.svc ∧
    (s.mapFreed src f).choices = s.choices ∧ (s.mapFreed src f).pending = s.pending := by
  simp only [State.mapFreed]
  repeat' split
  all_goals simp

end Sys2Proof.Machine
end

