-- ==== Sys2Proof/Laws/Placing.lean ====
section
/-! SUPPORT. What each shared operation of the placement engine and the reports of the slots leaves unchanged: the fields it never writes. -/

namespace Sys2Proof.Machine

@[simp] theorem State.setPle_frame (s : State) (f : Ple → Ple) :
    (s.setPle f).phase = s.phase ∧ (s.setPle f).clock = s.clock ∧ (s.setPle f).cpi = s.cpi ∧
    (s.setPle f).xpt = s.xpt ∧ (s.setPle f).slc = s.slc ∧ (s.setPle f).nwt = s.nwt ∧ (s.setPle f).nbt = s.nbt ∧
    (s.setPle f).adv = s.adv ∧ (s.setPle f).rsl = s.rsl ∧ (s.setPle f).cye = s.cye ∧ (s.setPle f).tkm = s.tkm ∧
    (s.setPle f).lnc = s.lnc ∧ (s.setPle f).spm = s.spm ∧ (s.setPle f).cfg = s.cfg ∧ (s.setPle f).svc = s.svc ∧
    (s.setPle f).choices = s.choices ∧ (s.setPle f).pending = s.pending := by
  simp only [State.setPle]
  simp

@[simp] theorem State.reportOutcome_frame (s : State) (o : Machine.Outcome) :
    (s.reportOutcome o).phase = s.phase ∧ (s.reportOutcome o).clock = s.clock ∧ (s.reportOutcome o).cpi = s.cpi ∧
    (s.reportOutcome o).xpt = s.xpt ∧ (s.reportOutcome o).slc = s.slc ∧ (s.reportOutcome o).rsl = s.rsl ∧
    (s.reportOutcome o).ple = s.ple ∧ (s.reportOutcome o).cye = s.cye ∧ (s.reportOutcome o).tkm = s.tkm ∧
    (s.reportOutcome o).spm = s.spm ∧ (s.reportOutcome o).cfg = s.cfg ∧ (s.reportOutcome o).svc = s.svc ∧
    (s.reportOutcome o).choices = s.choices ∧ (s.reportOutcome o).pending = s.pending := by
  simp only [State.reportOutcome]
  repeat' split
  all_goals simp

@[simp] theorem State.openRecord_frame (s : State) (o : Origin) :
    (s.openRecord o).phase = s.phase ∧ (s.openRecord o).clock = s.clock ∧ (s.openRecord o).cpi = s.cpi ∧
    (s.openRecord o).xpt = s.xpt ∧ (s.openRecord o).slc = s.slc ∧ (s.openRecord o).nwt = s.nwt ∧
    (s.openRecord o).nbt = s.nbt ∧ (s.openRecord o).adv = s.adv ∧ (s.openRecord o).rsl = s.rsl ∧
    (s.openRecord o).cye = s.cye ∧ (s.openRecord o).tkm = s.tkm ∧ (s.openRecord o).lnc = s.lnc ∧
    (s.openRecord o).spm = s.spm ∧ (s.openRecord o).cfg = s.cfg ∧ (s.openRecord o).choices = s.choices ∧
    (s.openRecord o).pending = s.pending := by
  simp only [State.openRecord]
  simp

@[simp] theorem State.withdrawEmergency_frame (s : State) (sl : Slot) :
    (s.withdrawEmergency sl).phase = s.phase ∧ (s.withdrawEmergency sl).clock = s.clock ∧
    (s.withdrawEmergency sl).xpt = s.xpt ∧ (s.withdrawEmergency sl).nwt = s.nwt ∧
    (s.withdrawEmergency sl).nbt = s.nbt ∧ (s.withdrawEmergency sl).adv = s.adv ∧
    (s.withdrawEmergency sl).rsl = s.rsl ∧ (s.withdrawEmergency sl).ple = s.ple ∧
    (s.withdrawEmergency sl).cye = s.cye ∧ (s.withdrawEmergency sl).tkm = s.tkm ∧
    (s.withdrawEmergency sl).lnc = s.lnc ∧ (s.withdrawEmergency sl).spm = s.spm ∧
    (s.withdrawEmergency sl).cfg = s.cfg ∧ (s.withdrawEmergency sl).svc = s.svc ∧
    (s.withdrawEmergency sl).choices = s.choices ∧ (s.withdrawEmergency sl).pending = s.pending := by
  simp only [State.withdrawEmergency]
  repeat' split
  all_goals simp

@[simp] theorem State.windUp_frame (s : State) (c : CendCause) :
    (s.windUp c).phase = s.phase ∧ (s.windUp c).clock = s.clock ∧ (s.windUp c).nwt = s.nwt ∧
    (s.windUp c).nbt = s.nbt ∧ (s.windUp c).adv = s.adv ∧ (s.windUp c).rsl = s.rsl ∧ (s.windUp c).ple = s.ple ∧
    (s.windUp c).tkm = s.tkm ∧ (s.windUp c).spm = s.spm ∧ (s.windUp c).cfg = s.cfg ∧ (s.windUp c).svc = s.svc ∧
    (s.windUp c).choices = s.choices ∧ (s.windUp c).pending = s.pending := by
  simp only [State.windUp]
  repeat' split
  all_goals simp

@[simp] theorem State.finishCall_frame (s : State) (o : LogOutcome) :
    (s.finishCall o).phase = s.phase ∧ (s.finishCall o).clock = s.clock ∧ (s.finishCall o).slc = s.slc ∧
    (s.finishCall o).nwt = s.nwt ∧ (s.finishCall o).nbt = s.nbt ∧ (s.finishCall o).adv = s.adv ∧
    (s.finishCall o).rsl = s.rsl ∧ (s.finishCall o).cye = s.cye ∧ (s.finishCall o).tkm = s.tkm ∧
    (s.finishCall o).lnc = s.lnc ∧ (s.finishCall o).spm = s.spm ∧ (s.finishCall o).cfg = s.cfg ∧
    (s.finishCall o).choices = s.choices ∧ (s.finishCall o).pending = s.pending := by
  simp only [State.finishCall]
  simp

@[simp] theorem State.closeCall_frame (s : State) (c : CendCause) (o : LogOutcome) :
    (s.closeCall c o).phase = s.phase ∧ (s.closeCall c o).clock = s.clock ∧ (s.closeCall c o).nwt = s.nwt ∧
    (s.closeCall c o).nbt = s.nbt ∧ (s.closeCall c o).adv = s.adv ∧ (s.closeCall c o).rsl = s.rsl ∧
    (s.closeCall c o).tkm = s.tkm ∧ (s.closeCall c o).spm = s.spm ∧ (s.closeCall c o).cfg = s.cfg ∧
    (s.closeCall c o).choices = s.choices ∧ (s.closeCall c o).pending = s.pending := by
  simp only [State.closeCall]
  simp

@[simp] theorem State.enterWaiting_frame (s : State) :
    s.enterWaiting.phase = s.phase ∧ s.enterWaiting.clock = s.clock ∧ s.enterWaiting.slc = s.slc ∧
    s.enterWaiting.nwt = s.nwt ∧ s.enterWaiting.nbt = s.nbt ∧ s.enterWaiting.adv = s.adv ∧
    s.enterWaiting.rsl = s.rsl ∧ s.enterWaiting.cye = s.cye ∧ s.enterWaiting.tkm = s.tkm ∧
    s.enterWaiting.lnc = s.lnc ∧ s.enterWaiting.cfg = s.cfg ∧ s.enterWaiting.svc = s.svc ∧
    s.enterWaiting.choices = s.choices ∧ s.enterWaiting.pending = s.pending := by
  simp only [State.enterWaiting]
  simp

@[simp] theorem State.claimEmergency_frame (s : State) (sl : Slot) :
    (s.claimEmergency sl).phase = s.phase ∧ (s.claimEmergency sl).clock = s.clock ∧
    (s.claimEmergency sl).nwt = s.nwt ∧ (s.claimEmergency sl).nbt = s.nbt ∧ (s.claimEmergency sl).adv = s.adv ∧
    (s.claimEmergency sl).rsl = s.rsl ∧ (s.claimEmergency sl).tkm = s.tkm ∧ (s.claimEmergency sl).lnc = s.lnc ∧
    (s.claimEmergency sl).spm = s.spm ∧ (s.claimEmergency sl).cfg = s.cfg ∧ (s.claimEmergency sl).svc = s.svc ∧
    (s.claimEmergency sl).choices = s.choices ∧ (s.claimEmergency sl).pending = s.pending := by
  simp only [State.claimEmergency]
  simp

@[simp] theorem State.waitForScans_frame (s : State) :
    s.waitForScans.phase = s.phase ∧ s.waitForScans.clock = s.clock ∧ s.waitForScans.nwt = s.nwt ∧
    s.waitForScans.nbt = s.nbt ∧ s.waitForScans.adv = s.adv ∧ s.waitForScans.rsl = s.rsl ∧
    s.waitForScans.tkm = s.tkm ∧ s.waitForScans.lnc = s.lnc ∧ s.waitForScans.cfg = s.cfg ∧
    s.waitForScans.svc = s.svc ∧ s.waitForScans.choices = s.choices ∧ s.waitForScans.pending = s.pending := by
  simp only [State.waitForScans]
  repeat' split
  all_goals simp

@[simp] theorem State.beginAttempt_frame (s : State) (c : Candidate) :
    (s.beginAttempt c).phase = s.phase ∧ (s.beginAttempt c).clock = s.clock ∧ (s.beginAttempt c).cpi = s.cpi ∧
    (s.beginAttempt c).xpt = s.xpt ∧ (s.beginAttempt c).slc = s.slc ∧ (s.beginAttempt c).nwt = s.nwt ∧
    (s.beginAttempt c).nbt = s.nbt ∧ (s.beginAttempt c).adv = s.adv ∧ (s.beginAttempt c).rsl = s.rsl ∧
    (s.beginAttempt c).cye = s.cye ∧ (s.beginAttempt c).tkm = s.tkm ∧ (s.beginAttempt c).lnc = s.lnc ∧
    (s.beginAttempt c).spm = s.spm ∧ (s.beginAttempt c).cfg = s.cfg ∧ (s.beginAttempt c).svc = s.svc ∧
    (s.beginAttempt c).choices = s.choices ∧ (s.beginAttempt c).pending = s.pending := by
  simp only [State.beginAttempt]
  simp

@[simp] theorem State.clearAttempt_frame (s : State) :
    s.clearAttempt.phase = s.phase ∧ s.clearAttempt.clock = s.clock ∧ s.clearAttempt.cpi = s.cpi ∧
    s.clearAttempt.slc = s.slc ∧ s.clearAttempt.nwt = s.nwt ∧ s.clearAttempt.nbt = s.nbt ∧
    s.clearAttempt.adv = s.adv ∧ s.clearAttempt.rsl = s.rsl ∧ s.clearAttempt.cye = s.cye ∧
    s.clearAttempt.tkm = s.tkm ∧ s.clearAttempt.lnc = s.lnc ∧ s.clearAttempt.spm = s.spm ∧
    s.clearAttempt.cfg = s.cfg ∧ s.clearAttempt.svc = s.svc ∧ s.clearAttempt.choices = s.choices ∧
    s.clearAttempt.pending = s.pending := by
  simp only [State.clearAttempt]
  simp

@[simp] theorem State.beginRelay_frame (s : State) (n c : Nat) :
    (s.beginRelay n c).phase = s.phase ∧ (s.beginRelay n c).clock = s.clock ∧ (s.beginRelay n c).slc = s.slc ∧
    (s.beginRelay n c).nwt = s.nwt ∧ (s.beginRelay n c).nbt = s.nbt ∧ (s.beginRelay n c).adv = s.adv ∧
    (s.beginRelay n c).rsl = s.rsl ∧ (s.beginRelay n c).cye = s.cye ∧ (s.beginRelay n c).tkm = s.tkm ∧
    (s.beginRelay n c).cfg = s.cfg ∧ (s.beginRelay n c).svc = s.svc ∧ (s.beginRelay n c).choices = s.choices ∧
    (s.beginRelay n c).pending = s.pending := by
  simp only [State.beginRelay]
  simp

@[simp] theorem State.beginOwn_frame (s : State) (sl : Slot) :
    (s.beginOwn sl).phase = s.phase ∧ (s.beginOwn sl).clock = s.clock ∧ (s.beginOwn sl).nwt = s.nwt ∧
    (s.beginOwn sl).nbt = s.nbt ∧ (s.beginOwn sl).adv = s.adv ∧ (s.beginOwn sl).rsl = s.rsl ∧
    (s.beginOwn sl).tkm = s.tkm ∧ (s.beginOwn sl).lnc = s.lnc ∧ (s.beginOwn sl).cfg = s.cfg ∧
    (s.beginOwn sl).svc = s.svc ∧ (s.beginOwn sl).choices = s.choices ∧ (s.beginOwn sl).pending = s.pending := by
  simp only [State.beginOwn]
  simp

@[simp] theorem State.tryRoutes_frame (cs : List Candidate) (s : State) :
    (State.tryRoutes cs s).phase = s.phase ∧ (State.tryRoutes cs s).clock = s.clock ∧
    (State.tryRoutes cs s).nwt = s.nwt ∧ (State.tryRoutes cs s).nbt = s.nbt ∧
    (State.tryRoutes cs s).adv = s.adv ∧ (State.tryRoutes cs s).rsl = s.rsl ∧
    (State.tryRoutes cs s).tkm = s.tkm ∧ (State.tryRoutes cs s).cfg = s.cfg ∧
    (State.tryRoutes cs s).svc = s.svc ∧ (State.tryRoutes cs s).choices = s.choices ∧
    (State.tryRoutes cs s).pending = s.pending := by
  induction cs generalizing s with
  | nil => simp [State.tryRoutes]
  | cons c cs ih =>
    simp only [State.tryRoutes]
    repeat' split
    all_goals simp [ih]

@[simp] theorem State.nextAttempt_frame (s : State) :
    s.nextAttempt.phase = s.phase ∧ s.nextAttempt.clock = s.clock ∧ s.nextAttempt.nwt = s.nwt ∧
    s.nextAttempt.nbt = s.nbt ∧ s.nextAttempt.adv = s.adv ∧ s.nextAttempt.rsl = s.rsl ∧
    s.nextAttempt.tkm = s.tkm ∧ s.nextAttempt.cfg = s.cfg ∧ s.nextAttempt.svc = s.svc ∧
    s.nextAttempt.choices = s.choices ∧ s.nextAttempt.pending = s.pending := by
  simp only [State.nextAttempt]
  simp

@[simp] theorem State.startRound_frame (s : State) :
    s.startRound.phase = s.phase ∧ s.startRound.clock = s.clock ∧ s.startRound.nwt = s.nwt ∧
    s.startRound.nbt = s.nbt ∧ s.startRound.adv = s.adv ∧ s.startRound.tkm = s.tkm ∧ s.startRound.cfg = s.cfg ∧
    s.startRound.svc = s.svc ∧ s.startRound.choices = s.choices ∧ s.startRound.pending = s.pending := by
  simp only [State.startRound]
  repeat' split
  all_goals simp

@[simp] theorem State.endAttempt_frame (s : State) (o : Machine.Outcome) :
    (s.endAttempt o).phase = s.phase ∧ (s.endAttempt o).clock = s.clock ∧ (s.endAttempt o).rsl = s.rsl ∧
    (s.endAttempt o).tkm = s.tkm ∧ (s.endAttempt o).cfg = s.cfg ∧ (s.endAttempt o).svc = s.svc ∧
    (s.endAttempt o).choices = s.choices ∧ (s.endAttempt o).pending = s.pending := by
  simp only [State.endAttempt]
  simp

@[simp] theorem State.endOwnAttempt_frame (s : State) (sl : Slot) (o : Machine.Outcome) :
    (s.endOwnAttempt sl o).phase = s.phase ∧ (s.endOwnAttempt sl o).clock = s.clock ∧
    (s.endOwnAttempt sl o).rsl = s.rsl ∧ (s.endOwnAttempt sl o).tkm = s.tkm ∧
    (s.endOwnAttempt sl o).cfg = s.cfg ∧ (s.endOwnAttempt sl o).svc = s.svc ∧
    (s.endOwnAttempt sl o).choices = s.choices ∧ (s.endOwnAttempt sl o).pending = s.pending := by
  simp only [State.endOwnAttempt]
  simp

@[simp] theorem State.endWaiting_frame (s : State) :
    s.endWaiting.phase = s.phase ∧ s.endWaiting.clock = s.clock ∧ s.endWaiting.nwt = s.nwt ∧
    s.endWaiting.nbt = s.nbt ∧ s.endWaiting.adv = s.adv ∧ s.endWaiting.tkm = s.tkm ∧ s.endWaiting.cfg = s.cfg ∧
    s.endWaiting.svc = s.svc ∧ s.endWaiting.choices = s.choices ∧ s.endWaiting.pending = s.pending := by
  simp only [State.endWaiting]
  simp

@[simp] theorem State.enterTalking_frame (s : State) :
    s.enterTalking.phase = s.phase ∧ s.enterTalking.clock = s.clock ∧ s.enterTalking.xpt = s.xpt ∧
    s.enterTalking.slc = s.slc ∧ s.enterTalking.nwt = s.nwt ∧ s.enterTalking.nbt = s.nbt ∧
    s.enterTalking.adv = s.adv ∧ s.enterTalking.rsl = s.rsl ∧ s.enterTalking.cye = s.cye ∧
    s.enterTalking.tkm = s.tkm ∧ s.enterTalking.lnc = s.lnc ∧ s.enterTalking.cfg = s.cfg ∧
    s.enterTalking.svc = s.svc ∧ s.enterTalking.choices = s.choices ∧ s.enterTalking.pending = s.pending := by
  simp only [State.enterTalking]
  simp

@[simp] theorem State.resumeOrClose_frame (s : State) :
    s.resumeOrClose.phase = s.phase ∧ s.resumeOrClose.clock = s.clock ∧ s.resumeOrClose.nwt = s.nwt ∧
    s.resumeOrClose.nbt = s.nbt ∧ s.resumeOrClose.adv = s.adv ∧ s.resumeOrClose.tkm = s.tkm ∧
    s.resumeOrClose.cfg = s.cfg ∧ s.resumeOrClose.choices = s.choices ∧ s.resumeOrClose.pending = s.pending := by
  simp only [State.resumeOrClose]
  repeat' split
  all_goals simp

@[simp] theorem State.loseTalk_frame (s : State) :
    s.loseTalk.phase = s.phase ∧ s.loseTalk.clock = s.clock ∧ s.loseTalk.tkm = s.tkm ∧ s.loseTalk.cfg = s.cfg ∧
    s.loseTalk.choices = s.choices ∧ s.loseTalk.pending = s.pending := by
  simp only [State.loseTalk]
  repeat' split
  all_goals simp

@[simp] theorem State.farEndClear_frame (s : State) :
    s.farEndClear.phase = s.phase ∧ s.farEndClear.clock = s.clock ∧ s.farEndClear.nwt = s.nwt ∧
    s.farEndClear.nbt = s.nbt ∧ s.farEndClear.adv = s.adv ∧ s.farEndClear.rsl = s.rsl ∧
    s.farEndClear.tkm = s.tkm ∧ s.farEndClear.lnc = s.lnc ∧ s.farEndClear.spm = s.spm ∧
    s.farEndClear.cfg = s.cfg ∧ s.farEndClear.choices = s.choices ∧ s.farEndClear.pending = s.pending := by
  simp only [State.farEndClear]
  repeat' split
  all_goals simp

@[simp] theorem State.localReport_frame (s : State) (sl : Slot) (r : SlotReport) :
    (s.localReport sl r).phase = s.phase ∧ (s.localReport sl r).clock = s.clock ∧
    (s.localReport sl r).tkm = s.tkm ∧ (s.localReport sl r).cfg = s.cfg ∧
    (s.localReport sl r).choices = s.choices ∧ (s.localReport sl r).pending = s.pending := by
  simp only [State.localReport]
  repeat' split
  all_goals simp

@[simp] theorem State.localClaimFault_frame (s : State) :
    s.localClaimFault.phase = s.phase ∧ s.localClaimFault.clock = s.clock ∧ s.localClaimFault.rsl = s.rsl ∧
    s.localClaimFault.tkm = s.tkm ∧ s.localClaimFault.cfg = s.cfg ∧ s.localClaimFault.svc = s.svc ∧
    s.localClaimFault.choices = s.choices ∧ s.localClaimFault.pending = s.pending := by
  simp only [State.localClaimFault]
  repeat' split
  all_goals simp

@[simp] theorem State.emergencyScanEnded_frame (s : State) (sl : Slot) :
    (s.emergencyScanEnded sl).phase = s.phase ∧ (s.emergencyScanEnded sl).clock = s.clock ∧
    (s.emergencyScanEnded sl).nwt = s.nwt ∧ (s.emergencyScanEnded sl).nbt = s.nbt ∧
    (s.emergencyScanEnded sl).adv = s.adv ∧ (s.emergencyScanEnded sl).tkm = s.tkm ∧
    (s.emergencyScanEnded sl).cfg = s.cfg ∧ (s.emergencyScanEnded sl).svc = s.svc ∧
    (s.emergencyScanEnded sl).choices = s.choices ∧ (s.emergencyScanEnded sl).pending = s.pending := by
  simp only [State.emergencyScanEnded]
  repeat' split
  all_goals simp

@[simp] theorem State.reportHolder_frame (s : State) (sl : Slot) (h : Holder) (r : SlotReport) :
    (s.reportHolder sl h r).phase = s.phase ∧ (s.reportHolder sl h r).clock = s.clock ∧
    (s.reportHolder sl h r).cfg = s.cfg ∧ (s.reportHolder sl h r).choices = s.choices ∧
    (s.reportHolder sl h r).pending = s.pending := by
  simp only [State.reportHolder]
  repeat' split
  all_goals simp

@[simp] theorem State.reportScanEnd_frame (s : State) (sl : Slot) (k : ScanKind) :
    (s.reportScanEnd sl k).phase = s.phase ∧ (s.reportScanEnd sl k).clock = s.clock ∧
    (s.reportScanEnd sl k).nwt = s.nwt ∧ (s.reportScanEnd sl k).nbt = s.nbt ∧
    (s.reportScanEnd sl k).tkm = s.tkm ∧ (s.reportScanEnd sl k).cfg = s.cfg ∧
    (s.reportScanEnd sl k).svc = s.svc ∧ (s.reportScanEnd sl k).choices = s.choices ∧
    (s.reportScanEnd sl k).pending = s.pending := by
  simp only [State.reportScanEnd]
  repeat' split
  all_goals simp

@[simp] theorem State.endScan_frame (s : State) (sl : Slot) :
    (s.endScan sl).phase = s.phase ∧ (s.endScan sl).clock = s.clock ∧ (s.endScan sl).nwt = s.nwt ∧
    (s.endScan sl).nbt = s.nbt ∧ (s.endScan sl).tkm = s.tkm ∧ (s.endScan sl).cfg = s.cfg ∧
    (s.endScan sl).svc = s.svc ∧ (s.endScan sl).choices = s.choices ∧ (s.endScan sl).pending = s.pending := by
  simp only [State.endScan]
  repeat' split
  all_goals simp

@[simp] theorem State.carryClaimFaults_frame (s : State) (ids : List CarryId) :
    (s.carryClaimFaults ids).phase = s.phase ∧ (s.carryClaimFaults ids).clock = s.clock ∧
    (s.carryClaimFaults ids).nbt = s.nbt ∧ (s.carryClaimFaults ids).rsl = s.rsl ∧
    (s.carryClaimFaults ids).ple = s.ple ∧ (s.carryClaimFaults ids).spm = s.spm ∧
    (s.carryClaimFaults ids).cfg = s.cfg ∧ (s.carryClaimFaults ids).choices = s.choices ∧
    (s.carryClaimFaults ids).pending = s.pending := by
  have key : ∀ (l : List CarryRec) (s : State),
      (fun t : State => t.phase = s.phase ∧ t.clock = s.clock ∧ t.nbt = s.nbt ∧ t.rsl = s.rsl ∧ t.ple = s.ple ∧ t.spm = s.spm ∧
        t.cfg = s.cfg ∧ t.choices = s.choices ∧ t.pending = s.pending) (l.foldl (fun st c => st.carryClaimFault c.id) s) := by
    intro l
    induction l with
    | nil => intro s; simp
    | cons c cs ih => intro s; simpa using ih (s.carryClaimFault c.id)
  simpa [State.carryClaimFaults] using key (s.cye.filter fun c => ids.contains c.id) s

@[simp] theorem State.slotFault_frame (s : State) (sl : Slot) :
    (s.slotFault sl).phase = s.phase ∧ (s.slotFault sl).clock = s.clock ∧ (s.slotFault sl).cfg = s.cfg ∧
    (s.slotFault sl).choices = s.choices ∧ (s.slotFault sl).pending = s.pending := by
  simp only [State.slotFault]
  repeat' split
  all_goals simp

@[simp] theorem State.startCall_frame (s : State) (o : Origin) :
    (s.startCall o).phase = s.phase ∧ (s.startCall o).clock = s.clock ∧ (s.startCall o).nwt = s.nwt ∧
    (s.startCall o).nbt = s.nbt ∧ (s.startCall o).adv = s.adv ∧ (s.startCall o).tkm = s.tkm ∧
    (s.startCall o).cfg = s.cfg ∧ (s.startCall o).choices = s.choices ∧ (s.startCall o).pending = s.pending := by
  simp only [State.startCall]
  simp

@[simp] theorem State.answerCallback_frame (s : State) :
    s.answerCallback.phase = s.phase ∧ s.answerCallback.clock = s.clock ∧ s.answerCallback.nwt = s.nwt ∧
    s.answerCallback.nbt = s.nbt ∧ s.answerCallback.adv = s.adv ∧ s.answerCallback.rsl = s.rsl ∧
    s.answerCallback.cye = s.cye ∧ s.answerCallback.tkm = s.tkm ∧ s.answerCallback.lnc = s.lnc ∧
    s.answerCallback.cfg = s.cfg ∧ s.answerCallback.svc = s.svc ∧ s.answerCallback.choices = s.choices ∧
    s.answerCallback.pending = s.pending := by
  simp only [State.answerCallback]
  repeat' split
  all_goals simp

@[simp] theorem State.takePress_frame (s : State) :
    s.takePress.phase = s.phase ∧ s.takePress.clock = s.clock ∧ s.takePress.nwt = s.nwt ∧
    s.takePress.nbt = s.nbt ∧ s.takePress.adv = s.adv ∧ s.takePress.tkm = s.tkm ∧ s.takePress.cfg = s.cfg ∧
    s.takePress.choices = s.choices ∧ s.takePress.pending = s.pending := by
  simp only [State.takePress]
  repeat' split
  all_goals simp

@[simp] theorem State.takeLift_frame (s : State) :
    s.takeLift.phase = s.phase ∧ s.takeLift.clock = s.clock ∧ s.takeLift.nwt = s.nwt ∧ s.takeLift.nbt = s.nbt ∧
    s.takeLift.adv = s.adv ∧ s.takeLift.tkm = s.tkm ∧ s.takeLift.cfg = s.cfg ∧ s.takeLift.choices = s.choices ∧
    s.takeLift.pending = s.pending := by
  simp only [State.takeLift]
  repeat' split
  all_goals simp

@[simp] theorem State.takeReplacement_frame (s : State) :
    s.takeReplacement.phase = s.phase ∧ s.takeReplacement.clock = s.clock ∧ s.takeReplacement.nwt = s.nwt ∧
    s.takeReplacement.nbt = s.nbt ∧ s.takeReplacement.adv = s.adv ∧ s.takeReplacement.rsl = s.rsl ∧
    s.takeReplacement.tkm = s.tkm ∧ s.takeReplacement.spm = s.spm ∧ s.takeReplacement.cfg = s.cfg ∧
    s.takeReplacement.choices = s.choices ∧ s.takeReplacement.pending = s.pending := by
  simp only [State.takeReplacement]
  repeat' split
  all_goals simp

@[simp] theorem State.takeCallin_frame (s : State) (sl : Slot) :
    (s.takeCallin sl).phase = s.phase ∧ (s.takeCallin sl).clock = s.clock ∧ (s.takeCallin sl).nwt = s.nwt ∧
    (s.takeCallin sl).nbt = s.nbt ∧ (s.takeCallin sl).tkm = s.tkm ∧ (s.takeCallin sl).cfg = s.cfg ∧
    (s.takeCallin sl).choices = s.choices ∧ (s.takeCallin sl).pending = s.pending := by
  simp only [State.takeCallin]
  repeat' split
  all_goals simp

@[simp] theorem State.takeTrunk_frame (s : State) (n : Nat) (t : Trunk) :
    (s.takeTrunk n t).phase = s.phase ∧ (s.takeTrunk n t).clock = s.clock ∧ (s.takeTrunk n t).cpi = s.cpi ∧
    (s.takeTrunk n t).slc = s.slc ∧ (s.takeTrunk n t).nwt = s.nwt ∧ (s.takeTrunk n t).nbt = s.nbt ∧
    (s.takeTrunk n t).adv = s.adv ∧ (s.takeTrunk n t).rsl = s.rsl ∧ (s.takeTrunk n t).cye = s.cye ∧
    (s.takeTrunk n t).tkm = s.tkm ∧ (s.takeTrunk n t).spm = s.spm ∧ (s.takeTrunk n t).cfg = s.cfg ∧
    (s.takeTrunk n t).svc = s.svc ∧ (s.takeTrunk n t).choices = s.choices ∧ (s.takeTrunk n t).pending = s.pending := by
  simp only [State.takeTrunk]
  simp

@[simp] theorem State.restartSilence_frame (s : State) :
    s.restartSilence.phase = s.phase ∧ s.restartSilence.clock = s.clock ∧ s.restartSilence.cpi = s.cpi ∧
    s.restartSilence.xpt = s.xpt ∧ s.restartSilence.slc = s.slc ∧ s.restartSilence.nwt = s.nwt ∧
    s.restartSilence.nbt = s.nbt ∧ s.restartSilence.adv = s.adv ∧ s.restartSilence.rsl = s.rsl ∧
    s.restartSilence.cye = s.cye ∧ s.restartSilence.tkm = s.tkm ∧ s.restartSilence.lnc = s.lnc ∧
    s.restartSilence.spm = s.spm ∧ s.restartSilence.cfg = s.cfg ∧ s.restartSilence.svc = s.svc ∧
    s.restartSilence.choices = s.choices ∧ s.restartSilence.pending = s.pending := by
  simp only [State.restartSilence]
  simp

@[simp] theorem State.moveToTrunk_frame (s : State) (n : Nat) (t : Trunk) :
    (s.moveToTrunk n t).phase = s.phase ∧ (s.moveToTrunk n t).clock = s.clock ∧ (s.moveToTrunk n t).cpi = s.cpi ∧
    (s.moveToTrunk n t).slc = s.slc ∧ (s.moveToTrunk n t).nwt = s.nwt ∧ (s.moveToTrunk n t).nbt = s.nbt ∧
    (s.moveToTrunk n t).adv = s.adv ∧ (s.moveToTrunk n t).rsl = s.rsl ∧ (s.moveToTrunk n t).cye = s.cye ∧
    (s.moveToTrunk n t).tkm = s.tkm ∧ (s.moveToTrunk n t).spm = s.spm ∧ (s.moveToTrunk n t).cfg = s.cfg ∧
    (s.moveToTrunk n t).svc = s.svc ∧ (s.moveToTrunk n t).choices = s.choices ∧
    (s.moveToTrunk n t).pending = s.pending := by
  simp only [State.moveToTrunk]
  repeat' split
  all_goals simp

@[simp] theorem State.takeCack_frame (s : State) (src i : Nat) (t : Trunk) :
    (s.takeCack src i t).phase = s.phase ∧ (s.takeCack src i t).clock = s.clock ∧
    (s.takeCack src i t).cpi = s.cpi ∧ (s.takeCack src i t).slc = s.slc ∧ (s.takeCack src i t).nwt = s.nwt ∧
    (s.takeCack src i t).nbt = s.nbt ∧ (s.takeCack src i t).adv = s.adv ∧ (s.takeCack src i t).rsl = s.rsl ∧
    (s.takeCack src i t).cye = s.cye ∧ (s.takeCack src i t).tkm = s.tkm ∧ (s.takeCack src i t).spm = s.spm ∧
    (s.takeCack src i t).cfg = s.cfg ∧ (s.takeCack src i t).svc = s.svc ∧
    (s.takeCack src i t).choices = s.choices ∧ (s.takeCack src i t).pending = s.pending := by
  simp only [State.takeCack]
  repeat' split
  all_goals simp

@[simp] theorem State.takeCnak_frame (s : State) (src i : Nat) (r : CnakReason) :
    (s.takeCnak src i r).phase = s.phase ∧ (s.takeCnak src i r).clock = s.clock ∧
    (s.takeCnak src i r).rsl = s.rsl ∧ (s.takeCnak src i r).tkm = s.tkm ∧ (s.takeCnak src i r).cfg = s.cfg ∧
    (s.takeCnak src i r).svc = s.svc ∧ (s.takeCnak src i r).choices = s.choices ∧
    (s.takeCnak src i r).pending = s.pending := by
  simp only [State.takeCnak]
  repeat' split
  all_goals simp

@[simp] theorem State.takeStage_frame (s : State) (st : CprgStage) :
    (s.takeStage st).phase = s.phase ∧ (s.takeStage st).clock = s.clock ∧ (s.takeStage st).tkm = s.tkm ∧
    (s.takeStage st).cfg = s.cfg ∧ (s.takeStage st).choices = s.choices ∧ (s.takeStage st).pending = s.pending := by
  simp only [State.takeStage]
  repeat' split
  all_goals simp

@[simp] theorem State.takeCprg_frame (s : State) (src i : Nat) (st : CprgStage) :
    (s.takeCprg src i st).phase = s.phase ∧ (s.takeCprg src i st).clock = s.clock ∧
    (s.takeCprg src i st).tkm = s.tkm ∧ (s.takeCprg src i st).cfg = s.cfg ∧
    (s.takeCprg src i st).choices = s.choices ∧ (s.takeCprg src i st).pending = s.pending := by
  simp only [State.takeCprg]
  repeat' split
  all_goals simp

@[simp] theorem State.takeTmov_frame (s : State) (src i : Nat) (t : Trunk) :
    (s.takeTmov src i t).phase = s.phase ∧ (s.takeTmov src i t).clock = s.clock ∧
    (s.takeTmov src i t).cpi = s.cpi ∧ (s.takeTmov src i t).slc = s.slc ∧ (s.takeTmov src i t).nwt = s.nwt ∧
    (s.takeTmov src i t).nbt = s.nbt ∧ (s.takeTmov src i t).adv = s.adv ∧ (s.takeTmov src i t).rsl = s.rsl ∧
    (s.takeTmov src i t).cye = s.cye ∧ (s.takeTmov src i t).tkm = s.tkm ∧ (s.takeTmov src i t).spm = s.spm ∧
    (s.takeTmov src i t).cfg = s.cfg ∧ (s.takeTmov src i t).svc = s.svc ∧
    (s.takeTmov src i t).choices = s.choices ∧ (s.takeTmov src i t).pending = s.pending := by
  simp only [State.takeTmov]
  repeat' split
  all_goals simp

@[simp] theorem State.heardCarrier_frame (s : State) (f h : Nat) :
    (s.heardCarrier f h).phase = s.phase ∧ (s.heardCarrier f h).clock = s.clock ∧
    (s.heardCarrier f h).cpi = s.cpi ∧ (s.heardCarrier f h).xpt = s.xpt ∧ (s.heardCarrier f h).slc = s.slc ∧
    (s.heardCarrier f h).nwt = s.nwt ∧ (s.heardCarrier f h).nbt = s.nbt ∧ (s.heardCarrier f h).adv = s.adv ∧
    (s.heardCarrier f h).rsl = s.rsl ∧ (s.heardCarrier f h).cye = s.cye ∧ (s.heardCarrier f h).tkm = s.tkm ∧
    (s.heardCarrier f h).lnc = s.lnc ∧ (s.heardCarrier f h).spm = s.spm ∧ (s.heardCarrier f h).cfg = s.cfg ∧
    (s.heardCarrier f h).svc = s.svc ∧ (s.heardCarrier f h).choices = s.choices ∧
    (s.heardCarrier f h).pending = s.pending := by
  simp only [State.heardCarrier]
  repeat' split
  all_goals simp

end Sys2Proof.Machine
end

