-- ==== Sys2Proof/Laws/Commands.lean ====
section
/-! SUPPORT. What the shared operations do where their conditions hold: due timers, heard frames, heard modules, slots,
trunks and the ends of attempts. The proofs about commands cite these and do not unfold the operations. -/

namespace Sys2Proof.Machine

/-! ### Congruence: a view of one field follows that field -/

theorem slot_of_slc {s t : State} (h : t.slc = s.slc) (sl : Slot) : t.slot sl = s.slot sl := by
  cases sl <;> simp [State.slot, h]

theorem table_of_nwt {s t : State} (h : t.nwt = s.nwt) (sl : Slot) : t.table sl = s.table sl := by
  cases sl <;> simp [State.table, h]

theorem trunk_of_tkm {s t : State} (h : t.tkm = s.tkm) (tr : Trunk) : t.trunk tr = s.trunk tr := by
  simp [State.trunk, h]

theorem own_of_cfg {s t : State} (h : t.cfg = s.cfg) : t.own = s.own := by simp [State.own, h]

theorem ownNum_of_cfg {s t : State} (h : t.cfg = s.cfg) : t.ownNum = s.ownNum := by
  simp [State.ownNum, State.own, h]

theorem slc_of_slot {s t : State} (h : ∀ sl, t.slot sl = s.slot sl) : t.slc = s.slc := by
  have a := h .a
  have b := h .b
  simp only [State.slot] at a b
  cases hs : s.slc
  cases ht : t.slc
  simp_all

theorem nwt_of_table {s t : State} (h : ∀ sl, t.table sl = s.table sl) : t.nwt = s.nwt := by
  have a := h .a
  have b := h .b
  simp only [State.table] at a b
  cases hs : s.nwt
  cases ht : t.nwt
  simp_all

theorem otherSlot_ne (sl : Slot) : otherSlot sl ≠ sl := by cases sl <;> simp [otherSlot]

theorem trunkOf_trunkNum (t : Trunk) : trunkOf (trunkNum t) = some t := by cases t <;> rfl

/-! ### Commands that act -/

/-- A due timer's expiry runs its effect at the moment it stands at. -/
theorem expire_due {s : State} {t : Option Nat} {at_ : Nat} (f : State → State) (h : s.Due t at_) :
    s.expire t f = f (s.advanceTo at_) := by
  obtain ⟨h1, h2⟩ := h
  simp [State.expire, h1, State.isDue, h2]

theorem whenRunning_running {s : State} (f : State → State) (h : s.phase = .running) : s.whenRunning f = f s := by
  simp [State.whenRunning, h]

/-- A frame that the box hears runs its effect at the moment it is taken. -/
theorem receive_hears {s : State} {h : Header} (b : Body) (ms : Nat) (f : State → State) (hh : s.Hears h) :
    s.receive h b ms f = f (s.frameHeard ms) := by
  obtain ⟨h1, h2, h3, h4, h5⟩ := hh
  simp only [State.receive, whenRunning_running _ h1]
  have : (s.frameHeard ms).own = s.own := by simp [State.own]
  simp [headerFate, h2, h3, this, h4, h5]

/-- A message of a module past its warm-up runs its effect with the heartbeat watch restarted. -/
theorem hear_pastWarmUp {s : State} {sl : Slot} (ms : Nat) (f : State → State) (h : s.phase = .running)
    (hs : isPastWarmUp (s.slot sl).state = true) : s.hear sl ms f = f ((s.arrive ms).hearModule sl) := by
  simp only [State.hear, whenRunning_running _ h]
  rw [if_pos]
  rw [slot_of_slc (s := s) (by simp)]
  exact hs

@[simp] theorem arrive_slot (s : State) (ms : Nat) (sl : Slot) : (s.arrive ms).slot sl = s.slot sl :=
  slot_of_slc (by simp) _

@[simp] theorem arrive_table (s : State) (ms : Nat) (sl : Slot) : (s.arrive ms).table sl = s.table sl :=
  table_of_nwt (by simp) _

@[simp] theorem advanceTo_slot (s : State) (ms : Nat) (sl : Slot) : (s.advanceTo ms).slot sl = s.slot sl :=
  slot_of_slc (by simp) _

@[simp] theorem advanceTo_table (s : State) (ms : Nat) (sl : Slot) : (s.advanceTo ms).table sl = s.table sl :=
  table_of_nwt (by simp) _

@[simp] theorem advanceTo_now (s : State) (t : Nat) : (s.advanceTo t).clock.now = max s.clock.now t := rfl

@[simp] theorem advanceTo_second (s : State) (t : Nat) : (s.advanceTo t).clock.second = s.clock.second := rfl

/-! ### Slots and tables -/

theorem hearModule_slot (s : State) (sl : Slot) :
    (s.hearModule sl).slot sl =
      ({ s.slot sl with heartbeat := some (s.clock.now + 15000) }).settleIdle s.clock.now := by
  simp [State.hearModule, heartbeatMs]

theorem hearModule_other (s : State) (sl : Slot) :
    (s.hearModule sl).slot (otherSlot sl) = s.slot (otherSlot sl) := by
  simp [State.hearModule]

/-- Settling the idle timer writes no other field of a slot. -/
theorem settleIdle_eq (r : SlotRec) (n : Nat) : r.settleIdle n = { r with idleTimer := (r.settleIdle n).idleTimer } := by
  unfold SlotRec.settleIdle
  split <;> simp

theorem settleIdle_not_idle (r : SlotRec) (n : Nat) (h : r.state ≠ .idle) :
    r.settleIdle n = { r with idleTimer := none } := by
  simp [SlotRec.settleIdle, SlotRec.isUnused, h]

@[simp] theorem setSlot_table (s : State) (sl : Slot) (f : SlotRec → SlotRec) (k : Slot) :
    (s.setSlot sl f).table k = s.table k := table_of_nwt (by simp) _

@[simp] theorem tableEvent_slot (s : State) (sl : Slot) (f : List NetEntry → List NetEntry) (k : Slot) :
    (s.tableEvent sl f).slot k = s.slot k := slot_of_slc (by simp) _

theorem tableEvent_table (s : State) (sl : Slot) (f : List NetEntry → List NetEntry) :
    (s.tableEvent sl f).table sl = f (s.table sl) := by
  unfold State.tableEvent
  rw [table_of_nwt (s := s.withTable sl (f (s.table sl))) (by simp)]
  simp

theorem tableEvent_other (s : State) (sl : Slot) (f : List NetEntry → List NetEntry) :
    (s.tableEvent sl f).table (otherSlot sl) = s.table (otherSlot sl) := by
  unfold State.tableEvent
  rw [table_of_nwt (s := s.withTable sl (f (s.table sl))) (by simp)]
  simp

/-- R69, R73: the arbiter grants nothing in a slot that is not free. -/
theorem arbiter_busy (s : State) (sl : Slot) (h : (s.slot sl).state ≠ .idle ∨ (s.slot sl).grant ≠ .nobody) :
    s.arbiter sl = s := by
  rw [State.arbiter, if_neg (by tauto)]

/-- R69: with no claim waiting the arbiter grants nothing. -/
theorem arbiter_noClaims (s : State) (sl : Slot) (h : (s.slot sl).NoClaims) : s.arbiter sl = s := by
  obtain ⟨h1, h2, h3⟩ := h
  rw [State.arbiter]
  split
  · have e : s.cye.find? (fun c => (s.slot sl).waitingCarry.contains c.id) = none := by
      rw [List.find?_eq_none]
      simp [h2]
    simp only [h1, e, h3]
    simp
  · rfl

/-! ### The line, the connections and the trunks -/

/-- R142: the line idle time follows the line and the time base. -/
theorem lineIdle_of {s t : State} (h : t.lnc = s.lnc) (hn : t.clock.now = s.clock.now) : t.lineIdle = s.lineIdle := by
  simp [State.lineIdle, State.lastByte, h, hn]

/-- R149: sending at once follows the line and the time base. -/
theorem sendIfQuiet_lnc_congr {s t : State} (h : t.lnc = s.lnc) (hn : t.clock.now = s.clock.now) :
    t.sendIfQuiet.lnc = s.sendIfQuiet.lnc := by
  simp [State.sendIfQuiet_lnc, lineIdle_of h hn, h, hn]

/-- R147, R149: what a frame handed to LNC makes of it. -/
theorem hand_lnc (s : State) (d : Nat) (b : Body) : (s.hand d b).lnc =
    match s.own with
    | some _ =>
      let l := { s.lnc with queue := enqueue s.lnc.queue { dst := d, body := b } }
      if s.lnc.tx = .idle then (s.withLnc l.takeFrame).sendIfQuiet.lnc else l
    | none => s.lnc := by
  unfold State.hand
  split <;> rename_i h <;> simp only [h]
  split <;> simp [*, State.sendIfQuiet_lnc]
  rfl

theorem hand_lnc_congr {s t : State} (d : Nat) (b : Body) (h : t.lnc = s.lnc) (hc : t.cfg = s.cfg)
    (hn : t.clock.now = s.clock.now) : (t.hand d b).lnc = (s.hand d b).lnc := by
  simp only [hand_lnc, h, own_of_cfg hc]
  cases s.own <;> simp only
  split
  · exact sendIfQuiet_lnc_congr (by simp) (by simpa using hn)
  · rfl

theorem xptJoin_congr {s t : State} (o : Owner) (x y : Endpoint) (h : t.xpt = s.xpt) (hc : t.clock = s.clock) :
    (t.xptJoin o x y).xpt = (s.xptJoin o x y).xpt := by
  simp [State.xptJoin, h, hc]

@[simp] theorem setTrunk_trunk (s : State) (t : Trunk) (e : TrunkEntry) : (s.setTrunk t e).trunk t = e := by
  simp [State.setTrunk, State.trunk]

theorem setTrunk_trunk_ne (s : State) (t v : Trunk) (e : TrunkEntry) (h : v ≠ t) :
    (s.setTrunk t e).trunk v = s.trunk v := by
  simp [State.setTrunk, State.trunk, Tkm.get_set_of_ne _ _ (Ne.symm h)]

theorem frameHeard_isMine (s : State) (h : Header) (ms : Nat) : (s.frameHeard ms).isMine h = (s.own == some h.dst) := by
  simp [State.isMine, own_of_cfg (s := s) (t := s.frameHeard ms)]

/-- R118, R119: an announcement on a trunk this box does not hold makes it HELD by its source. -/
theorem mapAnnounced_notMine (s : State) (src : Nat) (tr : Trunk) (h63 : src ≠ 63)
    (h1 : ∀ id g b x, s.trunk tr ≠ .claiming id g b x) (h2 : ∀ id x, s.trunk tr ≠ .owned id x) :
    s.mapAnnounced src (trunkNum tr) = s.setTrunk tr (.held src (s.clock.now + holdMs)) := by
  simp only [State.mapAnnounced, trunkOf_trunkNum, h63, if_false, State.trunkAnnounced]
  cases he : s.trunk tr with
  | claiming a b c d => exact absurd he (h1 _ _ _ _)
  | owned a b => exact absurd he (h2 _ _)
  | _ => rfl

/-- A CACK or TMOV for another box reaches the trunk map alone. -/
theorem takeAnnouncement_notMine (s : State) (h : Header) (ms : Nat) (tr : Trunk) (f : Trunk → State → State)
    (hd : s.own ≠ some h.dst) :
    (s.frameHeard ms).takeAnnouncement h (trunkNum tr) f = (s.frameHeard ms).mapAnnounced h.src (trunkNum tr) := by
  have : (s.own == some h.dst) = false := by simpa using hd
  simp [State.takeAnnouncement, frameHeard_isMine, this]

/-- A CACK or TMOV for this box is taken by PLE and by the trunk map, in one of the two orders (log 6). -/
theorem takeAnnouncement_mine (s : State) (h : Header) (ms : Nat) (tr : Trunk) (f : Trunk → State → State)
    (hd : s.own = some h.dst) :
    ∃ c, (s.frameHeard ms).takeAnnouncement h (trunkNum tr) f =
        (f tr ((s.frameHeard ms).withChoices c)).mapAnnounced h.src (trunkNum tr) ∨
      (s.frameHeard ms).takeAnnouncement h (trunkNum tr) f =
        f tr (((s.frameHeard ms).withChoices c).mapAnnounced h.src (trunkNum tr)) := by
  refine ⟨(s.frameHeard ms).choices + 1, ?_⟩
  simp only [State.takeAnnouncement, frameHeard_isMine, hd, beq_self_eq_true, if_true, trunkOf_trunkNum,
    State.inFreeOrder, inOrder]
  cases Config.pleFirst (s.frameHeard ms).choices <;> simp

theorem serveWaiting_owner (o : Owner) (n : Nat) (x : Xpt) (h1 : ∀ j ∈ x.joins, j.owner ≠ o)
    (h2 : ∀ j ∈ x.waiting, j.owner ≠ o) :
    (∀ j ∈ (Xpt.serveWaiting n x).joins, j.owner ≠ o) ∧ (∀ j ∈ (Xpt.serveWaiting n x).waiting, j.owner ≠ o) := by
  induction n generalizing x with
  | zero => exact ⟨h1, h2⟩
  | succ n ih =>
    simp only [Xpt.serveWaiting]
    split
    · rename_i j hj
      have hm := List.mem_of_find?_eq_some hj
      apply ih
      · intro k hk
        simp [Xpt.make] at hk
        rcases hk with hk | rfl
        · exact h1 _ hk.1
        · exact h2 _ hm
      · intro k hk
        simp [Xpt.make] at hk
        exact h2 _ hk.1
    · exact ⟨h1, h2⟩

theorem cueAfter_lists (x y : Xpt) (n : Nat) :
    (x.cueAfter y n).joins = y.joins ∧ (x.cueAfter y n).waiting = y.waiting := by
  simp only [Xpt.cueAfter]
  split <;> (try split) <;> simp

/-- R168: a break leaves no connection and no waiting join of its owner. -/
theorem xptBreak_owner (s : State) (o : Owner) :
    (∀ j ∈ (s.xptBreak o).xpt.joins, j.owner ≠ o) ∧ (∀ j ∈ (s.xptBreak o).xpt.waiting, j.owner ≠ o) := by
  simp only [State.xptBreak, State.withXpt_xpt, Xpt.break]
  split
  · rw [(cueAfter_lists _ _ _).1, (cueAfter_lists _ _ _).2]
    apply serveWaiting_owner <;> (intro j hj; simp at hj; exact hj.2)
  · constructor <;> (intro j hj; simp at hj; exact hj.2)

/-! ### Attempts and carries -/

/-- R12: with every route of the list tried, the next attempt is the wait. -/
theorem nextAttempt_allTried (s : State) (h : s.AllTried) : s.nextAttempt = s.enterWaiting := by
  have e : (s.rsl.filter fun c => !s.ple.tried.contains c.route) = [] := by
    simp [List.filter_eq_nil_iff]
    exact fun c hc => h c hc
  rw [State.nextAttempt, e, State.tryRoutes]

/-- R26: an attempt that ends with every route tried reports its outcome and waits. -/
theorem endAttempt_allTried (s : State) (o : Machine.Outcome) (h : s.AllTried) :
    s.endAttempt o = (s.reportOutcome o).clearAttempt.enterWaiting := by
  rw [State.endAttempt, nextAttempt_allTried]
  intro c hc
  simp [State.clearAttempt, State.setPle, Ple.stopAttemptTimers] at hc ⊢
  exact h c hc

/-- R11, R26: the record of a call that waits after an attempt. -/
theorem clearAttempt_enterWaiting_ple (s : State) : s.clearAttempt.enterWaiting.ple =
    { s.ple with
      state := .waiting, trunk := none, answerTimer := none, holdRefresh := none, carrierSilence := none,
      ringLimit := none, pauseTimer := some (s.clock.now + s.ple.pauseLength * 1000) } := by
  simp [State.enterWaiting, State.clearAttempt, State.setPle, Ple.stopAttemptTimers, State.enterCallState]
  split <;> simp

/-- R23: a relay attempt's carrier is the neighbour of its route. -/
theorem relayCarrier_route {p : Ple} {n : Nat} (h : p.relayCarrier = some n) :
    ∃ c, p.route = some ⟨.box n, c⟩ ∧ (p.state = .relaying ∨ p.state = .ringing ∨ p.state = .talking) := by
  unfold Ple.relayCarrier at h
  split at h <;> simp_all

/-- In a carry queue without repeats a record is found under its identity. -/
theorem findCarry_mem {s : State} (h : s.QueueSound) {c : CarryRec} (hc : c ∈ s.cye) :
    findCarry s.cye c.id = some c := by
  have find (l : List CarryRec) (hn : (l.map CarryRec.id).Nodup) (hc : c ∈ l) :
      l.find? (fun d => d.id == c.id) = some c := by
    induction l with
    | nil => simp at hc
    | cons a l ih =>
      simp only [List.map_cons, List.nodup_cons] at hn
      rw [List.find?_cons]
      rcases List.mem_cons.1 hc with rfl | hc
      · simp
      · have ne : a.id ≠ c.id := by
          intro e
          exact hn.1 (e ▸ List.mem_map_of_mem hc)
        have e : (a.id == c.id) = false := by simpa using ne
        rw [e]
        exact ih hn.2 hc
  exact find s.cye h.2 hc

/-- R89, R112: the trunk a carry owns is the one the map gives for it. -/
theorem trunkOfCarry_owner (s : State) (hs : s.TrunksAgree) (hq : s.QueueSound) (t : Trunk) (id : CarryId)
    (h : (s.trunk t).owner = some id) : s.tkm.trunkOfCarry id = some t := by
  obtain ⟨c, hc, hi, ht⟩ := hs.2 t id h
  have : ∀ u, (s.tkm.get u).owner = some id → u = t := by
    intro u hu
    obtain ⟨d, hd, hdi, hdt⟩ := hs.2 u id hu
    have e1 := findCarry_mem hq hc
    have e2 := findCarry_mem hq hd
    rw [hi] at e1
    rw [hdi] at e2
    rw [e1] at e2
    cases e2
    rw [← hdt, ht]
  simp only [Tkm.trunkOfCarry]
  have hm : t ∈ [Trunk.t1, .t2, .t3, .t4] := by cases t <;> simp
  cases hf : [Trunk.t1, .t2, .t3, .t4].find? fun u => (s.tkm.get u).owner == some id with
  | none =>
    have := List.find?_eq_none.1 hf t hm
    simp [show (s.tkm.get t).owner = some id from h] at this
  | some u => rw [this u (by simpa using List.find?_some hf)]

end Sys2Proof.Machine
end

