-- ==== Sys2Proof/Laws/Announcements.lean ====
section
/-! SUPPORT. What a CACK or TMOV makes of the trunk map, and what the map sends for it (R118, R119, R122, R125, R126). -/

namespace Sys2Proof.Machine

/-- R107: a carry that loses its trunk leaves the map, and sends CPRG FAILED(NO_TRUNK) and nothing else. -/
theorem carryTrunkLost_sends (s : State) (id : CarryId) (h : ∃ c ∈ s.cye, c.id = id) :
    (s.carryTrunkLost id).tkm = s.tkm ∧
    (s.carryTrunkLost id).lnc = (s.hand id.requester (.cprg id.callId (.failed .noTrunk))).lnc := by
  obtain ⟨c, hc, hi⟩ := h
  cases hf : findCarry s.cye id with
  | none =>
    have := List.find?_eq_none.1 hf c hc
    simp [hi] at this
  | some d =>
    have hd : d.id = id := by simpa using List.find?_some hf
    simp only [State.carryTrunkLost, hf, State.endCarry]
    subst hd
    simp

/-- R125, R126: a claim lost to a lower address: the record moves to the lowest free trunk, or its carry ends. -/
theorem loseTrunk_takes (s : State) (tr : Trunk) (id : CarryId) (g x src : Nat) (b : List Nat)
    (he : s.trunk tr = .claiming id g b x) (hc : ∃ c ∈ s.cye, c.id = id) (hs : ¬ s.ownNum ≤ src) :
    s.MapTakesAnnouncement (s.loseTrunk tr id src) s.clock.now tr src ∧
    (s.loseTrunk tr id src).lnc = (s.handAll [s.announcementFrame tr src]).lnc := by
  have hl : (s.setTrunk tr (.held src (s.clock.now + holdMs))).tkm.lowestFree =
      [Trunk.t1, .t2, .t3, .t4].find? fun v => s.trunk v == .free := by
    have : ∀ v, ((s.setTrunk tr (.held src (s.clock.now + holdMs))).tkm.get v == .free) = (s.trunk v == .free) := by
      intro v
      by_cases hv : v = tr
      · subst hv
        rw [show (s.setTrunk v (.held src (s.clock.now + holdMs))).tkm.get v = .held src (s.clock.now + holdMs) from
          setTrunk_trunk ..]
        simp [he]
      · exact congrArg (· == TrunkEntry.free) (setTrunk_trunk_ne s tr v _ hv)
    simp only [Tkm.lowestFree, this]
  simp only [State.MapTakesAnnouncement, State.announcementFrame, he, hs, if_false]
  simp only [State.loseTrunk, hl]
  cases hf : [Trunk.t1, .t2, .t3, .t4].find? fun v => s.trunk v == .free with
  | some v =>
    have hv : v ≠ tr := by
      intro e
      have := List.find?_some hf
      simp [e, he] at this
    refine ⟨⟨?_, ?_, fun w h1 h2 => ?_⟩, ?_⟩
    · simp [State.trunk, State.setTrunk, Tkm.get_set_of_ne _ _ hv, holdMs]
    · rw [he]
      simp [State.trunk, State.setTrunk, guardMs, TrunkEntry.refresh]
    · simp [State.trunk, State.setTrunk, Tkm.get_set_of_ne _ _ (Ne.symm h1), Tkm.get_set_of_ne _ _ (Ne.symm h2)]
    · simp only [State.carryMoved_frame, State.handAll, List.foldl]
      exact hand_lnc_congr _ _ (by simp) (by simp) (by simp)
  | none =>
    obtain ⟨h1, h2⟩ := carryTrunkLost_sends (s.setTrunk tr (.held src (s.clock.now + holdMs))) id (by simpa using hc)
    refine ⟨⟨?_, fun w hw => ?_⟩, ?_⟩
    · rw [trunk_of_tkm h1, setTrunk_trunk]
      rfl
    · rw [trunk_of_tkm h1, setTrunk_trunk_ne _ _ _ _ hw]
    · rw [h2]
      simp only [State.handAll, List.foldl]
      exact hand_lnc_congr _ _ (by simp) (by simp) (by simp)

/-- R118, R119, R122, R125, R126: what the trunk map makes of a CACK or TMOV from `src` that names a trunk, and the frame
that it queues for it. -/
theorem mapAnnounced_takes (s : State) (tr : Trunk) (src : Nat) (h63 : src ≠ 63)
    (hc : ∀ id, (s.trunk tr).owner = some id → ∃ c ∈ s.cye, c.id = id) :
    s.MapTakesAnnouncement (s.mapAnnounced src (trunkNum tr)) s.clock.now tr src ∧
    (s.mapAnnounced src (trunkNum tr)).lnc = (s.handAll [s.announcementFrame tr src]).lnc := by
  simp only [State.mapAnnounced, trunkOf_trunkNum, h63, if_false, State.trunkAnnounced]
  cases he : s.trunk tr with
  | claiming id g b x =>
    by_cases hs : s.ownNum ≤ src
    · simp only [not_lt.2 hs, if_false]
      simp only [State.MapTakesAnnouncement, State.announcementFrame, he, hs, if_true, List.contains_iff_mem]
      exact ⟨⟨setTrunk_trunk .., fun w hw => setTrunk_trunk_ne _ _ _ _ hw⟩, by simp [State.handAll]⟩
    · simp only [not_le.1 hs, if_true]
      exact loseTrunk_takes s tr id g x src b he (hc id (by simp [he, TrunkEntry.owner])) hs
  | owned id x => simp [State.MapTakesAnnouncement, State.announcementFrame, he, State.handAll, State.holdFrame]
  | _ =>
    simp only [State.MapTakesAnnouncement, State.announcementFrame, he]
    exact ⟨⟨setTrunk_trunk .., fun w hw => setTrunk_trunk_ne _ _ _ _ hw⟩, by simp [State.handAll]⟩

end Sys2Proof.Machine
end

