-- ==== Sys2Proof/Laws/Rounds.lean ====
section
/-! SUPPORT. What the start of a round and the taking of routes come to: a LOCAL claim placed on a slot, an attempt that
begins, the routes tried in order, and the wait on emergency scans (R9 to R14, R17, R26). -/

namespace Sys2Proof.Machine

/-! ### A LOCAL claim (R68, R69) -/

/-- Settling the idle timer writes nothing else of a slot record. -/
theorem settleIdle_fields (r : SlotRec) (n : Nat) :
    (r.settleIdle n).state = r.state ∧ (r.settleIdle n).grant = r.grant ∧
    (r.settleIdle n).waitingLocal = r.waitingLocal ∧ (r.settleIdle n).request = r.request ∧
    (r.settleIdle n).deadline = r.deadline ∧ (r.settleIdle n).power = r.power ∧ (r.settleIdle n).sent = r.sent ∧
    (r.settleIdle n).restartTimer = r.restartTimer := by
  rw [settleIdle_eq]
  simp

/-- R12 to R14, R68: a LOCAL claim placed on a slot leaves what `ClaimsLocal` says, and the other slot as it was. A
granted dial goes to the code of the record's route. -/
theorem placeClaim_local (s : State) (sl : Slot) (k : LocalClaim) (code : Nat)
    (hc : k = .dial → (s.ple.route.bind Route.code).getD 0 = code) :
    s.ClaimsLocal (s.placeClaim sl (.localCall k)) s.clock.now sl k code ∧
    (s.placeClaim sl (.localCall k)).slot (otherSlot sl) = s.slot (otherSlot sl) := by
  have fs := settleIdle_fields
  by_cases hoff : (s.slot sl).state = .off
  · by_cases hr : (s.slot sl).restartTimer = none <;>
      simp [State.placeClaim, State.ClaimsLocal, hoff, hr, fs, SlotRec.addClaim, SlotRec.warm, SlotRec.settled, warmUpMs]
  · by_cases hi : (s.slot sl).state = .idle ∧ (s.slot sl).grant = .nobody
    · obtain ⟨h1, h2⟩ := hi
      cases k
      · simp [State.placeClaim, State.ClaimsLocal, h1, h2, fs, SlotRec.addClaim, State.arbiter, State.grantLocal,
          State.requestDial, SlotRec.startDial, SlotRec.send, SlotRec.settled, dialDeadlineMs, hc]
      · simp [State.placeClaim, State.ClaimsLocal, h1, h2, fs, SlotRec.addClaim, State.arbiter,
          SlotRec.startScan, SlotRec.send, SlotRec.settled, scanDeadlineMs]
    · simp only [State.placeClaim, hoff, if_false, State.ClaimsLocal, hi, false_and]
      rw [arbiter_busy _ _ (by simpa [fs, SlotRec.addClaim] using not_and_or.1 hi)]
      simp [fs, SlotRec.addClaim]

/-! ### Views that follow their fields -/

/-- What `ClaimsLocal` reads of the state before the claim. -/
theorem ClaimsLocal.congr {v w t : State} {now : Nat} {sl : Slot} {k : LocalClaim} {code : Nat} (h : w.slc = v.slc)
    (hc : w.ClaimsLocal t now sl k code) : v.ClaimsLocal t now sl k code := by
  simpa only [State.ClaimsLocal, slot_of_slc h] using hc

/-- What `ClaimsLocal` reads of the state after the claim. -/
theorem ClaimsLocal.after {v t u : State} {now : Nat} {sl : Slot} {k : LocalClaim} {code : Nat}
    (h : u.slot sl = t.slot sl) (hc : v.ClaimsLocal t now sl k code) : v.ClaimsLocal u now sl k code := by
  simpa only [State.ClaimsLocal, h] using hc

/-- What `Skips` reads. -/
theorem skips_congr {v w : State} (hs : w.slc = v.slc) (hw : w.nwt = v.nwt) (hb : w.nbt = v.nbt) (hc : w.cfg = v.cfg)
    (c : Candidate) : w.Skips c ↔ v.Skips c := by
  simp only [State.Skips, slot_of_slc hs, table_of_nwt hw, hb, hc]

/-- What `Begins` reads of the state before the attempt. -/
theorem Begins.congr {v w t : State} {now : Nat} {c : Candidate} (hs : w.slc = v.slc) (hl : w.lnc = v.lnc)
    (hc : w.cfg = v.cfg) (hn : w.clock.now = v.clock.now) (hi : w.ple.callId = v.ple.callId) (h : w.Begins t now c) :
    v.Begins t now c := by
  refine ⟨h.1, ?_⟩
  have h2 := h.2
  revert h2
  cases c.via with
  | box n =>
    dsimp only
    rw [hi, hand_lnc_congr (s := v.advanceTo now) n _ (by simpa using hl) (by simpa using hc) (by simp [hn]), hs]
    exact id
  | slot sl =>
    simp only [hl, slot_of_slc hs]
    exact fun ⟨a, b, d, e⟩ => ⟨a, b, ClaimsLocal.congr hs d, e⟩

/-! ### Taking routes (R10, R13, R17, R26) -/

/-- R10, R13: a route is skipped where it is shut out, or its slot is held by a carry record or out of service. -/
theorem skips_iff (v : State) (c : Candidate) :
    v.Skips c ↔ isShutOut v c = true ∨
      ∃ sl, c.via = .slot sl ∧ ((v.slot sl).grant.isCarry || v.refusesClaim sl) = true := by
  have barred (e : NetEntry) : isServing v.cfg.uptime e = false ↔
      e.permitted = false ∨ ∃ u, e.barredUntil = some u ∧ v.cfg.uptime < u := by
    cases hb : e.barredUntil <;> cases hp : e.permitted <;> simp [isServing, isBarred, hb, hp]
  obtain ⟨via, code, score, q⟩ := c
  cases via with
  | box n =>
    simp only [State.Skips, isShutOut, reduceCtorEq, false_and, exists_false, or_false]
    generalize v.nbt.find? (fun e => e.addr == n) = o
    cases o with
    | none => simp
    | some e => simp [NeighbourEntry.mayCarry]; tauto
  | slot sl =>
    simp only [State.Skips, isShutOut, State.refusesClaim]
    generalize findEntry (v.table sl) code = o
    cases o with
    | none => simp
    | some e =>
      cases hst : (v.slot sl).state <;> cases hg : (v.slot sl).grant <;>
        simp [isExcluded, isOut, Holder.isCarry, barred, hst, hg]

@[simp] theorem clearAttempt_ple (s : State) :
    s.clearAttempt.ple = { s.ple.stopAttemptTimers with trunk := none } := by
  simp [State.clearAttempt, State.setPle]

@[simp] theorem beginAttempt_ple (s : State) (c : Candidate) :
    (s.beginAttempt c).ple =
      { s.ple with tried := s.ple.tried ++ [c.route], attempts := min 255 (s.ple.attempts + 1), route := some c.route } := by
  simp [State.beginAttempt, State.setPle]

@[simp] theorem enterCallState_ple (s : State) (st : CallState) :
    (s.enterCallState st).ple = { s.ple with state := st } := by
  unfold State.enterCallState
  split <;> simp

@[simp] theorem enterWaiting_ple (s : State) : s.enterWaiting.ple =
    { s.ple with state := .waiting, pauseTimer := some (s.clock.now + s.ple.pauseLength * 1000) } := by
  simp [State.enterWaiting, State.setPle]

/-- R17: a relay attempt queues CREQ and waits for the answer. -/
theorem beginRelay_begins (v : State) (c : Candidate) (n : Nat) (h : c.via = .box n) :
    v.Begins ((v.beginAttempt c).beginRelay n c.code) v.clock.now c := by
  simp only [State.Begins, h, State.beginRelay, State.setPle]
  refine ⟨by simp, by simp, by simp [answerMs], ?_, by simp⟩
  simp only [State.withPle_lnc]
  rw [hand_lnc_congr (s := v.advanceTo v.clock.now)] <;> simp

/-- R13, R14: an own attempt claims its slot. -/
theorem beginOwn_begins (v : State) (c : Candidate) (sl : Slot) (h : c.via = .slot sl) :
    v.Begins ((v.beginAttempt c).beginOwn sl) v.clock.now c := by
  simp only [State.Begins, h, State.beginOwn]
  have e := placeClaim_local (((v.beginAttempt c).enterCallState .dialling).joinTone) sl .dial c.code
    (by simp [Candidate.route])
  refine ⟨by simp, by simp, by simp, ?_, ?_⟩
  · refine ClaimsLocal.congr (w := ((v.beginAttempt c).enterCallState .dialling).joinTone) (by simp) ?_
    simpa using e.1
  · rw [e.2]
    exact slot_of_slc (by simp) _

/-- R10, R26: a route that is skipped is counted in the attempt list, and the next is taken. -/
theorem tryRoutes_skips {v : State} {c : Candidate} (cs : List Candidate) (h : v.Skips c) :
    ∃ w, State.tryRoutes (c :: cs) v = State.tryRoutes cs w ∧ w.slc = v.slc ∧ w.nwt = v.nwt ∧ w.nbt = v.nbt ∧
      w.cfg = v.cfg ∧ w.lnc = v.lnc ∧ w.clock = v.clock ∧ w.ple.tried = v.ple.tried ++ [c.route] ∧
      w.ple.attempts = min 255 (v.ple.attempts + 1) ∧ w.ple.pauseLength = v.ple.pauseLength ∧
      w.ple.callId = v.ple.callId := by
  by_cases hs : isShutOut v c = true
  · exact ⟨(v.beginAttempt c).clearAttempt, by simp [State.tryRoutes, hs], by simp [Ple.stopAttemptTimers]⟩
  · obtain ⟨sl, hv, hg⟩ := ((skips_iff v c).1 h).resolve_left hs
    exact ⟨(((v.beginAttempt c).enterCallState .dialling).joinTone).clearAttempt,
      by simp only [State.tryRoutes, hs, hv, hg, if_true]; simp, by simp [Ple.stopAttemptTimers]⟩

/-- R10, R13, R17: a route that is not skipped begins its attempt. -/
theorem tryRoutes_begins {v : State} {c : Candidate} (cs : List Candidate) (h : ¬ v.Skips c) :
    v.Begins (State.tryRoutes (c :: cs) v) v.clock.now c ∧
    (State.tryRoutes (c :: cs) v).ple.tried = v.ple.tried ++ [c.route] ∧
    (State.tryRoutes (c :: cs) v).ple.attempts = min 255 (v.ple.attempts + 1) := by
  rw [skips_iff, not_or] at h
  cases hv : c.via with
  | box n =>
    simp only [State.tryRoutes, h.1, hv]
    exact ⟨beginRelay_begins v c n hv, by simp [State.beginRelay, State.setPle], by simp [State.beginRelay, State.setPle]⟩
  | slot sl =>
    have hg : ¬ ((v.slot sl).grant.isCarry || v.refusesClaim sl) = true := fun e => h.2 ⟨sl, hv, e⟩
    simp only [State.tryRoutes, h.1, hv, hg]
    exact ⟨beginOwn_begins v c sl hv, by simp [State.beginOwn], by simp [State.beginOwn]⟩

/-- R10, R11, R26: the routes are taken in order as `TakesRoutes` says. -/
theorem tryRoutes_takes (cs : List Candidate) (v : State) : v.TakesRoutes (State.tryRoutes cs v) v.clock.now cs := by
  induction cs generalizing v with
  | nil =>
    refine ⟨fun pre c post h => by simp at h, fun _ => ?_⟩
    simp [State.tryRoutes]
  | cons c cs ih =>
    by_cases hc : v.Skips c
    · obtain ⟨w, he, hs, hw, hb, hf, hl, hk, ht, ha, hp, hi⟩ := tryRoutes_skips cs hc
      have sk (d : Candidate) : w.Skips d ↔ v.Skips d := skips_congr hs hw hb hf d
      obtain ⟨h1, h2⟩ := ih w
      rw [hk] at h1 h2
      rw [he]
      refine ⟨fun pre d post hd hpre hnd => ?_, fun hall => ?_⟩
      · cases pre with
        | nil =>
          simp only [List.nil_append, List.cons.injEq] at hd
          exact absurd hc (hd.1 ▸ hnd)
        | cons e pre =>
          simp only [List.cons_append, List.cons.injEq] at hd
          obtain ⟨rfl, rfl⟩ := hd
          obtain ⟨g1, g2, g3⟩ := h1 pre d post rfl (fun x hx => (sk x).2 (hpre x (List.mem_cons_of_mem _ hx)))
            (fun x => hnd ((sk d).1 x))
          refine ⟨by simp [g1, ht], ?_, Begins.congr hs hl hf (by rw [hk]) hi g3⟩
          simp only [g2, ha, List.length_cons]
          omega
      · obtain ⟨g1, g2, g3, g4, g5, g6⟩ := h2 (fun x hx => (sk x).2 (hall x (List.mem_cons_of_mem _ hx)))
        refine ⟨by simp [g1, ht], fun ha' => ?_, g3, by rw [g4, hp], by rw [g5, hl], by rw [g6, hs]⟩
        rw [g2 (by omega), ha, List.length_cons]
        omega
    · obtain ⟨h1, h2, h3⟩ := tryRoutes_begins cs hc
      refine ⟨fun pre d post hd hpre hnd => ?_, fun hall => absurd (hall c (List.mem_cons_self ..)) hc⟩
      cases pre with
      | nil =>
        simp only [List.nil_append, List.cons.injEq] at hd
        obtain ⟨rfl, -⟩ := hd
        exact ⟨by simp [h2], by simp [h3], h1⟩
      | cons e pre =>
        simp only [List.cons_append, List.cons.injEq] at hd
        obtain ⟨rfl, -⟩ := hd
        exact absurd (hpre c (List.mem_cons_self ..)) hc

/-! ### The start of a round (R9, R12) -/

/-- R12: an emergency-scan claim on one slot. -/
theorem claimEmergency_claims (u : State) (sl : Slot) :
    u.ClaimsLocal (u.claimEmergency sl) u.clock.now sl .emergencyScan 0 ∧
    (u.claimEmergency sl).slot (otherSlot sl) = u.slot (otherSlot sl) ∧
    (u.claimEmergency sl).ple = { u.ple with awaited := u.ple.awaited ++ [sl] } := by
  obtain ⟨h1, h2⟩ := placeClaim_local (u.setPle fun p => { p with awaited := p.awaited ++ [sl] }) sl .emergencyScan 0
    (by simp)
  refine ⟨ClaimsLocal.congr (by simp) h1, h2.trans (slot_of_slc (by simp) _), ?_⟩
  simp [State.claimEmergency, State.setPle]

theorem takesEmergencyScan_iff (st : SlotState) :
    takesEmergencyScan st = true ↔ st = .off ∨ st = .idle ∨ st = .warming := by
  cases st <;> simp [takesEmergencyScan]

/-- R12: the emergency-scan claims of a wait on an empty list. -/
theorem waitForScans_claims (s : State) :
    s.waitForScans.ple = { s.enterWaiting.ple with
      awaited := s.ple.awaited ++ ([Slot.a, .b].filter fun sl =>
        (s.slot sl).state = .off ∨ (s.slot sl).state = .idle ∨ (s.slot sl).state = .warming) } ∧
    ∀ sl,
      if (s.slot sl).state = .off ∨ (s.slot sl).state = .idle ∨ (s.slot sl).state = .warming then
        s.ClaimsLocal s.waitForScans s.clock.now sl .emergencyScan 0
      else s.waitForScans.slot sl = s.slot sl := by
  obtain ⟨w, hw⟩ : ∃ w, w = s.enterWaiting := ⟨_, rfl⟩
  have hs (sl : Slot) : w.slot sl = s.slot sl := slot_of_slc (by simp [hw]) _
  have hc : w.clock = s.clock := by simp [hw]
  have ha : w.ple.awaited = s.ple.awaited := by simp [hw]
  obtain ⟨a1, a2, a3⟩ := claimEmergency_claims w .a
  obtain ⟨b1, b2, b3⟩ := claimEmergency_claims w .b
  obtain ⟨c1, c2, c3⟩ := claimEmergency_claims (w.claimEmergency .a) .b
  have ck : (w.claimEmergency .a).clock = s.clock := by simp [hc]
  simp only [otherSlot] at a2 b2 c2
  simp only [State.waitForScans, ← hw, ← State.slot_a, ← State.slot_b, takesEmergencyScan_iff]
  have fromW {t : State} {sl : Slot} (h : w.ClaimsLocal t w.clock.now sl .emergencyScan 0) :
      s.ClaimsLocal t s.clock.now sl .emergencyScan 0 := by
    rw [hc] at h
    exact ClaimsLocal.congr (by simp [hw]) h
  have pick (p : Slot → Prop) [DecidablePred p] : ([Slot.a, .b].filter fun sl => p sl) =
      (if p .a then [Slot.a] else []) ++ if p .b then [Slot.b] else [] := by
    by_cases h1 : p .a <;> by_cases h2 : p .b <;> simp [h1, h2]
  by_cases ta : (s.slot .a).state = .off ∨ (s.slot .a).state = .idle ∨ (s.slot .a).state = .warming <;>
    by_cases tb : (s.slot .b).state = .off ∨ (s.slot .b).state = .idle ∨ (s.slot .b).state = .warming <;>
    simp only [ta, tb, if_true, if_false]
  · refine ⟨by simp only [c3, a3, ha, pick]; simp [ta, tb], fun sl => ?_⟩
    cases sl
    · simp only [ta, if_true]
      exact ClaimsLocal.after c2 (fromW a1)
    · simp only [tb, if_true]
      rw [ck] at c1
      simp only [State.ClaimsLocal, a2, hs] at c1 ⊢
      exact c1
  · refine ⟨by simp only [a3, ha, pick]; simp [ta, tb], fun sl => ?_⟩
    cases sl
    · simp only [ta, if_true]
      exact fromW a1
    · simp only [tb, if_false, a2, hs]
  · refine ⟨by simp only [b3, ha, pick]; simp [ta, tb], fun sl => ?_⟩
    cases sl
    · simp only [ta, if_false, b2, hs]
    · simp only [tb, if_true]
      exact fromW b1
  · refine ⟨by simp only [pick]; simp [ta, tb, hw], fun sl => ?_⟩
    cases sl
    · simp only [ta, if_false, hs]
    · simp only [tb, if_false, hs]

/-- What `TakesRoutes` reads of the state before. -/
theorem TakesRoutes.congr {v w t : State} {now : Nat} {cs : List Candidate} (hs : w.slc = v.slc) (hw : w.nwt = v.nwt)
    (hb : w.nbt = v.nbt) (hl : w.lnc = v.lnc) (hf : w.cfg = v.cfg) (hn : w.clock.now = v.clock.now)
    (hi : w.ple.callId = v.ple.callId) (ht : w.ple.tried = v.ple.tried) (ha : w.ple.attempts = v.ple.attempts)
    (hp : w.ple.pauseLength = v.ple.pauseLength) (h : w.TakesRoutes t now cs) : v.TakesRoutes t now cs := by
  have sk (d : Candidate) : w.Skips d ↔ v.Skips d := skips_congr hs hw hb hf d
  obtain ⟨h1, h2⟩ := h
  simp only [ht, ha, hp, hl, hs] at h1 h2
  refine ⟨fun pre c post e hpre hc => ?_, fun hall => h2 fun d hd => (sk d).2 (hall d hd)⟩
  obtain ⟨g1, g2, g3⟩ := h1 pre c post e (fun d hd => (sk d).2 (hpre d hd)) fun x => hc ((sk c).1 x)
  exact ⟨g1, g2, Begins.congr hs hl hf hn hi g3⟩

/-- R26: the next attempt takes the routes of the list that are not in the attempt list. -/
theorem nextAttempt_takes (s : State) :
    s.TakesRoutes s.nextAttempt s.clock.now (s.rsl.filter fun c => !s.ple.tried.contains c.route) :=
  tryRoutes_takes _ s

theorem tryRoutes_rounds (cs : List Candidate) (s : State) : (State.tryRoutes cs s).ple.rounds = s.ple.rounds := by
  induction cs generalizing s with
  | nil => simp [State.tryRoutes]
  | cons c cs ih =>
    simp only [State.tryRoutes]
    repeat' split
    all_goals simp [ih, Ple.stopAttemptTimers, State.beginRelay, State.setPle, State.beginOwn]

/-- What a build of the candidate list reads (R38, R39). -/
theorem buildList_congr {v w : State} (hs : w.slc = v.slc) (hw : w.nwt = v.nwt) (hb : w.nbt = v.nbt)
    (hf : w.cfg = v.cfg) : buildList w = buildList v := by
  have hr : relayRoutes w = relayRoutes v := by
    funext n
    simp only [relayRoutes, hf, own_of_cfg hf]
  simp only [buildList, ownRoutes, slot_of_slc hs, table_of_nwt hw, hf, hb, hr]

/-- What `StartsRound` reads of the state before. -/
theorem StartsRound.congr {v w t : State} {now : Nat} (hs : w.slc = v.slc) (hw : w.nwt = v.nwt) (hb : w.nbt = v.nbt)
    (hl : w.lnc = v.lnc) (hf : w.cfg = v.cfg) (hk : w.clock.now = v.clock.now) (hi : w.ple.callId = v.ple.callId)
    (ha : w.ple.attempts = v.ple.attempts) (hp : w.ple.pauseLength = v.ple.pauseLength)
    (hr : w.ple.rounds = v.ple.rounds) (hx : w.ple.awaited = v.ple.awaited) (h : w.StartsRound t now) :
    v.StartsRound t now := by
  obtain ⟨h1, h2, h3, h4⟩ := h
  rw [buildList_congr hs hw hb hf] at h1 h3 h4
  refine ⟨h1, by rw [h2, hr], fun hn => ?_, fun hn => ?_⟩
  · obtain ⟨g1, g2, g3, g4, g5, g6, g7⟩ := h3 hn
    simp only [slot_of_slc hs] at g6 g7
    refine ⟨g1, g2, by rw [g3, ha], by rw [g4, hp], by rw [g5, hl], by rw [g6, hx], fun sl => ?_⟩
    have := g7 sl
    split at this <;> rename_i hk
    · rw [if_pos hk]
      exact ClaimsLocal.congr hs this
    · rw [if_neg hk]
      exact this
  · exact TakesRoutes.congr (by simpa [State.setPle] using hs) (by simpa [State.setPle] using hw)
      (by simpa [State.setPle] using hb) (by simpa [State.setPle] using hl) (by simpa [State.setPle] using hf)
      (by simpa [State.setPle] using hk)
      (by simpa [State.setPle] using hi) (by simp [State.setPle]) (by simpa [State.setPle] using ha)
      (by simpa [State.setPle] using hp) (h4 hn)

/-- R9, R12: a round starts as `StartsRound` says. -/
theorem startRound_starts (v : State) : v.StartsRound v.startRound v.clock.now := by
  obtain ⟨w, hw⟩ : ∃ w, w = (v.setPle fun p =>
    { p with rounds := min 255 (p.rounds + 1), tried := [] }).withRsl (buildList v) := ⟨_, rfl⟩
  have e : v.startRound = if (buildList v).isEmpty then w.waitForScans else w.nextAttempt := by
    simp only [State.startRound, ← hw]
    simp [hw]
  have wp : w.ple = { v.ple with rounds := min 255 (v.ple.rounds + 1), tried := [] } := by simp [hw, State.setPle]
  have ws : w.slc = v.slc := by simp [hw]
  have wc : w.clock = v.clock := by simp [hw]
  obtain ⟨p1, p2⟩ := waitForScans_claims w
  rw [wc] at p2
  refine ⟨?_, ?_, fun hn => ?_, fun hn => ?_⟩
  · rw [e]
    split <;> simp [hw]
  · rw [e]
    split
    · simp [p1, wp]
    · simp [State.nextAttempt, tryRoutes_rounds, wp]
  · rw [e]
    simp only [hn, List.isEmpty_nil, if_true]
    simp only [slot_of_slc ws] at p1 p2
    refine ⟨by simp [p1], by simp [p1, wp], by simp [p1, wp], by simp [p1, wp, wc], by simp [hw], by simp [p1, wp], ?_⟩
    intro sl
    have := p2 sl
    split at this <;> rename_i hk
    · rw [if_pos hk]
      exact ClaimsLocal.congr ws this
    · rw [if_neg hk]
      exact this
  · rw [e]
    have hne : (buildList v).isEmpty = false := by simpa using hn
    simp only [hne, Bool.false_eq_true, if_false]
    have h := nextAttempt_takes w
    have hf : (w.rsl.filter fun c => !w.ple.tried.contains c.route) = buildList v := by simp [hw, State.setPle]
    rw [hf, wc] at h
    exact TakesRoutes.congr (by simp [hw]) (by simp [hw]) (by simp [hw]) (by simp [hw]) (by simp [hw]) (by simp [hw])
      (by simp [wp, State.setPle]) (by simp [wp, State.setPle]) (by simp [wp, State.setPle])
      (by simp [wp, State.setPle]) h

end Sys2Proof.Machine
end

