-- ==== Sys2Proof/Tests/Slice0.lean ====
section
/-! SUPPORT. The model's own tests: ill-formed commands that `Instr.wf` refuses, the values of the spec's worked
sequences, one-step tests, and for every statement with premises a state and operands that meet them, clause by clause
and at the ends of their ranges. -/

namespace Sys2Proof.Tests

open Sys2Proof.Machine

/-! ### Small states -/

/-- The state after a command. -/
def after (c : Instr) (s : State) : State :=
  match exec c s with
  | .next t => t
  | .fault f => nomatch f
  | .refused _ => s

def idleSlot : SlotRec :=
  { resetSlot .idle [] with power := true, heartbeat := some 5900, idleTimer := some 5900 }

/-- A running box of address 9 on segment 1, 5.5 s after its start-up, with both slots IDLE and unused. -/
def box : State :=
  { State.reset with
    phase := .running
    clock := { now := 5500, second := 5000 }
    slc := { a := idleSlot, b := idleSlot }
    cfg := { record := { defaultRecord with boxAddress := 9, segment := 1 }, load := .valid, address := .assigned 9,
             uptime := 5 } }

/-- The box with slot A in a state under a grant. -/
def slotBox (st : SlotState) (g : Holder) : State :=
  { box with slc := { a := { resetSlot st [] with power := true, grant := g, heartbeat := some 5900, deadline := some 5900 },
                      b := idleSlot } }

/-- A call of id 1 on slot A's network 47125. -/
def ownCall (st : CallState) : Ple :=
  { resetPle with callId := 1, state := st, route := some ⟨.slot .a, some 47125⟩, handsetLifted := true }

/-- A call of id 1 relayed through box 8. -/
def relayCall (st : CallState) : Ple := { ownCall st with route := some ⟨.box 8, some 47125⟩ }

def fresh : Quality := { value := 0, decay := none }

def entry (code : Nat) (radio : RadioType) (level : Option Nat) (age : Nat) : NetEntry :=
  { code := code, radio := radio, level := level, permitted := true, quality := fresh, barredUntil := none, age := age }

def neighbour (addr : Nat) (st : NeighbourState) (items : List ReachItem) : NeighbourEntry :=
  { addr := addr, state := st, seq := 255, age := 20, capacity := 3, supply := .ok, items := items, quality := fresh,
    action := .normal }

/-- A carry of box 8's call 1 on slot A and trunk 2. -/
def carry (st : CarryState) : CarryRec :=
  { id := ⟨8, 1⟩, code := 47125, slot := .a, trunk := .t2, state := st, dialSent := st != .queued,
    queueTimer := if st = .queued then some 5900 else none, silence := some 5900, talkSeconds := 0 }

/-- The box with that carry: QUEUED at a slot that dials for the local call, or holding the slot's grant. -/
def carryBox (st : SlotState) (c : CarryState) (entry : TrunkEntry) : State :=
  { slotBox st (if c = .queued then .localCall else .carry ⟨8, 1⟩) with
    slc := { a := { resetSlot st [] with
                    power := true, deadline := some 5900, heartbeat := some 5900, request := .dial 47125
                    grant := if c = .queued then .localCall else .carry ⟨8, 1⟩
                    waitingCarry := if c = .queued then [⟨8, 1⟩] else [] }
             b := idleSlot }
    cye := [carry c]
    tkm := { resetTkm with t2 := entry } }

def owned : TrunkEntry := .owned ⟨8, 1⟩ 5900
def claiming : TrunkEntry := .claiming ⟨8, 1⟩ 5800 [12] 5900

/-- A frame's header from `src` to `dst` on the box's segment. -/
def from_ (src dst : Nat) : Header := { seg := 1, dst := dst, src := src }

/-! ### Ill-formed commands -/

def badHeaders : List Header := [⟨256, 0, 8⟩, ⟨1, 256, 8⟩, ⟨1, 0, 256⟩]

theorem test_wf_refuses_levels_bytes_and_ms :
    [Instr.configReadComplete [] 120, .configReadComplete (List.replicate 32 0) 256, .configReadDeadline 256,
     .supplySample 256, .buttonInputChange true 1000, .hookInputChange true 1000, .rdy .a 1000, .dack .a 1000,
     .dnak .a .barred 1000, .drty .a 1000, .dialRepeat .a 1000, .ring .a 1000, .live .a 1000, .gone .a .lost 1000,
     .beat .a none none 1000, .callin .a 1000, .modemSignalDiscarded .a 1000, .nets .a [] 1000,
     .nets .a (List.replicate 9 ⟨47110, none, none, true⟩) 0, .frameSent 1000, .collision 1000,
     .receivedFrameDropped [] 1000].all (fun i => !i.wf) = true := by decide

theorem test_wf_refuses_codes_and_addresses :
    [Instr.qualityDecayExpiry (.network .a 16777216), .qualityDecayExpiry (.neighbour 0),
     .qualityDecayExpiry (.neighbour 63), .neighbourStale 0, .neighbourStale 63, .neighbourRemoval 0,
     .neighbourRemoval 63, .networkEntryRemoval .b 16777216, .barExpiry .b 16777216, .queueTimerExpiry ⟨0, 1⟩,
     .queueTimerExpiry ⟨63, 1⟩, .requesterSilenceExpiry ⟨8, 256⟩, .holdRefresh ⟨63, 0⟩].all (fun i => !i.wf) = true := by
  decide

theorem test_wf_refuses_frame_fields :
    [Instr.creq (from_ 8 9) 256 47125 0, .creq (from_ 8 9) 1 16777216 0, .creq (from_ 8 9) 1 47125 1000,
     .cack (from_ 8 9) 256 1 0, .cack (from_ 8 9) 1 256 0, .cack (from_ 8 9) 1 1 1000, .cnak (from_ 8 9) 256 .full 0,
     .cnak (from_ 8 9) 1 .full 1000, .cprg (from_ 8 9) 256 .ringing 0, .cprg (from_ 8 9) 1 .ringing 1000,
     .cend (from_ 8 9) 256 .lost 0, .cend (from_ 8 9) 1 .lost 1000, .thld (from_ 8 9) 256 1 1 1 0,
     .thld (from_ 8 9) 1 256 1 1 0, .thld (from_ 8 9) 1 1 256 1 0, .thld (from_ 8 9) 1 1 1 256 0,
     .thld (from_ 8 9) 1 1 1 1 1000, .tmov (from_ 8 9) 256 1 1 0, .tmov (from_ 8 9) 1 256 1 0,
     .tmov (from_ 8 9) 1 1 256 0, .tmov (from_ 8 9) 1 1 1 1000, .tfre (from_ 8 9) 256 0, .tfre (from_ 8 9) 1 1000,
     .reach (from_ 8 9) (List.replicate 41 0) 0, .reach (from_ 8 9) [] 1000, .sqry (from_ 63 9) 1000,
     .lqry (from_ 63 9) 256 0, .lqry (from_ 63 9) 0 1000, .erst (from_ 63 9) 1000].all (fun i => !i.wf) = true := by
  decide

theorem test_wf_refuses_headers :
    badHeaders.all (fun h => [Instr.creq h 1 47125 0, .cack h 1 1 0, .cnak h 1 .full 0, .cprg h 1 .ringing 0,
      .cend h 1 .lost 0, .thld h 1 1 1 1 0, .tmov h 1 1 1 0, .tfre h 1 0, .reach h [] 0, .sqry h 0, .lqry h 0 0,
      .erst h 0].all (fun i => !i.wf)) = true := by decide

/-- A command of every shape at the ends of its ranges is well formed. -/
theorem test_wf_takes_the_ranges :
    [Instr.configReadComplete (List.replicate 32 255) 255, .supplySample 0, .rdy .b 999, .neighbourStale 1,
     .neighbourRemoval 62, .queueTimerExpiry ⟨62, 255⟩, .thld ⟨255, 255, 255⟩ 255 255 255 255 999,
     .creq (from_ 1 0) 255 16777215 0, .reach (from_ 62 0) (List.replicate 40 0) 0].all Instr.wf = true := by decide

/-! ### The spec's worked values -/

/-- 8.2: the check over the bytes 49 to 57 is 10673. -/
theorem test_frame_check : (frameCheck (List.map byteOf [49, 50, 51, 52, 53, 54, 55, 56, 57])).toNat = 10673 := by
  decide +kernel

/-- 8.6: the generator's steps from 23487. -/
theorem test_generator : [rngStep 23487, rngStep 46975, rngStep 28414, rngStep 56828] = [46975, 28414, 56828, 48121] := by
  decide

/-- R152: address 1 is seeded with 1021, address 62 with 63302, an ISOLATED box with 1. -/
theorem test_seeds : [rngSeed 1, rngSeed 62, rngSeed 0] = [1021, 63302, 1] := by decide

/-- 2.7: the five scores. -/
theorem test_score_table :
    [routeScore 12 4 2 40 0 0, routeScore 5 0 0 300 0 0, routeScore 22 4 1 20 24 0, routeScore 25 2 4 95 12 10,
     routeScore 8 6 15 2000 0 0] = [41, 10, 63, 57, 0] := by decide

/-- 2.8: the top of the range, and an age that has reached 65535. -/
theorem test_score_limits :
    [routeScore 31 6 0 29 0 0, routeScore 31 6 0 30 0 0, routeScore 31 6 0 0 24 0, routeScore 10 0 15 1500 31 10,
     routeScore 31 6 0 65535 0 0] = [130, 129, 106, 0, 90] := by decide

/-- 2.8: five routes of score 44 in the order of R41. -/
theorem test_equal_scores :
    (orderRoutes [⟨.box 12, 47125, 44, 2⟩, ⟨.box 30, 47110, 44, 1⟩, ⟨.box 9, 47140, 44, 2⟩, ⟨.box 12, 47110, 44, 2⟩,
      ⟨.slot .b, 47140, 44, 0⟩]).map Candidate.route =
    [⟨.slot .b, some 47140⟩, ⟨.box 30, some 47110⟩, ⟨.box 9, some 47140⟩, ⟨.box 12, some 47110⟩,
     ⟨.box 12, some 47125⟩] := by decide

/-- 3.11: the full table through the NETS of six items. -/
theorem test_nets_on_a_full_table :
    let got := (takeItems [] (goodItems []
      [⟨47110, some .g4, some 14, true⟩, ⟨90110, some .g4, some 18, true⟩, ⟨90220, some .g3, none, true⟩,
       ⟨52200, some .g4, some 21, true⟩, ⟨47110, some .g4, some 11, true⟩, ⟨123, some .g2, none, true⟩])
      [{ entry 47110 .g4 (some 12) 40 with quality := ⟨2, some 1⟩ }, entry 47125 .g2 (some 5) 300,
       { entry 47140 .g5 none 2000 with quality := ⟨15, some 1⟩ }, entry 31020 .g3 (some 9) 2000,
       { entry 52200 .g4 (some 20) 120 with permitted := false }, entry 60315 .g2 (some 3) 900,
       entry 70001 .g3 (some 14) 1500, entry 88020 .g4 (some 7) 610]).map
      fun e => (e.code, e.level, e.permitted, e.quality.value, e.age)
    got.length = 8 ∧
    ∀ x ∈ [(47110, some 14, true, 2, 0), (47125, some 5, true, 0, 300), (52200, some 21, true, 0, 0),
      (60315, some 3, true, 0, 900), (70001, some 14, true, 0, 1500), (88020, some 7, true, 0, 610),
      (90110, some 18, true, 0, 0), (90220, none, true, 0, 0)], x ∈ got := by decide

/-- 7.6: the items of box 31's advert. -/
def advertBox : State :=
  { box with
    cfg := { box.cfg with uptime := 8000 }
    nwt := { a := [entry 52200 .g4 (some 21) 210, { entry 47110 .g4 (some 13) 205 with quality := ⟨2, some 1⟩ },
                   entry 90220 .g3 none 210, { entry 61000 .g2 (some 20) 90 with barredUntil := some 8001 }]
             b := [entry 47110 .g4 (some 16) 50, entry 70001 .g3 (some 14) 1710,
                   { entry 30500 .g4 (some 25) 40 with permitted := false }, entry 88020 .g4 (some 7) 820] } }

theorem test_advert_items :
    advertItems advertBox = [⟨52200, some .g4, 21, 0⟩, ⟨47110, some .g4, 16, 0⟩, ⟨90220, some .g3, 8, 0⟩,
      ⟨70001, some .g3, 14, 0⟩] := by decide

/-- 7.6: a draw of 4700 gives a jitter of 1900 ms. -/
theorem test_jitter : jitterMs 4700 = 1900 := by decide

/-- 10.7: what each sample of the week points to. -/
theorem test_week_without_sun :
    [pointsTo 118 .ok 120, pointsTo 118 .ok 117, pointsTo 118 .low 110, pointsTo 118 .low 107, pointsTo 118 .critical 111,
     pointsTo 118 .critical 112, pointsTo 118 .low 121, pointsTo 118 .low 122] =
    [none, some .low, none, some .critical, none, some .low, none, some .ok] := by decide

/-- 8.9: sources 17, 12 and 40 under a MASK and a RANGE filter. -/
def filters : List PeerFilter := [⟨.mask, 16, 48, .ignore⟩, ⟨.range, 10, 20, .prefer⟩]

theorem test_peer_filters :
    [filterAction filters 17, filterAction filters 12, filterAction filters 40] = [some .ignore, some .prefer, none] := by
  decide

/-- 8.10: the queue of a busy carrier. -/
def queueA : TxFrame := ⟨63, .srep []⟩
def queueB : TxFrame := ⟨0, .reach [40]⟩
def queueC : TxFrame := ⟨0, .thld 1 9 8 1⟩
def queueD : TxFrame := ⟨8, .cprg 1 .ringing⟩
def queueE : TxFrame := ⟨0, .thld 3 9 21 2⟩
def queueF : TxFrame := ⟨21, .cack 2 3⟩
def queueG : TxFrame := ⟨0, .tfre 2⟩
def queueH : TxFrame := ⟨30, .cnak 3 .full⟩
def queueI : TxFrame := ⟨8, .cend 1 .limit⟩
def queueJ : TxFrame := ⟨0, .thld 1 9 8 1⟩
def queueK : TxFrame := ⟨0, .reach [41]⟩

def busyLine : Lnc :=
  ({ resetLnc [] with queue := [queueA, queueB, queueC, queueD, queueE, queueF, queueG, queueH] }).takeFrame

theorem test_queue_first_take :
    busyLine.inHand = some queueC ∧ busyLine.turn = 1 ∧
    busyLine.queue = [queueA, queueB, queueD, queueE, queueF, queueG, queueH] := by decide

theorem test_queue_displaces_the_tool_frame :
    enqueue (enqueue busyLine.queue queueI) queueJ =
      [queueB, queueD, queueE, queueF, queueG, queueH, queueI, queueJ] := by decide

theorem test_queue_replaces_the_reach :
    enqueue [queueB, queueD, queueF, queueG, queueH, queueI, queueJ] queueK =
      [queueD, queueF, queueG, queueH, queueI, queueJ, queueK] := by decide

theorem test_queue_reach_has_its_turn :
    let l : Lnc := ({ resetLnc [] with queue := [queueD, queueF, queueH, queueI, queueK], turn := 4 }).takeFrame
    l.inHand = some queueK ∧ l.turn = 0 ∧ l.queue = [queueD, queueF, queueH, queueI] := by decide

/-! ### One step -/

/-- A configuration record of the given address and fitted modems, with its check byte. -/
def record (addr fit : Nat) : List Byte :=
  let body : List Nat := [addr, 1, fit, 5, 0, 10, 200, 1, 99, 1] ++ List.replicate 21 0
  (body ++ [(256 - body.sum % 256) % 256]).map byteOf

def reading : State := { State.reset with phase := .readingConfig }

/-- R178, R182: out of range fields are clamped, the unfitted slot B is ABSENT and slot A warms. -/
theorem test_start_up_clamps :
    let t := after (.configReadComplete (record 23 1) 120) reading
    t.own = some 23 ∧ t.cfg.record.advertInterval = 10 ∧ t.cfg.record.scanInterval = 300 ∧
    t.cfg.record.relayPenalty = 63 ∧ t.cfg.record.lowThreshold = 100 ∧ t.slc.b.state = .absent ∧
    t.slc.a.deadline = some 20000 := by decide

/-- 10.6: a bad check byte leaves the defaults, ISOLATED, both slots WARMING. -/
theorem test_start_up_on_a_bad_record :
    let t := after (.configReadComplete (byteOf 1 :: (record 23 1).drop 1) 125) reading
    t.own = none ∧ t.cfg.load = .defaulted ∧ t.slc.a.state = .warming ∧ t.slc.b.state = .warming ∧
    t.adv.timer = .stopped := by decide

/-- R149, R153: each of two start-ups in a row draws the other boxes' bytes afresh (log 24). -/
theorem test_start_ups_draw_the_line :
    let s := after (.configReadComplete (record 23 1) 120) reading
    let t := after (.configReadComplete (record 23 1) 120) (after .resetRelease (after .coldReset s))
    s.lnc.heard = Config.otherBytes 0 ∧ t.lnc.heard = Config.otherBytes 1 := ⟨rfl, rfl⟩

theorem test_uptime_saturates :
    (after .uptimeTick { box with cfg := { box.cfg with uptime := 4294967295 } }).cfg.uptime = 4294967295 := by decide

/-- R81: the third DRTY of a call ends it. -/
theorem test_third_drty :
    ((after (.drty .a 600) { slotBox .dialling .localCall with ple := ownCall .dialling }).slc.a.repeats = 1) ∧
    (after (.drty .a 600) { slotBox .dialling .localCall with
      ple := ownCall .dialling
      slc := { a := { (slotBox .dialling .localCall).slc.a with repeats := 2 }, b := idleSlot } }).slc.a.state = .idle := by
  decide

/-- R81: two DRTY leave two DIALs due and no deadline running; the deadline runs again once both have gone out. -/
theorem test_two_drty_leave_two_dials :
    let s := after (.drty .a 600) (after (.drty .a 600) { slotBox .dialling .localCall with ple := ownCall .dialling })
    s.slc.a.repeatsDue = 2 ∧ s.slc.a.deadline = none ∧
    (after (.dialDeadlineExpiry .a) s).slc.a.state = .dialling ∧
    ((after (.dialRepeat .a 700) s).slc.a.deadline = none) := by decide

/-- R180: a timer that ends with the second is taken after UPTIME_TICK, and not before it. -/
theorem test_second_comes_before_its_timers :
    let s : State := { box with cpi := { resetCpi with button := .releasePending, buttonTimer := some 6000 } }
    (after .buttonTimerExpiry s).cpi.button = .releasePending ∧
    (after .buttonTimerExpiry (after .uptimeTick s)).cpi.button = .released ∧ (after .uptimeTick s).cfg.uptime = 6 := by
  decide

/-- R44: a decay and a report of a failure give 6 from 5 in either order. -/
theorem test_decay_and_report_commute :
    (((⟨5, some 5900⟩ : Quality).report 5900 .failure).decayed 5900).value = 6 ∧
    (((⟨5, some 5900⟩ : Quality).decayed 5900).report 5900 .failure).value = 6 := by decide

/-- R153: this box's own frame keeps the line active. -/
theorem test_own_frame_is_activity :
    (after (.buttonInputChange true 900) { box with lnc := { box.lnc with tx := .sending, inHand := some queueB } }).lineIdle =
      0 := by decide

/-- R66: the third fault within 600 s disables the slot, a fault 600 s old is out of the window. -/
theorem test_fault_window :
    let faults (u : Nat) : State := { slotBox .clearing .nobody with
      slc := { a := { (slotBox .clearing .nobody).slc.a with faultTimes := [u, 1] }, b := idleSlot }
      cfg := { box.cfg with uptime := 600 } }
    (after (.clearDeadlineExpiry .a) (faults 1)).slc.a.state = .disabled ∧
    (after (.clearDeadlineExpiry .a) (faults 0)).slc.a.state = .restarting := by decide

/-- R120: a THLD of another box holds a FREE trunk for 8 s from its end. -/
theorem test_thld_holds :
    (after (.thld (from_ 8 0) 3 8 12 1 600) box).tkm.t3 = .held 8 (5600 + 8000) := by decide

/-- R156: a damaged frame is counted, a clash flagged. -/
theorem test_dropped_frames :
    (after (.receivedFrameDropped [0, 0] 600) box).lnc.errors = 1 ∧
    (after (.receivedFrameDropped (encodeFrame (from_ 9 0) .sqry) 600) box).lnc.clash = true := by
  decide +kernel

/-- R150: a second collision draws from 4 steps of 4 ms (8.6: 56828 gives none). -/
theorem test_collision :
    let t := after (.collision 600)
      { box with lnc := { box.lnc with tx := .sending, inHand := some queueB, collisions := 1, rng := 28414 } }
    t.lnc.tx = .gap ∧ t.lnc.collisions = 2 ∧ t.lnc.rng = 56828 := by decide

/-! ### The premises of the statements are met

Each theorem `witness_<name>` shows a state and operands that meet the premises of `Obligations.<name>`, clause by
clause; timers stand at the end of the present second, the last moment at which they are due. -/

/-- A box in whose blocks something stands: entries, neighbours, a QUEUED carry, a call that waits, a queued frame, a
connection, a log record. -/
def full : State :=
  { carryBox .clearing .queued claiming with
    slc := { a := { resetSlot .clearing [.drop] with
                    power := true, request := .drop, deadline := some 5900, heartbeat := some 5900, repeats := 2
                    waitingCarry := [⟨8, 1⟩], faultTimes := [1, 5], scanTimer := some 600000 }
             b := idleSlot }
    nwt := { a := [{ entry 10000 .g5 (some 31) 3600 with quality := ⟨15, some 5900⟩ },
                   { entry 999999 .g2 none 0 with barredUntil := some 6 }]
             b := [entry 47125 .g2 (some 0) 0] }
    nbt := [neighbour 1 .usable [⟨999999, none, 31, 15⟩], { neighbour 62 .stale [] with age := 65535 }]
    ple := { ownCall .waiting with
             rounds := 255, attempts := 255, resumptions := 5, pauseLength := 60, pauseTimer := some 5900, route := none,
             placementLimit := some 5900, tried := [⟨.slot .b, some 47125⟩] }
    rsl := [⟨.slot .b, 47125, 0, 0⟩]
    cpi := { resetCpi with lamp := .slow, lampCadence := some 5900 }
    xpt := { joins := [⟨.handset, .tone, .localCall⟩], waiting := [⟨.handset, .trunk .t2, .carry ⟨8, 1⟩⟩],
             cue := .connecting true, cadence := some 5900 }
    adv := { resetAdv with timer := .periodic 5900 }
    lnc := { resetLnc [] with queue := [queueA, queueB], tx := .backoff, inHand := some queueC, backoff := some 5900,
                              collisions := 7, turn := 4, errors := 65535 }
    spm := { level := 119, supply := .ok, pendingSupply := some .low, count := 1, settling := false, timer := some 5900 }
    svc := { log := [⟨1, .localCall, none, none, 1, 0, .noRoute, 0, 4⟩], nextCallId := 255 } }

theorem carriesSound_of (s : State) (st : CarryState) (sl : SlotState) (e : TrunkEntry) (h : e.owner = some ⟨8, 1⟩)
    (hc : s.cye = [carry st]) (ht : s.tkm = { resetTkm with t2 := e })
    (hs : s.slc.a.waitingCarry = (carryBox sl st e).slc.a.waitingCarry ∧
      s.slc.a.grant = (if st = .queued then s.slc.a.grant else .carry ⟨8, 1⟩) ∧
      (∀ id, st = .queued → s.slc.a.grant ≠ .carry id) ∧
      s.slc.b.waitingCarry = [] ∧ s.slc.b.grant = .nobody) : s.CarriesSound := by
  obtain ⟨h1, h2, h3, h4, h5⟩ := hs
  refine ⟨by simp [State.QueueSound, hc], ⟨by simp [hc, ht, carry, Tkm.get, h], ?_⟩, ?_⟩
  · intro t id ho
    cases t <;> simp [ht, resetTkm, Tkm.get, TrunkEntry.owner] at ho
    exact ⟨_, by simp [hc]; rfl, by have := h.symm.trans ho; simpa [carry] using this, rfl⟩
  · intro k id
    by_cases hq : st = .queued
    · subst hq
      cases k <;>
        simp [State.slot, h1, h3 id rfl, h4, h5, hc, carry, carryBox, eq_comm]
    · cases k <;> simp [State.slot, h1, h2, h4, h5, hc, carry, carryBox, hq, eq_comm]

theorem full_tables : full.NetworksSound ∧ full.NeighboursSound := by
  simp only [State.NetworksSound, tableSound, NetEntry.Sound, Quality.Sound, State.NeighboursSound, NeighbourEntry.Sound]
  decide

theorem full_carries : full.CarriesSound :=
  carriesSound_of full .queued .clearing claiming rfl rfl rfl ⟨rfl, rfl, fun _ _ h => (by cases h), rfl, rfl⟩

theorem full_queue : full.QueueSound := full_carries.1

/-- `full` meets every soundness predicate at once, and its next step is taken. -/
theorem full_steps : ∃ t, step (full.withPending [.uptimeTick]) = .next t := ⟨_, rfl⟩

theorem witness_StepKeepsSlotsSound : full.SlotsSound ∧ full.OutLampFollows := by
  simp only [State.SlotsSound, SlotRec.Sound, State.OutLampFollows]; decide

theorem witness_StepKeepsTablesSound : full.NetworksSound ∧ full.NeighboursSound := full_tables

theorem witness_StepKeepsConnectionsSound : full.ConnectionsSound :=
  ⟨List.pairwise_singleton _ _, by decide, by decide, by decide, by decide, by decide⟩

/-- Requests to join and to break at `full`, where the local call has the tone and a carry waits for the handset: a pair
that is never joined, one that stands, either way round, one that is taken, one that can be made; and a break of an owner
with nothing, with a waiting join, with a connection. -/
theorem witness_StepKeepsConnectionsSound_requests :
    let new : Join := ⟨.trunk .t1, .slot .b, .carry ⟨1, 1⟩⟩
    full.xptJoin .localCall .handset .handset = full ∧ full.xptJoin .localCall (.slot .a) .tone = full ∧
    (∃ j ∈ full.xpt.joins, j.owner = .localCall ∧ j.x = .handset ∧ j.y = .tone) ∧
    (full.xptJoin .localCall .tone .handset).xpt = full.xpt ∧
    (∃ j ∈ full.xpt.joins, j.owner ≠ .carry ⟨8, 1⟩ ∧ j.x = .handset) ∧
    (full.xptJoin (.carry ⟨8, 1⟩) (.slot .a) .handset).xpt.waiting = [⟨.slot .a, .handset, .carry ⟨8, 1⟩⟩] ∧
    (∀ j ∈ full.xpt.joins, j.owner = new.owner ∨ new.has j.x = false ∧ new.has j.y = false) ∧
    new ∈ (full.xptJoin new.owner new.x new.y).xpt.joins ∧
    full.xptBreak new.owner = full ∧ (full.xptBreak (.carry ⟨8, 1⟩)).xpt.waiting = [] ∧
    (full.xptBreak .localCall).xpt.joins = [⟨.handset, .trunk .t2, .carry ⟨8, 1⟩⟩] := by decide

theorem witness_StepKeepsCarriesInAgreement : full.CarriesSound := full_carries

theorem witness_StepKeepsTheCallRecordSound : full.CallSound := by
  refine ⟨?_, ?_, ?_, ?_⟩
  · simp only [State.IdleCallIsClear]; decide
  · refine ⟨by decide, by decide, by decide, by decide, by decide, by decide, by decide, ?_, by decide⟩
    intro h
    cases h
  · simp only [State.CallCountsBounded]; decide
  · simp only [State.LampFollows]; decide

theorem full_line : full.LineSound ∧ full.IsolatedIsQuiet := by
  simp only [State.LineSound, Lnc.Sound, State.IsolatedIsQuiet]; decide

/-- An ISOLATED box runs, quiet. -/
theorem witness_LineStaysSoundAndIsolatedBoxSilent :
    let s : State := { box with cfg := { box.cfg with address := .isolated } }
    s.own = none ∧ s.IsolatedIsQuiet ∧ ∃ t, step (s.withPending [.uptimeTick]) = .next t :=
  ⟨rfl, fun _ => by decide, _, rfl⟩

theorem witness_StepTakesTheFrontCommand :
    (box.withPending [.uptimeTick]).pending = .uptimeTick :: [] ∧ box.pending = [] := by decide

theorem witness_StepKeepsSupplyConfigAndTime :
    (full.SupplySound ∧ full.ConfigSound ∧ full.TimeSound) ∧
    isResetCommand .uptimeTick = false ∧ ∃ t, exec .uptimeTick full = .next t := by
  refine ⟨⟨?_, ?_, ?_⟩, rfl, _, rfl⟩
  · simp only [State.SupplySound]; decide
  · refine ⟨by decide, by decide, by decide, by decide, by decide, by decide, by decide, by decide, ?_⟩
    intro n h
    cases h
    decide
  · simp only [State.TimeSound]; decide

theorem witness_CallLogGrowsOnlyAtItsHead :
    full.ListsBounded ∧ Instr.placementLimitExpiry ≠ .coldReset ∧ full.phase ≠ .brownOutHeld ∧
    ∃ t, exec .placementLimitExpiry full = .next t := ⟨by simp only [State.ListsBounded]; decide, by decide, by decide, _, rfl⟩

/-- A full log, of which the oldest record falls out. -/
theorem witness_CallLogGrowsOnlyAtItsHead_full_log :
    let s : State := { full with svc := { full.svc with log := List.replicate 32 ⟨1, .localCall, none, none, 1, 0, .noRoute, 0, 4⟩ } }
    s.ListsBounded ∧ (after .placementLimitExpiry s).svc.log.length = 32 ∧
    (after .placementLimitExpiry s).svc.log[0]? ≠ s.svc.log[0]? := by
  simp only [State.ListsBounded]; decide

theorem witness_HeldPartTakesNoOutsideEvent :
    State.reset.phase ≠ .running ∧ reading.phase ≠ .running ∧ isOutsideEvent .uptimeTick = true := by decide

theorem witness_FrameBytesReadBack :
    [from_ 1 0, ⟨255, 255, 255⟩].all Header.wf = true ∧ some 9 ≠ some (from_ 1 0).src ∧
    (Body.creq 255 16777215).Fits ∧ (Body.reach (List.replicate 40 255)).Fits ∧ (Body.srep (List.replicate 21 0)).Fits ∧
    (Body.lrep (List.replicate 18 0)).Fits ∧ (Body.thld 255 255 255 255).Fits ∧ Body.sqry.Fits := by
  simp only [Body.Fits]; decide

theorem witness_ReachPayloadReadsBack :
    ({ seq := 255, capacity := 3, supply := .critical, localCall := true,
       items := List.replicate 4 ⟨999999, some .g5, 31, 15⟩ } : ReachAdvert).Fits ∧
    ({ seq := 0, capacity := 0, supply := .ok, localCall := false, items := [⟨10000, none, 0, 0⟩] } : ReachAdvert).Fits := by
  simp only [ReachAdvert.Fits]; decide

theorem witness_RouteScoreIsTheRuleOfItsInputs : 31 ≤ 31 ∧ 6 ≤ 6 ∧ routeScore 31 6 0 29 0 0 = 130 := by decide

theorem witness_CandidateListHoldsTheBestAllowedRoutes :
    (full.NetworksSound ∧ full.NeighboursSound) ∧ (∃ c ∈ buildList full, c.via = .slot .b) ∧
    ∃ c ∈ buildList full, c.via = .box 1 := ⟨full_tables, by decide, by decide⟩

/-- A relay route of a code that its neighbour's items name twice: the better item forms it. -/
theorem witness_CandidateListHoldsTheBestAllowedRoutes_equal_items :
    let s : State := { full with
      nbt := [neighbour 1 .usable [⟨999999, none, 31, 15⟩, ⟨999999, some .g5, 31, 0⟩, ⟨10000, some .g2, 0, 0⟩]] }
    ∃ c ∈ buildList s, c.via = .box 1 ∧ c.code = 999999 ∧ c.q = 0 := by decide

/-- An entry whose bar ends now, on an IDLE slot, and an item of a USABLE neighbour at its last second: both are listed. -/
theorem witness_CandidateListHoldsTheBestAllowedRoutes_every_route :
    let e : NetEntry := { entry 10000 .g5 (some 31) 3600 with barredUntil := some 5, quality := ⟨15, some 5900⟩ }
    let n : NeighbourEntry := { neighbour 1 .usable [⟨999999, none, 31, 15⟩] with age := 65535, capacity := 1, supply := .low }
    let s : State := { box with nwt := { a := [e], b := [] }, nbt := [n] }
    s.NetworksSound ∧ s.NeighboursSound ∧ (s.slot .a).state = .idle ∧ e ∈ s.table .a ∧ e.permitted = true ∧
    s.cfg.uptime = 5 ∧ s.own ≠ none ∧ n ∈ s.nbt ∧ n.state = .usable ∧ n.capacity ≠ 0 ∧ n.supply ≠ .critical ∧
    (buildList s).map Candidate.route = [⟨.slot .a, some 10000⟩, ⟨.box 1, some 999999⟩] := by
  simp only [State.NetworksSound, tableSound, NetEntry.Sound, Quality.Sound, State.NeighboursSound, NeighbourEntry.Sound]
  decide

theorem witness_PeerFilterGivesTheFirstMatch :
    filterMatches ⟨.range, 63, 63, .ignore⟩ 63 = true ∧ filterMatches ⟨.pair, 0, 63, .ignore⟩ 0 = true ∧
    filterMatches ⟨.mask, 16, 48, .prefer⟩ 31 = true ∧ filterMatches ⟨.off, 0, 63, .ignore⟩ 8 = false := by decide

theorem witness_QualityCounterFollowsReportsAndDecay :
    Quality.Sound ⟨15, some 5900⟩ ∧ Quality.Sound ⟨1, some 5900⟩ ∧ Quality.Sound ⟨0, none⟩ := by
  simp only [Quality.Sound]; decide

/-- A decay that is due, with a counter at 13 and at 14. -/
theorem witness_QualityCounterFollowsReportsAndDecay_due :
    ∀ v ∈ [13, 14], ∃ q : Quality, q = ⟨v, some 5900⟩ ∧ q.value ≠ 0 ∧ q.decay = some 5900 ∧ 5900 ≤ 5900 := by
  intro v _; exact ⟨_, rfl, by simp_all; omega, rfl, by decide⟩

/-- The queue clauses with 7 and with 8 frames queued, and the takes with and without a REACH's turn. -/
theorem witness_TransmitQueueAndTransmitterTakeFrames :
    queueK.frameClass = .reach ∧ queueA.frameClass = .tool ∧ queueC.frameClass = .hold ∧ queueD.frameClass = .call ∧
    (∀ g ∈ List.replicate 8 queueC, g.frameClass ≠ .reach) ∧
    ([queueA, queueB, queueC, queueD, queueE, queueF, queueG, queueH] : List TxFrame) =
      [] ++ queueA :: [queueB, queueC, queueD, queueE, queueF, queueG, queueH] ∧
    (∀ x ∈ queueB :: List.replicate 7 queueC, x.frameClass ≠ .tool) ∧
    (∀ x ∈ List.replicate 8 queueD, x.frameClass ≠ .tool ∧ x.frameClass ≠ .reach) ∧
    (resetLnc []).tx = .idle ∧ (∀ f ∈ [queueB, queueC], f.frameClass ≠ .unsent) := by decide

/-- The transmitter's clause at the turn count of 4. -/
theorem witness_TransmitterAtTheReachTurn : Lnc.Sound { resetLnc [] with turn := 4 } := by simp only [Lnc.Sound]; decide

theorem witness_ColdResetAndReleaseLeaveTheColdState :
    State.reset.phase = .resetHeld ∧ ({ State.reset with phase := .brownOutHeld } : State).phase = .brownOutHeld := by
  decide

/-- Records of sum 0 with an address at each end of 1..62 and just outside, and one of another sum. -/
theorem witness_StartUpFollowsTheRecord :
    reading.phase = .readingConfig ∧ 95 ≤ 95 ∧
    (∀ addr ∈ [0, 1, 62, 63], ∀ fit ∈ [0, 1, 2, 3], (record addr fit).length = 32 ∧
      ((record addr fit).map BitVec.toNat).sum % 256 = 0) ∧
    (byteOf 1 :: (record 23 1).drop 1).length = 32 ∧
    ((byteOf 1 :: (record 23 1).drop 1).map BitVec.toNat).sum % 256 ≠ 0 := by decide +kernel

/-- The phases that the reset commands act in, and a record with a filter of each type and action, listed and not. -/
theorem witness_StartUpFollowsTheRecord_resets_and_filters :
    State.reset.phase = .resetHeld ∧ ({ State.reset with phase := .brownOutHeld } : State).phase = .brownOutHeld ∧
    (let body : List Nat := [23, 1, 3, 30, 2, 88, 24, 1, 118, 1, 1, 0, 63, 0, 3, 64, 255, 1, 4, 1, 2, 0, 2, 1, 2, 2, 0, 0, 0,
        0, 0]
     let bytes := (body ++ [(256 - body.sum % 256) % 256]).map byteOf
     bytes.length = 32 ∧ (bytes.map BitVec.toNat).sum % 256 = 0 ∧
     ((after (.configReadComplete bytes 95) reading).cfg.record.filters.map PeerFilter.type) =
       [.range, .mask, .off, .off]) := by decide +kernel

def sampling (st : Supply) : State := { box with spm := { box.spm with supply := st, settling := false, timer := some 5900 } }

theorem witness_SupplySampleSettlesAndDebounces :
    (sampling .ok).phase = .running ∧ (sampling .ok).Due (sampling .ok).spm.timer 5900 ∧
    pointsTo 118 .ok 117 = some .low ∧ pointsTo 118 .ok 118 = none ∧ pointsTo 118 .low 107 = some .critical ∧
    pointsTo 118 .low 122 = some .ok ∧ pointsTo 118 .critical 112 = some .low ∧
    full.Due full.spm.timer 5900 ∧ full.spm.pendingSupply = some .low ∧ full.spm.count = 1 ∧ box.spm.settling = true := by
  simp only [State.Due]; decide

/-- The second sample that leads into CRITICAL, and the one that leads out of it. -/
theorem witness_SupplySampleSettlesAndDebounces_critical :
    ∀ x ∈ [(Supply.low, Supply.critical, 107), (.critical, .low, 112)],
      let s : State := { sampling x.1 with spm := { (sampling x.1).spm with pendingSupply := some x.2.1, count := 1 } }
      s.Due s.spm.timer 5900 ∧ s.spm.supply = x.1 ∧ isOut (s.slot .a).state = false ∧
      (after (.supplySample x.2.2) s).spm.supply = x.2.1 := by
  simp only [State.Due]; decide

theorem witness_BrownOutHoldsThePartAndKeepsTheLog :
    (sampling .ok).Due (sampling .ok).spm.timer 5900 ∧ 94 < 95 ∧
    ({ State.reset with phase := .brownOutHeld } : State).phase = .brownOutHeld ∧ 104 < 105 ∧
    reading.phase = .readingConfig ∧ (record 23 1).length = 32 := by
  simp only [State.Due]; decide

theorem witness_UptimeTickCountsOneSecond : full.phase = .running ∧ full.own ≠ none := by decide

/-- No REACH has been built: no ageing makes an early advert due. -/
theorem witness_UptimeTickCountsOneSecond_none_due : ¬ full.EarlyAdvertDue (advertItems (after .uptimeTick full)) := id

/-- The box with its switches in the given states, their timers at the end of the second. -/
def switches (b : ButtonState) (h : HookState) : State :=
  { box with cpi := { resetCpi with button := b, hook := h, buttonTimer := some 5900, hookTimer := some 5900 } }

theorem witness_SwitchesAreDebouncedWithoutEvents :
    (∀ b ∈ [ButtonState.released, .pressPending, .pressed, .releasePending],
      (switches b .onHook).phase = .running ∧ (switches b .onHook).cpi.buttonWatch = none ∧
      (switches b .onHook).cpi.button = b) ∧
    (∀ h ∈ [HookState.onHook, .liftPending, .lifted, .replacePending],
      (switches .released h).cpi.hookWatch = none ∧ (switches .released h).cpi.hook = h) ∧
    (let s : State := { box with cpi := { resetCpi with buttonWatch := some 5900, hookWatch := some 5900 } }
     s.Due s.cpi.buttonWatch 5900 ∧ s.cpi.hookWatch = some 5900) ∧
    (switches .releasePending .onHook).Due (switches .releasePending .onHook).cpi.buttonTimer 5900 := by
  simp only [State.Due]; decide

/-- One watch that ends before the other, and one alone. -/
theorem witness_SwitchesAreDebouncedWithoutEvents_one_watch :
    ∀ other ∈ [none, some 5901],
      (let s : State := { box with cpi := { resetCpi with buttonWatch := some 5900, hookWatch := other } }
       s.Due s.cpi.buttonWatch 5900 ∧ ∀ x, s.cpi.hookWatch = some x → max s.clock.now 5900 < x) ∧
      (let s : State := { box with cpi := { resetCpi with hookWatch := some 5900, buttonWatch := other } }
       s.Due s.cpi.hookWatch 5900 ∧ s.phase = .running ∧ ∀ x, s.cpi.buttonWatch = some x → max s.clock.now 5900 < x) := by
  intro other h
  simp only [List.mem_cons, List.not_mem_nil, or_false] at h
  rcases h with rfl | rfl <;> simp [State.Due, box]

theorem witness_PressOrLiftInIdleStartsACall :
    let s := switches .pressPending .liftPending
    s.ple.state = .idle ∧ s.Due s.cpi.buttonTimer 5900 ∧ s.Due s.cpi.hookTimer 5900 ∧
    s.cpi.button = .pressPending ∧ s.cpi.hook = .liftPending ∧ buildList s = [] ∧
    buildList { s with nwt := full.nwt } ≠ [] := by
  simp only [State.Due]; decide

/-- A press and a lift that come due in BELL with the callback offered, in WAITING, and in the other states. -/
theorem witness_PressOrLiftInIdleStartsACall_elsewhere :
    (let s : State := { switches .pressPending .liftPending with
       slc := (slotBox .offered .localCall).slc, ple := { ownCall .bell with bellTimer := some 5900 } }
     s.Due s.cpi.buttonTimer 5900 ∧ s.Due s.cpi.hookTimer 5900 ∧ s.ple.state = .bell ∧
     s.ple.route = some ⟨.slot .a, some 47125⟩ ∧ (s.slot .a).state = .offered) ∧
    ∀ st ∈ [CallState.waiting, .dialling, .relaying, .ringing, .talking],
      let s : State := { switches .pressPending .liftPending with ple := ownCall st }
      s.Due s.cpi.buttonTimer 5900 ∧ s.Due s.cpi.hookTimer 5900 ∧ s.cpi.button = .pressPending ∧
      s.cpi.hook = .liftPending ∧ s.ple.state = st := by
  simp only [State.Due]; decide

/-- A box whose best route is on a slot that carries for another box, its next one by way of box 1. -/
def roundStart : State :=
  { carryBox .dialling .dialling owned with
    nwt := { a := [entry 47125 .g5 (some 31) 0], b := [] }
    nbt := [neighbour 1 .usable [⟨999999, some .g2, 8, 0⟩]] }

/-- What `State.StartsRound` asks of: a route that is skipped before one that is not. -/
theorem witness_StartsRound :
    ∃ c d, buildList roundStart = [c] ++ d :: [] ∧ roundStart.Skips c ∧ ¬ roundStart.Skips d ∧ c.via = .slot .a ∧
      d.via = .box 1 := by
  refine ⟨(buildList roundStart)[0]'(by decide), (buildList roundStart)[1]'(by decide), by decide,
    .inr (.inr (.inr (.inl ⟨⟨8, 1⟩, rfl⟩))), ?_, by decide, by decide⟩
  intro h
  have h := h _ rfl
  revert h
  decide

theorem witness_ReplacementClearsTheCall :
    let s : State := { switches .released .replacePending with ple := { relayCall .talking with trunk := some .t2 } }
    s.Due s.cpi.hookTimer 5900 ∧ s.cpi.hook = .replacePending ∧ s.ple.state ≠ .idle ∧ s.ple.handsetLifted = true ∧
    s.ple.relayCarrier = some 8 ∧ box.ple.state = .idle := by
  simp only [State.Due]; decide

/-- The own route's clauses: a grant with DIAL sent, a claim that waits, an offer; and a call that waits on a scan. -/
theorem witness_ReplacementClearsTheCall_own_route :
    (∀ x ∈ [(SlotState.dialling, CallState.dialling), (.ringing, .ringing), (.talking, .talking), (.offered, .bell)],
      let s : State := { switches .released .replacePending with slc := (slotBox x.1 .localCall).slc, ple := ownCall x.2 }
      s.Due s.cpi.hookTimer 5900 ∧ s.ple.handsetLifted = true ∧ s.ple.route = some ⟨.slot .a, some 47125⟩ ∧
      s.ple.state = x.2 ∧ (s.slot .a).grant = .localCall ∧ (s.slot .a).state = x.1 ∧ (s.slot .a).NoClaims) ∧
    (let s : State := { switches .released .replacePending with
       slc := { a := { resetSlot .warming [] with power := true, deadline := some 5900, waitingLocal := some .dial }
                b := idleSlot }
       ple := ownCall .dialling }
     s.ple.state = .dialling ∧ (s.slot .a).grant ≠ .localCall ∧ s.ple.route = some ⟨.slot .a, some 47125⟩) ∧
    (let s : State := { switches .released .replacePending with
       slc := { a := { resetSlot .warming [] with power := true, deadline := some 5900, waitingLocal := some .emergencyScan }
                b := idleSlot }
       ple := { full.ple with awaited := [.a] } }
     s.ple.state = .waiting ∧ s.ple.handsetLifted = true ∧ s.Due s.cpi.hookTimer 5900) := by
  simp only [State.Due, SlotRec.NoClaims]; decide

/-- A relay attempt whose answer is still awaited. -/
theorem witness_ReplacementClearsTheCall_awaited_answer :
    let s : State := { switches .released .replacePending with
      ple := { relayCall .relaying with answerTimer := some 5900 } }
    s.Due s.cpi.hookTimer 5900 ∧ s.cpi.hook = .replacePending ∧ s.ple.handsetLifted = true ∧ s.ple.state = .relaying ∧
    s.ple.trunk = none := by
  simp only [State.Due]; decide

theorem witness_CadencesAlternateTheirPhases :
    let s : State := { full with cpi := { resetCpi with bell := .ringing true, bellCadence := some 5900, lamp := .fast,
                                                        lampCadence := some 5900, fastFlash := some 5900 } }
    s.Due s.cpi.bellCadence 5900 ∧ s.cpi.bell = .ringing true ∧ s.Due s.cpi.lampCadence 5900 ∧ s.cpi.lamp = .fast ∧
    s.Due s.xpt.cadence 5900 ∧ s.xpt.cue = .connecting true ∧ s.Due s.cpi.fastFlash 5900 := by
  simp only [State.Due]; decide

theorem witness_PauseEndsInTheNextRound :
    full.Due full.ple.pauseTimer 5900 ∧ full.ple.state = .waiting ∧ buildList full ≠ [] ∧
    (let s : State := { box with ple := full.ple }
     s.Due s.ple.pauseTimer 5900 ∧ s.ple.state = .waiting ∧ buildList s = []) := by
  simp only [State.Due]; decide

/-- A relay attempt on its trunk, with its timers at the end of the second and every route tried. -/
def relaying (st : CallState) : State :=
  { box with
    ple := { relayCall st with trunk := some .t2, holdRefresh := some 5900, carrierSilence := some 5900,
                               ringLimit := some 5900, tried := [⟨.box 8, some 47125⟩] }
    rsl := [⟨.box 8, 47125, 63, 0⟩] }

/-- The same before the CACK. -/
def asking : State := { relaying .relaying with ple := { relayCall .relaying with
  answerTimer := some 5900, tried := [⟨.box 8, some 47125⟩] } }

theorem allTried_relaying (st : CallState) : (relaying st).AllTried := by
  intro c hc
  simp [relaying] at hc
  subst hc
  exact List.mem_cons_self ..

theorem allTried_asking : asking.AllTried := by simp only [State.AllTried]; decide

theorem witness_RelayWaitRefreshesAndTimesOut :
    (asking.Due asking.ple.answerTimer 5900 ∧ asking.ple.state = .relaying ∧
      asking.ple.route = some ⟨.box 8, some 47125⟩ ∧ asking.AllTried) ∧
    (relaying .talking).Due (relaying .talking).ple.holdRefresh 5900 ∧ (relaying .talking).ple.relayCarrier = some 8 ∧
    (relaying .talking).ple.trunk = some .t2 := by
  simp only [State.Due, State.AllTried]; decide

/-- The same with a route of the list left untried. -/
theorem witness_RelayWaitRefreshesAndTimesOut_untried :
    let s : State := { asking with
      rsl := [⟨.box 8, 47125, 63, 0⟩, ⟨.slot .a, 47125, 40, 0⟩]
      nwt := { a := [entry 47125 .g2 (some 5) 0], b := [] } }
    s.Due s.ple.answerTimer 5900 ∧ s.ple.route = some ⟨.box 8, some 47125⟩ ∧
    (s.rsl.filter fun c => c.route ∉ s.ple.tried) = [⟨.slot .a, 47125, 40, 0⟩] := by
  simp only [State.Due]; decide

/-- An own attempt that rings on slot A under the local call's grant. -/
def ringing : State :=
  { slotBox .ringing .localCall with
    ple := { ownCall .ringing with ringLimit := some 5900, tried := [⟨.slot .a, some 47125⟩] }
    rsl := [⟨.slot .a, 47125, 63, 0⟩] }

theorem witness_SilenceAndRingLimitEndTheAttempt :
    (relaying .ringing).ple.route = some ⟨.box 8, some 47125⟩ ∧
    (relaying .ringing).Due (relaying .ringing).ple.carrierSilence 5900 ∧
    (relaying .ringing).Due (relaying .ringing).ple.ringLimit 5900 ∧ (relaying .ringing).ple.state = .ringing ∧
    (relaying .ringing).AllTried ∧ ringing.Due ringing.ple.ringLimit 5900 ∧
    ringing.ple.route = some ⟨.slot .a, some 47125⟩ ∧ (ringing.slot .a).state = .ringing ∧
    (ringing.slot .a).grant = .localCall ∧ ringing.AllTried := by
  simp only [State.Due, State.AllTried]; decide

/-- A state in whose candidate list a route is left untried. -/
def untried (s : State) : State := { s with rsl := s.rsl ++ [⟨.slot .b, 47110, 40, 0⟩] }

theorem witness_SilenceAndRingLimitEndTheAttempt_untried :
    ∀ s ∈ [untried (relaying .ringing), untried ringing],
      s.Due s.ple.ringLimit 5900 ∧ s.ple.state = .ringing ∧ ¬ s.AllTried := by
  simp only [State.Due, State.AllTried]; decide

/-- A call through its carrier that has been resumed so many times. -/
def resumed (n : Nat) : State := { relaying .talking with ple := { (relaying .talking).ple with resumptions := n } }

theorem witness_SilenceAndRingLimitEndTheAttempt_loss :
    ∀ n ∈ [0, 4], (resumed n).ple.route = some ⟨.box 8, some 47125⟩ ∧
      (resumed n).Due (resumed n).ple.carrierSilence 5900 ∧ (resumed n).ple.state = .talking ∧
      (resumed n).ple.resumptions < 5 := by
  simp only [State.Due]; decide

/-- The sixth loss of a call through its carrier. -/
theorem witness_SilenceAndRingLimitEndTheAttempt_sixth :
    (resumed 5).ple.route = some ⟨.box 8, some 47125⟩ ∧ (resumed 5).Due (resumed 5).ple.carrierSilence 5900 ∧
    (resumed 5).ple.state = .talking ∧ (resumed 5).ple.resumptions = 5 := by
  simp only [State.Due]; decide

theorem witness_LimitsCloseTheCall :
    full.Due full.ple.placementLimit 5900 ∧
    (let s : State := { slotBox .offered .localCall with ple := { ownCall .bell with bellTimer := some 5900 } }
     s.Due s.ple.bellTimer 5900 ∧ s.ple.state = .bell ∧ s.ple.route = some ⟨.slot .a, some 47125⟩ ∧
     (s.slot .a).state = .offered ∧ (s.slot .a).grant = .localCall ∧ (s.slot .a).NoClaims) := by
  simp only [State.Due, SlotRec.NoClaims]; decide

theorem witness_TableAgesAndTimersAct :
    (({ box with ple := { resetPle with window := some 0 } } : State).ple.window = some 0) ∧
    (let e : NetEntry := { entry 10000 .g5 (some 31) 3600 with quality := ⟨15, some 5900⟩ }
     e ∈ full.table .a ∧ full.Due e.quality.decay 5900 ∧ 3600 ≤ e.age) ∧
    (let e : NetEntry := { entry 999999 .g2 none 0 with barredUntil := some 6 }
     let s : State := { full with cfg := { full.cfg with uptime := 6 } }
     e ∈ s.table .a ∧ e.barredUntil = some 6 ∧ 6 ≤ s.cfg.uptime) ∧
    (let n : NeighbourEntry := { neighbour 62 .usable [] with age := 90, quality := ⟨1, some 5900⟩ }
     let s : State := { full with nbt := [n, { neighbour 1 .stale [] with age := 300 }] }
     n ∈ s.nbt ∧ s.Due n.quality.decay 5900 ∧ n.state ≠ .stale ∧ 3 * s.cfg.record.advertInterval ≤ n.age ∧
     10 * s.cfg.record.advertInterval ≤ 300) := by
  simp only [State.Due]; decide

/-- The tables of the clauses on network entries. -/
theorem witness_TableAgesAndTimersActTable : tableSound (full.table .a) := full_tables.1.1

/-- Slot A in WARMING with the local call's dial waiting, or a periodic scan. -/
def warming (claim : Option LocalClaim) (scan : Bool) : State :=
  { box with
    ple := ownCall .dialling
    slc := { a := { resetSlot .warming [] with power := true, deadline := some 5900, waitingLocal := claim,
                                               waitingScan := scan }
             b := idleSlot } }

theorem witness_ReadyEndsTheWarmUp :
    (∀ scan, ((warming none scan).slot .a).state = .warming ∧ ((warming none scan).slot .a).grant = .nobody ∧
      ((warming none scan).slot .a).waitingLocal = none ∧ ((warming none scan).slot .a).waitingCarry = [] ∧
      ((warming none scan).slot .a).waitingScan = scan) ∧
    (box.slot .a).state = .idle ∧ ((warming (some .dial) true).slot .a).waitingLocal = some .dial ∧
    (warming (some .dial) true).ple.route = some ⟨.slot .a, some 47125⟩ := by decide

/-- An emergency-scan claim before the others, and two CARRY claims of which the later waited first. -/
theorem witness_ReadyEndsTheWarmUp_other_claims :
    ((warming (some .emergencyScan) true).slot .a).waitingLocal = some .emergencyScan ∧
    (let s : State := { box with
       slc := { a := { resetSlot .warming [] with power := true, deadline := some 5900, waitingScan := true
                                                  waitingCarry := [⟨2, 2⟩, ⟨8, 1⟩] }
                b := idleSlot }
       cye := [carry .queued, { carry .queued with id := ⟨2, 2⟩ }] }
     (s.slot .a).state = .warming ∧ (s.slot .a).grant = .nobody ∧ (s.slot .a).waitingLocal = none ∧
     s.cye = [] ++ carry .queued :: [{ carry .queued with id := ⟨2, 2⟩ }] ∧
     (carry .queued).id ∈ (s.slot .a).waitingCarry) := by decide

theorem witness_NetsItemsEnterTheTable :
    tableSound (full.table .a) ∧ (List.replicate 8 (⟨10000, some .g5, none, true⟩ : NetItem)).length ≤ 8 ∧
    (full.table .a).length + (goodItems [] [⟨10000, some .g5, none, true⟩]).length ≤ 8 :=
  ⟨full_tables.1.1, by decide, by decide⟩

/-- A full table of which two entries age alike, and items at the ends of the codes, one after an item of its code with
no type. -/
theorem witness_NetsItemsEnterTheTable_full :
    let es := [entry 10001 .g2 none 3600, entry 10002 .g2 (some 0) 3600, entry 10003 .g2 none 3599,
      entry 10004 .g2 none 0, entry 10005 .g2 none 0, entry 10006 .g2 none 0, entry 10007 .g2 none 0,
      entry 10008 .g2 none 0]
    let items : List NetItem := [⟨10000, none, none, true⟩, ⟨10000, some .g3, some 40, true⟩, ⟨999999, some .g5, none, true⟩]
    tableSound es ∧ items.length ≤ 8 ∧
    goodItems [] items = [⟨10000, .g3, some 31, true⟩, ⟨999999, .g5, none, true⟩] ∧ (takeItems [] [] es).length = 8 ∧
    (∀ e ∈ es, e.code ≠ 10000) ∧
    (takeItems [] (goodItems [] items) es).map NetEntry.code =
      [10003, 10004, 10005, 10006, 10007, 10008, 10000, 999999] := by
  simp only [tableSound, NetEntry.Sound, Quality.Sound]; decide

/-- Slot A scanning, for the periodic scan or for the waiting call. -/
def scanning (k : ScanKind) : State :=
  { slotBox .scanning (.scan k) with
    ple := { ownCall .waiting with awaited := [.a], pauseTimer := some 5900 }
    adv := { resetAdv with timer := .startWait 45000 } }

theorem witness_ScanEndsWithNetsOrDeadline :
    ∀ k, ((scanning k).slot .a).state = .scanning ∧ ((scanning k).slot .a).grant = .scan k ∧
      ((scanning k).slot .a).waitingLocal = none ∧ ((scanning k).slot .a).waitingCarry = [] ∧
      (scanning k).phase = .running ∧ (scanning k).Due ((scanning k).slot .a).deadline 5900 ∧
      (scanning k).adv.timer = .startWait 45000 ∧ (scanning k).adv.lastBest = .notYet ∧
      (scanning k).ple.state = .waiting ∧ (scanning k).ple.awaited = [.a] := by
  intro k
  cases k <;> (simp only [State.Due]; decide)

/-- A scan that is not the last of two awaited, and the last awaited one after the first REACH. -/
theorem witness_ScanEndsWithNetsOrDeadline_awaited :
    (let s : State := { scanning .emergency with ple := { (scanning .emergency).ple with awaited := [.a, .b] } }
     s.phase = .running ∧ s.Due (s.slot .a).deadline 5900 ∧ (s.slot .a).grant = .scan .emergency ∧ ¬ s.EndsWait .a) ∧
    (let s : State := { scanning .emergency with adv := { resetAdv with timer := .periodic 5900 } }
     s.phase = .running ∧ s.Due (s.slot .a).deadline 5900 ∧ (s.slot .a).grant = .scan .emergency ∧ s.EndsWait .a ∧
     (∀ o, (s.slot o).waitingLocal = none) ∧ (s.slot .a).waitingCarry = [] ∧ (s.slot .a).idleTimer = none) ∧
    ∀ w, ({ scanning .emergency with adv := { resetAdv with timer := .periodic 5900 } } : State).adv.timer ≠ .startWait w := by
  refine ⟨?_, ?_, fun w h => by cases h⟩
  · simp only [State.Due, State.EndsWait]; decide
  · refine ⟨rfl, ⟨rfl, by decide⟩, rfl, ⟨rfl, List.mem_cons_self .., by simp [scanning]⟩, fun o => ?_, rfl, rfl⟩
    cases o <;> rfl

/-- A periodic scan at whose end the call's dial, its emergency scan or two CARRY claims wait. -/
theorem witness_ScanEndsWithNetsOrDeadline_claims :
    (∀ k ∈ [LocalClaim.dial, .emergencyScan],
      let s : State := { scanning .periodic with
        slc := { a := { (scanning .periodic).slc.a with waitingLocal := some k }, b := idleSlot }
        ple := ownCall .dialling }
      (s.slot .a).state = .scanning ∧ (s.slot .a).grant = .scan .periodic ∧ (s.slot .a).waitingLocal = some k ∧
      s.ple.route = some ⟨.slot .a, some 47125⟩ ∧ s.Due (s.slot .a).deadline 5900 ∧ s.phase = .running) ∧
    (let s : State := { scanning .periodic with
       slc := { a := { (scanning .periodic).slc.a with waitingCarry := [⟨2, 2⟩, ⟨8, 1⟩] }, b := idleSlot }
       cye := [carry .queued, { carry .queued with id := ⟨2, 2⟩, trunk := .t3 }] }
     (s.slot .a).state = .scanning ∧ (s.slot .a).grant = .scan .periodic ∧ (s.slot .a).waitingLocal = none ∧
     s.cye = [] ++ carry .queued :: [{ carry .queued with id := ⟨2, 2⟩, trunk := .t3 }] ∧
     (carry .queued).id ∈ (s.slot .a).waitingCarry ∧ s.Due (s.slot .a).deadline 5900) := by
  simp only [State.Due]; decide

/-- Slot A dialling, ringing or talking for the local call, with every route tried. -/
def dialled (st : SlotState) (call : CallState) : State :=
  { slotBox st .localCall with
    slc := { a := { (slotBox st .localCall).slc.a with request := .dial 47125 }, b := idleSlot }
    ple := { ownCall call with tried := [⟨.slot .a, some 47125⟩], talkRoute := some ⟨.slot .a, some 47125⟩, resumptions := 5 }
    rsl := [⟨.slot .a, 47125, 63, 0⟩] }

theorem witness_DialAnswersMoveTheSlot :
    (dialled .dialling .dialling).phase = .running ∧ ((dialled .dialling .dialling).slot .a).state = .dialling ∧
    ((dialled .ringing .ringing).slot .a).state = .ringing := by decide

/-- The box with slot A in a state, its timers and its request as the state has them. -/
def soundBox (st : SlotState) : State :=
  { box with
    slc := { a := { resetSlot st [] with
                    power := isPowered st
                    heartbeat := if isPastWarmUp st then some 5900 else none
                    deadline := if runsDeadline st then some 5900 else none
                    idleTimer := if st = .idle then some 5900 else none
                    restartTimer := if st = .restarting then some 5900 else none
                    request := match st with
                      | .scanning => .scan
                      | .dialling => .dial 47125
                      | .clearing => .drop
                      | _ => .nothing }
             b := idleSlot } }

/-- A message of every kind in every state its entry does not name. -/
theorem witness_DialAnswersMoveTheSlot_unnamed :
    ∀ x ∈ [(SlotState.idle, Instr.rdy .a 600), (.ringing, .dack .a 600), (.idle, .dnak .a .barred 600),
        (.talking, .drty .a 600), (.dialling, .ring .a 600), (.idle, .live .a 600), (.talking, .live .a 600),
        (.scanning, .gone .a .lost 600), (.idle, .gone .a .farCleared 600), (.offered, .callin .a 600),
        (.clearing, .dack .a 600), (.talking, .nets .a (List.replicate 8 ⟨47110, some .g2, none, true⟩) 600)],
      isMessageAt .a 600 x.2 = true ∧ isPastWarmUp ((soundBox x.1).slot .a).state = true ∧
      namesState ((soundBox x.1).slot .a).state x.2 = false ∧ ((soundBox x.1).slot .a).Sound ∧
      (soundBox x.1).OutLampFollows ∧ (soundBox x.1).phase = .running := by
  simp only [SlotRec.Sound, State.OutLampFollows]; decide

/-- A message in WARMING, and messages under lowered power. -/
theorem witness_DialAnswersMoveTheSlot_unpowered :
    ∀ x ∈ [(SlotState.warming, Instr.beat .a none (some 31) 600), (.off, .rdy .a 600), (.restarting, .live .a 600),
        (.disabled, .callin .a 600), (.absent, .gone .a .lost 600)],
      isMessageAt .a 600 x.2 = true ∧ isPastWarmUp ((soundBox x.1).slot .a).state = false ∧
      (((soundBox x.1).slot .a).state = .warming → x.2 ≠ .rdy .a 600) ∧ (soundBox x.1).phase = .running := by decide

/-- The placement limit on an own route whose slot dials and rings or whose claim waits, on a relay attempt before its
answer and on its trunk, and in a WAITING with an emergency-scan claim. -/
theorem witness_LimitsCloseTheCall_attempts :
    let limit (s : State) : State := { s with ple := { s.ple with placementLimit := some 5900 } }
    (∀ x ∈ [(SlotState.dialling, CallState.dialling), (.ringing, .ringing)],
      let s := limit (dialled x.1 x.2)
      s.Due s.ple.placementLimit 5900 ∧ s.ple.route = some ⟨.slot .a, some 47125⟩ ∧ s.ple.state = x.2 ∧
      (s.slot .a).grant = .localCall ∧ (s.slot .a).state = x.1) ∧
    (let s : State := { limit (slotBox .warming .nobody) with ple := { ownCall .dialling with placementLimit := some 5900 } }
     s.Due s.ple.placementLimit 5900 ∧ s.ple.state = .dialling ∧ (s.slot .a).grant ≠ .localCall) ∧
    (limit asking).ple.state = .relaying ∧ (limit asking).ple.trunk = none ∧
    (limit (relaying .relaying)).ple.state = .relaying ∧ (limit (relaying .relaying)).ple.relayCarrier = some 8 ∧
    (limit (relaying .relaying)).ple.trunk = some .t2 ∧ full.ple.state = .waiting := by
  simp only [State.Due]; decide

/-- The queue of the states `carryBox`. -/
theorem carryBox_queue (st : SlotState) (c : CarryState) (e : TrunkEntry) : (carryBox st c e).QueueSound := by
  simp [State.QueueSound, carryBox, carry]

theorem witness_DialAnswersMoveTheHolder :
    (∀ x ∈ [(SlotState.dialling, CallState.dialling, CarryState.dialling), (.ringing, .ringing, .ringing)],
      ((dialled x.1 x.2.1).slot .a).grant = .localCall ∧ ((dialled x.1 x.2.1).slot .a).state = x.1 ∧
      (dialled x.1 x.2.1).ple.state = x.2.1 ∧ (dialled x.1 x.2.1).ple.route = some ⟨.slot .a, some 47125⟩ ∧
      carry x.2.2 ∈ (carryBox x.1 x.2.2 owned).cye ∧ (carry x.2.2).slot = .a ∧
      ((carryBox x.1 x.2.2 owned).slot .a).grant = .carry ⟨8, 1⟩ ∧
      ((carryBox x.1 x.2.2 owned).slot .a).state = x.1) := by decide

theorem witness_DialRefusalsAndRetries :
    (let s := dialled .dialling .dialling
     s.phase = .running ∧ (s.slot .a).state = .dialling ∧ (s.slot .a).grant = .localCall ∧
     (s.slot .a).request = .dial 47125 ∧ (s.slot .a).NoClaims ∧ s.ple.route = some ⟨.slot .a, some 47125⟩ ∧ s.AllTried) ∧
    (let s : State := { carryBox .dialling .dialling owned with
       slc := { a := { (carryBox .dialling .dialling owned).slc.a with repeats := 2, repeatsDue := 2 }, b := idleSlot } }
     (s.slot .a).state = .dialling ∧ (s.slot .a).repeats = 2 ∧ (s.slot .a).repeatsDue = 2 ∧
     (s.slot .a).request = .dial 47125 ∧ (s.slot .a).NoClaims ∧ s.QueueSound ∧ carry .dialling ∈ s.cye ∧
     (s.slot .a).grant = .carry (carry .dialling).id) := by
  simp only [State.AllTried, SlotRec.NoClaims, State.QueueSound]; decide

theorem witness_DialRefusalsAndRetries_untried :
    let s := untried (dialled .dialling .dialling)
    s.phase = .running ∧ (s.slot .a).state = .dialling ∧ (s.slot .a).grant = .localCall ∧ (s.slot .a).NoClaims ∧
    s.ple.state = .dialling ∧ s.ple.route = some ⟨.slot .a, some 47125⟩ ∧ ¬ s.AllTried := by
  simp only [State.AllTried, SlotRec.NoClaims]; decide

/-- A carry's DNAK, the first two DRTY, a repeat with one and with two DIALs due, and the local call's third DRTY. -/
theorem witness_DialRefusalsAndRetries_other_holders :
    (let s := carryBox .dialling .dialling owned
     (s.slot .a).state = .dialling ∧ (s.slot .a).request = .dial (carry .dialling).code ∧ (s.slot .a).NoClaims ∧
     s.QueueSound ∧ carry .dialling ∈ s.cye ∧ (s.slot .a).grant = .carry (carry .dialling).id ∧
     (carry .dialling).slot = .a ∧ (s.trunk (carry .dialling).trunk).owner = some (carry .dialling).id) ∧
    ∀ n ∈ [1, 2],
      let s : State := { dialled .dialling .dialling with
        slc := { a := { (dialled .dialling .dialling).slc.a with repeats := n, repeatsDue := n, deadline := none }
                 b := idleSlot } }
      (s.slot .a).state = .dialling ∧ 1 ≤ (s.slot .a).repeatsDue ∧ (s.slot .a).request = .dial 47125 ∧
      (s.slot .a).repeats = n ∧ (s.slot .a).NoClaims ∧ (s.slot .a).grant = .localCall ∧ s.AllTried := by
  simp only [State.AllTried, SlotRec.NoClaims, State.QueueSound]; decide

theorem witness_CallEndsWhenTheModemLetsGo :
    (let s := dialled .talking .talking
     s.phase = .running ∧ (s.slot .a).state = .talking ∧ (s.slot .a).grant = .localCall ∧ (s.slot .a).NoClaims ∧
     s.ple.state = .talking ∧ s.ple.route = some ⟨.slot .a, some 47125⟩ ∧ s.ple.talkRoute = s.ple.route ∧
     s.ple.resumptions = 5) ∧
    ((slotBox .clearing .nobody).slot .a).state = .clearing ∧ ((slotBox .clearing .nobody).slot .a).NoClaims := by
  simp only [SlotRec.NoClaims]; decide

/-- A call with fewer than five resumptions behind it. -/
theorem witness_CallEndsWhenTheModemLetsGo_loss :
    ∀ n ∈ [0, 4],
      let s : State := { dialled .talking .talking with ple := { (dialled .talking .talking).ple with resumptions := n } }
      (s.slot .a).state = .talking ∧ (s.slot .a).grant = .localCall ∧ (s.slot .a).NoClaims ∧ s.ple.state = .talking ∧
      s.ple.route = some ⟨.slot .a, some 47125⟩ ∧ GoneCause.lost ≠ .farCleared ∧ s.ple.resumptions < 5 := by
  simp only [SlotRec.NoClaims]; decide

/-- A callback that talks on slot A, resumed so many times. -/
def calledBack (n : Nat) : State :=
  { dialled .talking .talking with
    ple := { (dialled .talking .talking).ple with route := some ⟨.slot .a, none⟩, talkRoute := none, resumptions := n } }

/-- A callback before its first, its fifth and its sixth loss. -/
theorem witness_CallEndsWhenTheModemLetsGo_callback :
    ∀ n ∈ [0, 4, 5], (calledBack n).phase = .running ∧ ((calledBack n).slot .a).state = .talking ∧
      ((calledBack n).slot .a).grant = .localCall ∧ ((calledBack n).slot .a).NoClaims ∧
      (calledBack n).ple.state = .talking ∧ (calledBack n).ple.route = some ⟨.slot .a, none⟩ ∧
      (calledBack n).ple.resumptions = n := by
  simp only [SlotRec.NoClaims]; decide

/-- GONE in DIALLING and RINGING, with every route tried and with one untried, and in OFFERED. -/
theorem witness_CallEndsWhenTheModemLetsGo_attempts :
    (∀ x ∈ [(SlotState.dialling, CallState.dialling), (.ringing, .ringing)],
      ∀ s ∈ [dialled x.1 x.2, untried (dialled x.1 x.2)],
        s.phase = .running ∧ (s.slot .a).state = x.1 ∧ s.ple.state = x.2 ∧ (s.slot .a).grant = .localCall ∧
        (s.slot .a).NoClaims ∧ s.ple.route = some ⟨.slot .a, some 47125⟩) ∧
    (dialled .dialling .dialling).AllTried ∧ ¬ (untried (dialled .ringing .ringing)).AllTried ∧
    (let s := dialled .offered .bell
     (s.slot .a).state = .offered ∧ (s.slot .a).grant = .localCall ∧ (s.slot .a).NoClaims ∧ s.ple.state = .bell) := by
  simp only [State.AllTried, SlotRec.NoClaims]; decide

theorem witness_BeatRefreshesTheCampedEntry :
    full.phase = .running ∧ isPastWarmUp (full.slot .a).state = true ∧ isPastWarmUp (full.slot .b).state = true := by
  decide

theorem witness_IncomingCallIsOfferedOrRefused :
    (let s : State := { box with ple := { resetPle with window := some 1 } }
     (s.slot .a).state = .idle ∧ s.ple.window ≠ none ∧ s.ple.state = .idle ∧ (s.slot .a).grant = .nobody ∧
     s.cpi.bell = .silent) ∧
    (∀ st ∈ [SlotState.dialling, .ringing, .talking, .clearing], ((slotBox st .nobody).slot .a).state = st) ∧
    ((slotBox .scanning (.scan .periodic)).slot .a).state = .scanning ∧ box.ple.window = none := by decide

/-- A scan under way with the window open, at its last second too, before the first REACH and after it. -/
theorem witness_IncomingCallIsOfferedOrRefused_scanning :
    ∀ k, ∀ adv ∈ [({ resetAdv with timer := .startWait 45000 } : Adv), { resetAdv with timer := .periodic 45000 }],
      let s : State := { slotBox .scanning (.scan k) with ple := { resetPle with window := some 0 }, adv := adv }
      (s.slot .a).state = .scanning ∧ s.ple.window ≠ none ∧ s.ple.state = .idle ∧
      (∃ kind, (s.slot .a).grant = .scan kind) ∧ s.adv.timer = adv.timer := by
  intro k adv _
  exact ⟨rfl, by simp, rfl, ⟨k, rfl⟩, rfl⟩

theorem witness_FaultsRestartOrDisableTheSlot :
    ((warming none false).Due ((warming none false).slot .a).deadline 5900 ∧
      ((warming none false).slot .a).state = .warming) ∧
    ((slotBox .clearing .nobody).Due ((slotBox .clearing .nobody).slot .a).deadline 5900 ∧
      ((slotBox .clearing .nobody).slot .a).state = .clearing ∧
      (slotBox .clearing .nobody).Due ((slotBox .clearing .nobody).slot .a).heartbeat 5900 ∧
      isPastWarmUp ((slotBox .clearing .nobody).slot .a).state = true ∧ (slotBox .clearing .nobody).phase = .running) ∧
    (let s := dialled .dialling .dialling
     s.ple.state = .dialling ∧ s.AllTried ∧ (s.slot .a).waitingCarry = [] ∧ (s.slot .a).waitingScan = false ∧
     s.Due (s.slot .a).heartbeat 5900 ∧ (s.slot .a).grant = .localCall ∧ (s.slot .a).waitingLocal = none) ∧
    (let s := warming (some .dial) false
     s.ple.state = .dialling ∧ s.ple.route = some ⟨.slot .a, some 47125⟩ ∧ s.AllTried ∧
     s.Due (s.slot .a).deadline 5900 ∧ (s.slot .a).waitingLocal = some .dial) ∧
    ([1, 5].filter fun u => decide (5 < u + 600)).length = 2 := by
  simp only [State.Due, State.AllTried]; decide

theorem witness_DialTimeoutDropsTheCarriedCall :
    ∀ r : Bool,
      let s := carryBox (if r then .ringing else .dialling) (if r then .ringing else .dialling) owned
      let c := carry (if r then .ringing else .dialling)
      s.QueueSound ∧ s.Due (s.slot .a).deadline 5900 ∧ (s.slot .a).state = (if r then .ringing else .dialling) ∧
      c ∈ s.cye ∧ c.slot = .a ∧ (s.slot .a).grant = .carry c.id ∧ (s.trunk c.trunk).owner = some c.id := by
  simp only [State.Due, State.QueueSound]; decide

theorem witness_SlotTimersPowerAndWarmTheSlot :
    (box.Due (box.slot .a).idleTimer 5900 ∧ (box.slot .a).state = .idle ∧ (box.slot .a).grant = .nobody ∧
      (box.slot .a).NoClaims) ∧
    (∀ st ∈ [SlotState.off, .restarting],
      let s : State := { box with slc := { a := { resetSlot st [] with restartTimer := some 5900 }, b := idleSlot } }
      s.Due (s.slot .a).restartTimer 5900 ∧ (s.slot .a).state = st) ∧
    (let s : State := { box with slc := { a := { resetSlot .off [] with scanTimer := some 5900 }
                                          b := { idleSlot with scanTimer := some 5900 } } }
     s.Due (s.slot .a).scanTimer 5900 ∧ (s.slot .a).state = .off ∧ (s.slot .a).restartTimer = none ∧
     s.Due (s.slot .b).scanTimer 5900 ∧ (s.slot .b).state = .idle ∧ (s.slot .b).NoClaims) := by
  simp only [State.Due, SlotRec.NoClaims]; decide

/-- The deadlines and the heartbeat watch at the second's end, and one that is not due before the next second. -/
theorem witness_SlotTimersPowerAndWarmTheSlot_faults :
    (let s := warming (some .dial) true
     (s.slot .a).state = .warming ∧ s.Due (s.slot .a).deadline 5900) ∧
    (let s := slotBox .clearing .nobody
     (s.slot .a).state = .clearing ∧ s.Due (s.slot .a).deadline 5900 ∧ s.Due (s.slot .a).heartbeat 5900) ∧
    ∀ at_, ¬ State.Due box (some 6000) at_ := by
  refine ⟨by simp only [State.Due]; decide, by simp only [State.Due]; decide, ?_⟩
  rintro at_ ⟨h, h'⟩
  cases h
  exact absurd h' (by decide)

/-- The box with an entry for network 47125 on a busy or on a free slot A, and three trunks taken. -/
def carrier (free : Bool) : State :=
  { (if free then box else slotBox .talking .localCall) with
    nwt := { a := [entry 47125 .g4 (some 20) 0], b := [] }
    tkm := { t1 := .held 8 5900, t2 := .held 8 5900, t3 := .held 8 5900, t4 := .free } }

theorem witness_CarryRequestIsAccepted :
    ∀ free, let s := carrier free
      s.Hears (from_ 62 9) ∧ s.own = some (from_ 62 9).dst ∧ (from_ 62 9).src ≠ 63 ∧
      (∀ c ∈ s.cye, c.id ≠ ⟨62, 255⟩) ∧ s.cfg.record.carrying = true ∧ s.spm.supply ≠ .critical ∧ s.cye.length < 3 ∧
      boundSlot s 47125 = some .a ∧ s.tkm.lowestFree = some .t4 ∧
      (free = true → (s.slot .a).state = .idle ∧ (s.slot .a).grant = .nobody ∧ (s.slot .a).NoClaims) ∧
      (free = false → (s.slot .a).state ≠ .idle ∧ (s.slot .a).state ≠ .off) := by
  simp only [State.Hears, SlotRec.NoClaims]; decide

/-- Both slots qualify, with equal scores and with the better one on slot B, or none. -/
theorem witness_CarryRequestIsAccepted_bound_slot :
    (∀ l ∈ [20, 21],
      let s : State := { box with
        nwt := { a := [entry 47125 .g4 (some 20) 29], b := [entry 47125 .g4 (some l) 29] } }
      s.NetworksSound ∧ boundSlot s 47125 = some (if l = 20 then .a else .b)) ∧
    (let s : State := { box with nwt := { a := [{ entry 47125 .g4 (some 20) 0 with barredUntil := some 6 }]
                                          b := [{ entry 47125 .g4 (some 20) 0 with permitted := false }] } }
     s.NetworksSound ∧ boundSlot s 47125 = none) := by
  simp only [State.NetworksSound, tableSound, NetEntry.Sound, Quality.Sound]; decide

/-- An IDLE slot whose grant is held, an OFF slot that warms for the claim, and one that waits for its restart. -/
theorem witness_CarryRequestIsAccepted_waiting_claims :
    (let s : State := { carrier true with slc := { a := { idleSlot with grant := .localCall, idleTimer := none }, b := idleSlot } }
     boundSlot s 47125 = some .a ∧ (s.slot .a).state = .idle ∧ (s.slot .a).grant ≠ .nobody) ∧
    ∀ restart ∈ [none, some 5900],
      let s : State := { carrier true with
        slc := { a := { resetSlot .off [] with restartTimer := restart }, b := idleSlot } }
      boundSlot s 47125 = some .a ∧ (s.slot .a).state = .off ∧ (s.slot .a).restartTimer = restart ∧
      s.Hears (from_ 62 9) ∧ s.tkm.lowestFree = some .t4 := by
  simp only [State.Hears]; decide

/-- Each refusing check met with the checks before it passed. -/
theorem witness_CarryRequestIsAnsweredByTheFirstCheck :
    let busy : State := { box with cye := [{ carry .queued with id := ⟨1, 1⟩ }, { carry .queued with id := ⟨2, 1⟩ },
                                           { carry .queued with id := ⟨3, 1⟩ }] }
    box.Hears (from_ 1 9) ∧ box.Hears (from_ 62 0) ∧ box.own = some (from_ 1 9).dst ∧ box.own ≠ some (from_ 62 0).dst ∧
    carry .queued ∈ full.cye ∧ full.QueueSound ∧ full.Hears (from_ 8 9) ∧ (∀ c ∈ busy.cye, c.id ≠ ⟨8, 1⟩) ∧
    3 ≤ busy.cye.length ∧ busy.spm.supply ≠ .critical ∧ busy.cfg.record.carrying = true ∧
    (sampling .critical).spm.supply = .critical ∧ boundSlot box 47125 = none ∧ boundSlot (carrier true) 47125 ≠ none ∧
    ({ carrier true with tkm := { (carrier true).tkm with t4 := .held 8 5900 } } : State).tkm.lowestFree = none := by
  simp only [State.Hears, State.QueueSound]; decide

theorem carryBox_sound (st : SlotState) (c : CarryState) (e : TrunkEntry) (h : e.owner = some ⟨8, 1⟩) :
    (carryBox st c e).CarriesSound :=
  carriesSound_of _ c st e h rfl rfl ⟨rfl, by cases c <;> rfl, by intro id hc; subst hc; simp [carryBox], rfl, rfl⟩

/-- The states in which a carry holds its slot's grant, slot and record. -/
def granted : List (SlotState × CarryState) := [(.dialling, .dialling), (.ringing, .ringing), (.talking, .talking)]

/-- GONE for a carry that dials, rings and talks. -/
theorem witness_CallEndsWhenTheModemLetsGo_carry :
    (∀ x : SlotState × CarryState, (carryBox x.1 x.2 owned).CarriesSound) ∧
    ∀ x ∈ granted,
      let s := carryBox x.1 x.2 owned
      s.phase = .running ∧ (s.slot .a).NoClaims ∧ carry x.2 ∈ s.cye ∧ (carry x.2).slot = .a ∧
      (s.slot .a).grant = .carry (carry x.2).id ∧ (s.slot .a).state = x.1 ∧ (carry x.2).state = x.2 := by
  refine ⟨fun x => carryBox_sound _ _ _ rfl, ?_⟩
  simp only [SlotRec.NoClaims]; decide

/-- A heartbeat watch that runs out and an RDY with work in hand, at every state of a grant. -/
theorem faultsAt_granted (s : State) (h : s.Due (s.slot .a).heartbeat 5900) :
    s.FaultsAt .a (.heartbeatWatchExpiry .a) (s.advanceTo 5900) := .inr (.inr (.inl ⟨5900, rfl, h, rfl⟩))

theorem faultsAt_rdy (s : State) (hp : s.phase = .running) (h : isPastWarmUp (s.slot .a).state = true)
    (hi : (s.slot .a).state ≠ .idle) : s.FaultsAt .a (.rdy .a 999) (s.arrive 999) :=
  .inr (.inr (.inr ⟨999, rfl, hp, h, hi, rfl⟩))

/-- A fault for the local call in DIALLING, RINGING and BELL, and in TALKING at no, the fifth and the sixth loss. -/
theorem witness_FaultsRestartOrDisableTheSlot_local_call :
    (∀ x ∈ [(SlotState.dialling, CallState.dialling), (.ringing, .ringing), (.talking, .talking), (.offered, .bell)],
      let s := dialled x.1 x.2
      s.FaultsAt .a (.heartbeatWatchExpiry .a) (s.advanceTo 5900) ∧ s.FaultsAt .a (.rdy .a 999) (s.arrive 999) ∧
      s.ple.route = some ⟨.slot .a, some 47125⟩ ∧ (s.slot .a).waitingCarry = [] ∧ (s.slot .a).waitingLocal = none ∧
      (s.slot .a).grant = .localCall ∧ s.ple.state = x.2 ∧ (s.slot .a).state ≠ .idle) ∧
    ∀ n ∈ [0, 4, 5],
      let s : State := { dialled .talking .talking with ple := { (dialled .talking .talking).ple with resumptions := n } }
      s.FaultsAt .a (.heartbeatWatchExpiry .a) (s.advanceTo 5900) ∧ s.ple.state = .talking ∧ s.ple.resumptions = n ∧
      (s.slot .a).grant = .localCall := by
  refine ⟨fun x hx => ?_, fun n _ => ?_⟩
  · simp only [List.mem_cons, List.not_mem_nil, or_false] at hx
    rcases hx with rfl | rfl | rfl | rfl <;>
      exact ⟨faultsAt_granted _ ⟨rfl, by decide⟩, faultsAt_rdy _ rfl rfl (by decide), rfl, rfl, rfl, rfl, rfl, by decide⟩
  · exact ⟨faultsAt_granted _ ⟨rfl, by simp [dialled, slotBox, box]⟩, rfl, rfl, rfl⟩

/-- A fault on a slot for which the local call waits, in WARMING and in CLEARING, and one for a carry. -/
theorem witness_FaultsRestartOrDisableTheSlot_claim_and_carry :
    (let s := warming (some .dial) false
     s.FaultsAt .a (.warmUpDeadlineExpiry .a) (s.advanceTo 5900) ∧ s.ple.state = .dialling ∧
     s.ple.route = some ⟨.slot .a, some 47125⟩ ∧ (s.slot .a).grant = .nobody ∧ (s.slot .a).waitingLocal = some .dial ∧
     (s.slot .a).waitingCarry = []) ∧
    (let s : State := { slotBox .clearing .nobody with
       slc := { a := { (slotBox .clearing .nobody).slc.a with waitingLocal := some .dial }, b := idleSlot }
       ple := ownCall .dialling }
     s.FaultsAt .a (.clearDeadlineExpiry .a) (s.advanceTo 5900) ∧ (s.slot .a).grant = .nobody ∧
     (s.slot .a).waitingLocal = some .dial ∧ s.ple.state = .dialling) ∧
    ∀ x ∈ granted,
      let s := carryBox x.1 x.2 owned
      s.FaultsAt .a (.heartbeatWatchExpiry .a) (s.advanceTo 5900) ∧ s.CarriesSound ∧ carry x.2 ∈ s.cye ∧
      (carry x.2).slot = .a ∧ (s.slot .a).grant = .carry (carry x.2).id ∧ (s.slot .a).waitingLocal = none ∧
      (s.slot .a).waitingCarry = [] := by
  refine ⟨⟨.inl ⟨5900, rfl, rfl, ⟨rfl, by decide⟩, rfl⟩, rfl, rfl, rfl, rfl, rfl⟩,
    ⟨.inr (.inl ⟨5900, rfl, rfl, ⟨rfl, by decide⟩, rfl⟩), rfl, rfl, rfl⟩, fun x hx => ?_⟩
  simp only [granted, List.mem_cons, List.not_mem_nil, or_false] at hx
  rcases hx with rfl | rfl | rfl <;>
    exact ⟨faultsAt_granted _ ⟨rfl, by decide⟩, carryBox_sound _ _ _ rfl, List.mem_cons_self .., rfl, rfl, rfl, rfl⟩

/-- A fault for a callback in TALKING. -/
theorem witness_FaultsRestartOrDisableTheSlot_callback :
    ∀ n ∈ [0, 4, 5],
      (calledBack n).FaultsAt .a (.heartbeatWatchExpiry .a) ((calledBack n).advanceTo 5900) ∧
      ((calledBack n).slot .a).grant = .localCall ∧ ((calledBack n).slot .a).waitingLocal = none ∧
      ((calledBack n).slot .a).waitingCarry = [] ∧ (calledBack n).ple.state = .talking ∧
      (calledBack n).ple.route = some ⟨.slot .a, none⟩ ∧ (calledBack n).ple.resumptions = n := fun _ _ =>
  ⟨faultsAt_granted _ ⟨rfl, by simp [calledBack, dialled, slotBox, box]⟩, rfl, rfl, rfl, rfl, rfl, rfl⟩

/-- A fault of a running scan, the first one before the first REACH, of one that is not the last awaited, of the last
awaited one, of an emergency scan that waits for its slot, and of a slot at which a periodic claim waits. -/
theorem witness_FaultsRestartOrDisableTheSlot_scans :
    ((scanning .periodic).FaultsAt .a (.heartbeatWatchExpiry .a) ((scanning .periodic).advanceTo 5900) ∧
      ((scanning .periodic).slot .a).waitingCarry = [] ∧ ((scanning .periodic).slot .a).grant = .scan .periodic ∧
      ((scanning .periodic).slot .a).waitingLocal = none ∧ (scanning .periodic).adv.timer = .startWait 45000 ∧
      (scanning .periodic).adv.lastBest = .notYet) ∧
    (let s : State := { scanning .emergency with ple := { (scanning .emergency).ple with awaited := [.a, .b] } }
     s.FaultsAt .a (.rdy .a 999) (s.arrive 999) ∧ (s.slot .a).grant = .scan .emergency ∧ ¬ s.EndsWait .a) ∧
    (let s : State := { scanning .emergency with adv := { resetAdv with timer := .periodic 5900 } }
     s.FaultsAt .a (.heartbeatWatchExpiry .a) (s.advanceTo 5900) ∧ (s.slot .a).grant = .scan .emergency ∧
     s.EndsWait .a ∧ s.adv.timer = .periodic 5900 ∧ (s.slot (otherSlot .a)).waitingLocal = none) ∧
    (let s : State := { warming (some .emergencyScan) false with ple := (scanning .emergency).ple }
     s.FaultsAt .a (.warmUpDeadlineExpiry .a) (s.advanceTo 5900) ∧ (s.slot .a).grant = .nobody ∧
     (s.slot .a).waitingLocal = some .emergencyScan ∧ (s.slot .a).waitingCarry = [] ∧ s.EndsWait .a ∧
     s.adv.timer = .stopped) ∧
    (let s := warming none true
     s.FaultsAt .a (.warmUpDeadlineExpiry .a) (s.advanceTo 5900) ∧ (s.slot .a).waitingScan = true) := by
  have awaits (s : State) (h : s.ple = (scanning .emergency).ple) : s.EndsWait .a := by
    simp [State.EndsWait, h, scanning, ownCall]
  refine ⟨⟨faultsAt_granted _ ⟨rfl, by decide⟩, rfl, rfl, rfl, rfl, rfl⟩, ⟨faultsAt_rdy _ rfl rfl (by decide), rfl, ?_⟩,
    ⟨faultsAt_granted _ ⟨rfl, by decide⟩, rfl, awaits _ rfl, rfl, rfl⟩,
    ⟨.inl ⟨5900, rfl, rfl, ⟨rfl, by decide⟩, rfl⟩, rfl, rfl, rfl, awaits _ rfl, rfl⟩,
    .inl ⟨5900, rfl, rfl, ⟨rfl, by decide⟩, rfl⟩, rfl⟩
  simp only [State.EndsWait]; decide

/-- A fault on a slot at which a carry waits, behind the local call's grant and behind none. -/
theorem witness_FaultsRestartOrDisableTheSlot_waiting_carries :
    (let s := carryBox .clearing .queued owned
     s.FaultsAt .a (.clearDeadlineExpiry .a) (s.advanceTo 5900) ∧ s.CarriesSound ∧ carry .queued ∈ s.cye ∧
     (carry .queued).id ∈ (s.slot .a).waitingCarry) ∧
    full.FaultsAt .a (.clearDeadlineExpiry .a) (full.advanceTo 5900) ∧ full.CarriesSound ∧
    (full.slot .a).grant = .nobody ∧ (full.slot .a).waitingLocal = none ∧
    (full.cye.filter fun k => k.id ∈ (full.slot .a).waitingCarry) = [carry .queued] :=
  ⟨⟨.inr (.inl ⟨5900, rfl, rfl, ⟨rfl, by decide⟩, rfl⟩), carryBox_sound _ _ _ rfl, List.mem_cons_self ..,
    List.mem_cons_self ..⟩, .inr (.inl ⟨5900, rfl, rfl, ⟨rfl, by decide⟩, rfl⟩), full_carries, rfl, rfl, by decide⟩

/-- The local call's dial deadline and slot ring limit, with every route tried and with one untried. -/
theorem witness_DialTimeoutDropsTheCarriedCall_local_call :
    (∀ x ∈ [(SlotState.dialling, CallState.dialling), (.ringing, .ringing)],
      ∀ s ∈ [dialled x.1 x.2, untried (dialled x.1 x.2)],
        s.Due (s.slot .a).deadline 5900 ∧ (s.slot .a).state = x.1 ∧ (s.slot .a).grant = .localCall ∧
        s.ple.state = x.2 ∧ s.ple.route = some ⟨.slot .a, some 47125⟩) ∧
    (dialled .dialling .dialling).AllTried := by
  simp only [State.Due, State.AllTried]; decide

theorem witness_CarryEndsOnItsTimersAndOnCend :
    let s := carryBox .dialling .queued owned
    let t := carryBox .dialling .dialling owned
    s.CarriesSound ∧ t.CarriesSound ∧ carry .queued ∈ s.cye ∧ s.Due (carry .queued).queueTimer 5900 ∧
    s.Due (carry .queued).silence 5900 ∧ t.Due (carry .dialling).silence 5900 ∧ t.Hears (from_ 8 9) ∧
    (from_ 8 9).src = (carry .dialling).id.requester ∧ t.own = some (from_ 8 9).dst := by
  refine ⟨carryBox_sound _ _ _ rfl, carryBox_sound _ _ _ rfl, ?_⟩
  simp only [State.Due, State.Hears]
  decide

/-- The end of a carry that holds its slot, at its requester's silence and at CEND. -/
theorem witness_CarryEndsOnItsTimersAndOnCend_granted :
    (∀ x : SlotState × CarryState, (carryBox x.1 x.2 owned).CarriesSound) ∧
    ∀ x ∈ granted,
      let s := carryBox x.1 x.2 owned
      carry x.2 ∈ s.cye ∧ s.Due (carry x.2).silence 5900 ∧ s.Hears (from_ 8 9) ∧ s.own = some (from_ 8 9).dst ∧
      (carry x.2).state ≠ .queued ∧ (s.slot (carry x.2).slot).state = x.1 := by
  refine ⟨fun x => carryBox_sound _ _ _ rfl, ?_⟩
  simp only [State.Due, State.Hears]; decide

theorem witness_CarryAnswersMoveTheAttempt :
    (asking.Hears (from_ 8 9) ∧ asking.own = some (from_ 8 9).dst ∧ (from_ 8 9).src ≠ 63 ∧ asking.trunk .t1 = .free ∧
      asking.ple.relayCarrier = some 8 ∧ asking.ple.callId = 1 ∧ asking.ple.answerTimer.isSome = true ∧
      asking.AllTried) ∧
    asking.Hears (from_ 7 9) ∧ asking.ple.relayCarrier ≠ some (from_ 7 9).src ∧ asking.own ≠ some (from_ 8 0).dst ∧
    (relaying .relaying).ple.answerTimer = none := by
  simp only [State.Hears, State.AllTried]; decide

theorem witness_CarryAnswersMoveTheAttempt_untried :
    (untried asking).Hears (from_ 8 9) ∧ (untried asking).own = some (from_ 8 9).dst ∧
    (untried asking).ple.route = some ⟨.box 8, some 47125⟩ ∧ (untried asking).ple.answerTimer.isSome = true ∧
    ¬ (untried asking).AllTried := by
  simp only [State.Hears, State.AllTried]; decide

/-- The attempt of box 9 through box 8, before the CACK or after it, in a box that carries box 8's call on trunk 2. -/
def asksWhileCarrying (answered : Bool) (e : TrunkEntry) : State :=
  { carryBox .dialling .dialling e with ple := if answered then (relaying .relaying).ple else asking.ple }

/-- A CACK of box 8 and of box 30 on trunk 2, which this box claims or has settled for a carry, before the attempt has a
trunk and with it on trunk 2. -/
theorem witness_CarryAnswersMoveTheAttempt_own_trunk :
    (∀ e ∈ [claiming, owned], ∀ answered,
      (asksWhileCarrying answered e).Hears (from_ 8 9) ∧ (asksWhileCarrying answered e).Hears (from_ 30 9) ∧
      (asksWhileCarrying answered e).own = some (from_ 8 9).dst ∧
      (∀ id, ((asksWhileCarrying answered e).trunk .t2).owner = some id →
        ∃ c ∈ (asksWhileCarrying answered e).cye, c.id = id) ∧
      (asksWhileCarrying answered e).ple.relayCarrier = some 8 ∧ (asksWhileCarrying answered e).ple.callId = 1 ∧
      (asksWhileCarrying answered e).ple.answerTimer.isSome = !answered ∧
      (answered = true → (asksWhileCarrying answered e).ple.trunk = some .t2)) ∧
    (from_ 8 9).src < (from_ 8 9).dst ∧ ¬ (from_ 30 9).src < (from_ 30 9).dst := by
  refine ⟨?_, by decide, by decide⟩
  intro e he answered
  simp only [List.mem_cons, List.not_mem_nil, or_false] at he
  rcases he with rfl | rfl <;> cases answered <;> (refine ⟨?_, ?_, rfl, ?_, rfl, rfl, rfl, ?_⟩) <;>
    first
    | (simp only [State.Hears]; decide)
    | (intro id h; exact ⟨carry .dialling, List.mem_cons_self .., Option.some.inj h⟩)
    | decide

theorem witness_CarryProgressMovesTheAttempt :
    (∀ st ∈ [CallState.relaying, .ringing, .talking],
      (relaying st).Hears (from_ 8 9) ∧ (relaying st).own = some (from_ 8 9).dst ∧
      (relaying st).ple.route = some ⟨.box 8, some 47125⟩ ∧ (relaying st).ple.callId = 1 ∧
      (relaying st).ple.state = st ∧ (relaying st).ple.trunk.isSome = true ∧ (relaying st).AllTried) ∧
    asking.ple.trunk = none := by
  simp only [State.Hears, State.AllTried]; decide

theorem witness_CarryProgressMovesTheAttempt_loss :
    ∀ n ∈ [0, 4], (resumed n).Hears (from_ 8 9) ∧ (resumed n).own = some (from_ 8 9).dst ∧
      (resumed n).ple.route = some ⟨.box 8, some 47125⟩ ∧ (resumed n).ple.state = .talking ∧
      (resumed n).ple.trunk.isSome = true ∧ (resumed n).ple.resumptions < 5 ∧ CprgReason.lost ≠ .farCleared := by
  simp only [State.Hears]; decide

/-- A CPRG for another box, of another source, of another call id, and with no relay attempt on a trunk in hand. -/
theorem witness_CarryProgressMovesTheAttempt_ignored :
    (relaying .ringing).Hears (from_ 8 0) ∧ (relaying .ringing).own ≠ some (from_ 8 0).dst ∧
    (relaying .ringing).Hears (from_ 7 9) ∧ (relaying .ringing).ple.relayCarrier ≠ some (from_ 7 9).src ∧
    (relaying .ringing).ple.callId ≠ 2 ∧ asking.Hears (from_ 8 9) ∧ asking.ple.trunk = none ∧
    full.Hears (from_ 8 9) ∧ full.ple.trunk = none := by
  simp only [State.Hears]; decide

/-- RINGING and TALKING told again. -/
theorem witness_CarryProgressMovesTheAttempt_repeated :
    ∀ x ∈ [(CallState.ringing, CprgStage.ringing), (.talking, .ringing), (.talking, .talking)],
      let s := relaying x.1
      s.Hears (from_ 8 9) ∧ s.own = some (from_ 8 9).dst ∧ s.ple.relayCarrier = some (from_ 8 9).src ∧
      s.ple.callId = 1 ∧ s.ple.trunk.isSome = true ∧
      (x.2 = .ringing ∧ (s.ple.state = .ringing ∨ s.ple.state = .talking) ∨ x.2 = .talking ∧ s.ple.state = .talking) := by
  simp only [State.Hears]; decide

/-- FAILED with a route untried, and the sixth loss. -/
theorem witness_CarryProgressMovesTheAttempt_untried_and_sixth :
    (∀ st ∈ [CallState.relaying, .ringing],
      (untried (relaying st)).Hears (from_ 8 9) ∧ (untried (relaying st)).ple.state = st ∧
      (untried (relaying st)).ple.trunk.isSome = true ∧ ¬ (untried (relaying st)).AllTried) ∧
    (resumed 5).Hears (from_ 8 9) ∧ (resumed 5).own = some (from_ 8 9).dst ∧
    (resumed 5).ple.route = some ⟨.box 8, some 47125⟩ ∧ (resumed 5).ple.state = .talking ∧
    (resumed 5).ple.trunk.isSome = true ∧ (resumed 5).ple.resumptions = 5 := by
  simp only [State.Hears, State.AllTried]; decide

theorem witness_TrunkMoveMovesTheAttempt :
    let s := relaying .talking
    s.Hears (from_ 8 9) ∧ s.own = some (from_ 8 9).dst ∧ s.trunk .t1 = .free ∧ s.trunk .t2 = .free ∧
    s.ple.relayCarrier = some 8 ∧ s.ple.callId = 1 ∧ s.ple.trunk = some .t2 := by
  simp only [State.Hears]; decide

/-- A TMOV on a trunk of this box, the attempt's own and another, and one of a box that is not the carrier. -/
theorem witness_TrunkMoveMovesTheAttempt_own_trunk :
    ∀ e ∈ [claiming, owned],
      let s := asksWhileCarrying true e
      s.Hears (from_ 8 9) ∧ s.Hears (from_ 30 9) ∧ s.own = some (from_ 8 9).dst ∧
      (∀ id, (s.trunk .t2).owner = some id → ∃ c ∈ s.cye, c.id = id) ∧ s.ple.relayCarrier = some 8 ∧
      s.ple.relayCarrier ≠ some (from_ 30 9).src ∧ s.ple.trunk = some .t2 ∧ s.trunk .t1 = .free := by
  intro e he
  simp only [List.mem_cons, List.not_mem_nil, or_false] at he
  rcases he with rfl | rfl <;> (refine ⟨?_, ?_, rfl, ?_, rfl, by decide, rfl, rfl⟩) <;>
    first
    | (simp only [State.Hears]; decide)
    | (intro id h; exact ⟨carry .dialling, List.mem_cons_self .., Option.some.inj h⟩)

theorem witness_HeardTrunkFramesHoldAndFree :
    (carrier true).Hears (from_ 8 0) ∧ (carrier true).own ≠ some (from_ 8 0).dst ∧
    (carrier true).trunk .t1 = .held 8 5900 ∧ (carrier true).trunk .t4 = .free ∧
    (carrier true).own ≠ some 62 ∧ (carrier true).ple.trunk = none ∧ (carrier true).own = some 9 ∧
    (carrier true).Hears (from_ 63 0) ∧ (relaying .talking).Hears (from_ 7 0) ∧
    (relaying .talking).ple.relayCarrier = some 8 ∧ (relaying .talking).ple.trunk = some .t2 ∧
    (relaying .talking).ple.carrierSilence.isSome = true ∧ (relaying .talking).trunk .t2 = .free := by
  simp only [State.Hears]; decide

/-- The frames that the trunk map ignores: source 63, trunk fields and THLD addresses just outside their ranges. -/
theorem witness_HeardTrunkFramesHoldAndFree_ignored :
    (carrier true).Hears (from_ 63 0) ∧ (from_ 63 0).src = 63 ∧ (carrier true).Hears (from_ 8 0) ∧
    (carrier true).own ≠ some (from_ 8 0).dst ∧ (carrier true).ple.trunk = none ∧
    (∀ field ∈ [0, 5], field = 0 ∨ 4 < field) ∧ (∀ addr ∈ [0, 63], addr = 0 ∨ 62 < addr) := by
  simp only [State.Hears]; decide

theorem witness_TrunkConflictsAreSettledByTheRules :
    (let s := carryBox .dialling .queued claiming
     s.CarriesSound ∧ s.Hears (from_ 62 0) ∧ s.own = some 9 ∧ 9 ≠ (from_ 62 0).dst ∧ 9 < (from_ 62 0).src ∧
     s.Hears (from_ 1 0) ∧ (from_ 1 0).src < 9 ∧ s.trunk .t2 = .claiming ⟨8, 1⟩ 5800 [12] 5900 ∧ 12 ∈ [12] ∧
     carry .queued ∈ s.cye ∧ s.tkm.lowestFree = some .t1 ∧ s.ple.trunk = none) ∧
    (let s := carryBox .dialling .dialling owned
     s.trunk .t2 = .owned ⟨8, 1⟩ 5900 ∧ s.Hears (from_ 62 0) ∧ 9 < 62) ∧
    (let s : State := { carryBox .dialling .dialling owned with
       tkm := { t1 := .held 1 5900, t2 := owned, t3 := .held 1 5900, t4 := .held 1 5900 } }
     carry .dialling ∈ s.cye ∧ (carry .dialling).trunk = .t2 ∧ s.trunk .t2 = .owned ⟨8, 1⟩ 5900 ∧
     s.Hears (from_ 1 0) ∧ s.tkm.lowestFree = none ∧ s.ple.trunk = none) := by
  refine ⟨⟨carryBox_sound _ _ _ rfl, ?_⟩, ?_, ?_⟩ <;> (simp only [State.Hears]; decide)

/-- A THLD of a holder not in a claim's beaten list, below and above this box, and of a lower holder on a settled trunk,
with a trunk to move to. -/
theorem witness_TrunkConflictsAreSettledByTheRules_thld :
    (∀ x : CarryState × SlotState, (carryBox x.2 x.1 claiming).CarriesSound ∧ (carryBox x.2 x.1 owned).CarriesSound) ∧
    ∀ c ∈ [CarryState.queued, .dialling],
      let s := carryBox .dialling c claiming
      let t := carryBox .dialling c owned
      s.Hears (from_ 8 0) ∧ s.own = some 9 ∧ carry c ∈ s.cye ∧ s.trunk .t2 = .claiming (carry c).id 5800 [12] 5900 ∧
      (∀ holder ∈ [1, 8, 10, 62], holder ∉ [12]) ∧ t.trunk .t2 = .owned (carry c).id 5900 ∧ 8 < 9 ∧
      s.tkm.lowestFree = some .t1 ∧ t.tkm.lowestFree = some .t1 ∧ s.ple.trunk = none := by
  refine ⟨fun x => ⟨carryBox_sound _ _ _ rfl, carryBox_sound _ _ _ rfl⟩, ?_⟩
  simp only [State.Hears]; decide

/-- The carries of the last clause of the trunk conflicts are sound too. -/
theorem witness_TrunkConflictsWithNoneFree (st : SlotState) (c : CarryState) :
    ({ carryBox st c owned with
       tkm := { t1 := .held 1 5900, t2 := owned, t3 := .held 1 5900, t4 := .held 1 5900 } } : State).CarriesSound := by
  obtain ⟨h1, ⟨_, _⟩, h3⟩ := carryBox_sound st c owned rfl
  refine ⟨h1, ⟨by simp [carryBox, carry, Tkm.get, owned, TrunkEntry.owner], ?_⟩, h3⟩
  intro t id h
  cases t <;> simp [Tkm.get, owned, TrunkEntry.owner] at h
  exact ⟨carry c, by simp [carryBox], by simpa [carry] using h, rfl⟩

/-- A claim lost with every entry taken, to a CACK for this box and to one for another. -/
theorem witness_TrunkConflictsWithNoneFree_claim :
    let s : State := { carryBox .dialling .dialling claiming with
      tkm := { t1 := .held 1 5900, t2 := claiming, t3 := .held 1 5900, t4 := .held 1 5900 } }
    s.CarriesSound ∧ s.Hears (from_ 1 9) ∧ s.Hears (from_ 1 0) ∧ s.own = some 9 ∧ carry .dialling ∈ s.cye ∧
    s.trunk .t2 = .claiming (carry .dialling).id 5800 [12] 5900 ∧ 1 < 9 ∧ s.tkm.lowestFree = none := by
  obtain ⟨h1, ⟨_, _⟩, h3⟩ := carryBox_sound .dialling .dialling claiming rfl
  refine ⟨⟨h1, ⟨by simp [carryBox, carry, Tkm.get, claiming, TrunkEntry.owner], ?_⟩, h3⟩, ?_⟩
  · intro t id h
    cases t <;> simp [Tkm.get, claiming, TrunkEntry.owner] at h
    exact ⟨carry .dialling, by simp [carryBox], by simpa [carry] using h, rfl⟩
  · simp only [State.Hears]; decide

/-- An OWNED trunk lost with every entry taken, by a carry that dials, rings and talks. -/
theorem witness_TrunkConflictsWithNoneFree_granted :
    ∀ x ∈ granted,
      let s : State := { carryBox x.1 x.2 owned with
        tkm := { t1 := .held 1 5900, t2 := owned, t3 := .held 1 5900, t4 := .held 1 5900 } }
      s.Hears (from_ 1 0) ∧ s.own = some 9 ∧ carry x.2 ∈ s.cye ∧ s.trunk .t2 = .owned (carry x.2).id 5900 ∧ 1 < 9 ∧
      s.tkm.lowestFree = none ∧ s.ple.trunk = none ∧ (s.slot (carry x.2).slot).state = x.1 := by
  simp only [State.Hears]; decide

theorem witness_TrunkTimersSettleRefreshAndFree :
    ((carryBox .dialling .queued (.claiming ⟨8, 1⟩ 5900 [] 5900)).trunk .t2 = .claiming ⟨8, 1⟩ 5900 [] 5900 ∧
      5900 < (carryBox .dialling .queued owned).clock.second + 1000) ∧
    ((carryBox .dialling .queued claiming).TrunksAgree ∧ (carryBox .dialling .queued claiming).QueueSound ∧
      ((carryBox .dialling .queued claiming).trunk .t2).owner = some ⟨8, 1⟩ ∧
      (carryBox .dialling .queued claiming).Due ((carryBox .dialling .queued claiming).trunk .t2).refresh 5900) ∧
    (carrier true).trunk .t1 = .held 8 5900 := by
  refine ⟨by decide, ⟨(carryBox_sound _ _ _ rfl).2.1, (carryBox_sound _ _ _ rfl).1, ?_⟩, by decide⟩
  simp only [State.Due]
  decide

theorem witness_ReachMakesAndUpdatesItsNeighbour :
    let r : ReachAdvert := { seq := 0, capacity := 3, supply := .low, localCall := true, items := [⟨999999, none, 31, 15⟩] }
    r.Fits ∧ full.Hears (from_ 8 0) ∧ full.Hears (from_ 1 9) ∧ full.own = some (from_ 1 9).dst ∧ full.Hears (from_ 63 0) ∧
    filterAction full.cfg.record.filters 8 ≠ some .ignore ∧ (∀ n ∈ full.nbt, n.addr ≠ 8) ∧ full.nbt.length < 16 ∧
    (∃ n ∈ full.nbt, n.addr = 1) ∧ filterAction filters 17 = some .ignore := by
  simp only [ReachAdvert.Fits, State.Hears]; decide

/-- Payloads of a bad shape, and one whose values are all out of range with those of its items at each side of their
bounds: it is made good and enters the table. -/
theorem witness_ReachMakesAndUpdatesItsNeighbour_payloads :
    (∀ payload ∈ [[0, 0, 0], [0, 0, 0, 5], [0, 0, 0, 1], [0, 0, 0, 0, 0]],
      let p : List Byte := payload.map byteOf
      p.length < 4 ∨ ∃ n ∈ p[3]?, 4 < n.toNat ∨ p.length ≠ 4 + 6 * n.toNat) ∧
    (let items : List RawItem := [⟨9999, 2, 31, 15⟩, ⟨10000, 6, 32, 16⟩, ⟨999999, 5, 31, 15⟩, ⟨1000000, 2, 31, 15⟩]
     full.Hears (from_ 8 0) ∧ items.length ≤ 4 ∧ (∀ i ∈ items, i.code < 16777216) ∧
     ((after (.reach (from_ 8 0) (7 :: 4 :: 3 :: byteOf items.length :: items.flatMap RawItem.bytes) 600) full).nbt.getLast?
       |>.map fun n => (n.addr, n.seq, n.capacity, n.supply, n.items)) =
       some (8, 7, 3, .critical, [⟨10000, none, 31, 15⟩, ⟨999999, some .g5, 31, 15⟩])) := by
  simp only [State.Hears]; decide

/-- A full neighbour table with every entry USABLE, with one STALE entry, and with NEW entries and none STALE. -/
theorem witness_ReachMakesAndUpdatesItsNeighbour_full :
    let usable := (List.range 16).map fun k => neighbour (k + 1) .usable []
    (16 ≤ usable.length ∧ (∀ n ∈ usable, n.state = .usable) ∧ ∀ n ∈ usable, n.addr ≠ 62) ∧
    ∀ st ∈ [NeighbourState.stale, .fresh],
      let d := neighbour 1 st []
      let nbt := d :: { neighbour 2 st [] with age := 19 } :: usable.drop 2
      16 ≤ nbt.length ∧ d ∈ nbt ∧ (st = .fresh → ∀ n ∈ nbt, n.state ≠ .stale) ∧
      (∀ n ∈ nbt, n.state = d.state → n.addr ≠ d.addr → n.age < d.age ∨ n.age = d.age ∧ d.addr < n.addr) ∧
      ∀ n ∈ nbt, n.addr ≠ 62 := by decide

theorem witness_AdvertTimersBuildAReach :
    (full.adv.timer = .periodic 5900 ∧ 5900 < full.clock.second + 1000) ∧
    ({ box with adv := { resetAdv with timer := .startWait 5900 } } : State).adv.timer = .startWait 5900 ∧
    (let s : State := { box with adv := { resetAdv with early := true, lastBuild := some 900, lastBest := .item 47110 20 } }
     s.adv.early = true ∧ s.adv.lastBuild = some 900 ∧ 900 + 5000 < s.clock.second + 1000 ∧ s.own ≠ none ∧
     advertItems s = []) := by decide

/-- Five networks, one of them on both slots at equal level and score. -/
def fiveNetworks : State :=
  { box with
    nwt := { a := [entry 10000 .g4 (some 20) 0, entry 10001 .g4 (some 9) 0, entry 10002 .g4 (some 9) 0]
             b := [entry 10000 .g4 (some 20) 0, entry 10003 .g4 (some 31) 0, entry 10004 .g4 none 0] } }

/-- Slot A's entry is kept for the network of both, and slot B's is not; of five networks four are items. -/
theorem witness_AdvertTimersBuildAReach_items :
    fiveNetworks.NetworksSound ∧ (∃ e ∈ fiveNetworks.table .a, e.code = 10000 ∧ fiveNetworks.Keeps .a e) ∧
    (∃ e ∈ fiveNetworks.table .b, e.code = 10000 ∧ ¬ fiveNetworks.Keeps .b e) ∧
    (advertItems fiveNetworks).map ReachItem.code = [10003, 10000, 10001, 10002] := by
  have eligible (sl : Slot) : fiveNetworks.Eligible sl (entry 10000 .g4 (some 20) 0) := by
    cases sl <;> exact ⟨⟨List.mem_cons_self .., rfl, by simp [entry]⟩, by decide, by decide⟩
  refine ⟨?_, ⟨_, List.mem_cons_self .., rfl, eligible .a, ?_⟩, ⟨_, List.mem_cons_self .., rfl, ?_⟩, by decide⟩
  · simp only [State.NetworksSound, tableSound, NetEntry.Sound, Quality.Sound]; decide
  · intro d hd _ hc
    change d ∈ [entry 10000 .g4 (some 20) 0, entry 10003 .g4 (some 31) 0, entry 10004 .g4 none 0] at hd
    simp only [List.mem_cons, List.not_mem_nil, or_false] at hd
    rcases hd with rfl | rfl | rfl
    · exact .inr ⟨rfl, .inr ⟨rfl, rfl⟩⟩
    · cases hc
    · cases hc
  · intro h
    have h := h.2 _ (List.mem_cons_self ..) (eligible .a) rfl
    revert h
    decide

/-- Each case of the capacity: not carrying, CRITICAL, both slots out, LOW and OK, with no carry and with three. -/
theorem witness_AdvertTimersBuildAReach_capacity :
    (∀ n ∈ [0, 1, 2, 3], ∀ st ∈ [Supply.ok, .low, .critical],
      let s : State := { sampling st with cye := List.replicate n (carry .queued) }
      s.cye.length ≤ 3 ∧ s.cfg.record.carrying = true ∧ isOut (s.slot .a).state = false ∧
      s.capacity = (match st with
        | .ok => 3 - n
        | .low => min 1 (3 - n)
        | .critical => 0)) ∧
    (let s : State := { box with cfg := { box.cfg with record := { box.cfg.record with carrying := false } } }
     s.cfg.record.carrying = false ∧ s.capacity = 0) ∧
    (let s : State := { box with slc := { a := resetSlot .absent [], b := resetSlot .disabled [] } }
     (∀ sl, (s.slot sl).state = .absent ∨ (s.slot sl).state = .disabled) ∧ s.capacity = 0) := by
  refine ⟨by decide, by decide, fun sl => ?_, by decide⟩
  cases sl <;> decide

/-- The box that last advertised `last` at level 20, 1 s or 5 s and more ago, with its best network now at level 20. -/
def advertised (last built : Nat) : State :=
  { full with adv := { full.adv with lastBuild := some built, lastBest := .item last 20, early := true }
              nwt := { a := [entry 47110 .g4 (some 20) 0], b := [] }, nbt := [] }

/-- A spacing end with none due; a BEAT that moves the level by 5 and by 6, and a best of another code at a second's end,
within the spacing and past it. -/
theorem witness_AdvertTimersBuildAReach_early :
    (let s := advertised 47110 900
     s.adv.early = true ∧ s.adv.lastBuild = some 900 ∧ 900 + 5000 < s.clock.second + 1000 ∧
     ¬ s.EarlyAdvertDue (advertItems s)) ∧
    (∀ x ∈ [(25, false), (26, true)],
      (advertised 47110 5000).phase = .running ∧ (advertised 47110 5000).own ≠ none ∧
      isPastWarmUp ((advertised 47110 5000).slot .a).state = true ∧
      (∃ i is, advertItems (after (.beat .a (some 47110) (some x.1) 900) (advertised 47110 5000)) = i :: is ∧
        i.code = 47110 ∧ decide (20 + 6 ≤ i.level) = x.2)) ∧
    ∀ built ∈ [1000, 1001],
      (∃ i is, advertItems (after .uptimeTick (advertised 47125 built)) = i :: is ∧ i.code ≠ 47125) ∧
      (advertised 47125 built).clock.second + 1000 = 6000 ∧ (built + 5000 ≤ 6000 ↔ built = 1000) := by
  refine ⟨⟨rfl, rfl, by decide, fun h => ?_⟩, ?_, ?_⟩
  · change 47110 ≠ 47110 ∨ 20 + 6 ≤ 20 ∨ 20 + 6 ≤ 20 at h
    omega
  · intro x hx
    simp only [List.mem_cons, List.not_mem_nil, or_false] at hx
    rcases hx with rfl | rfl <;> exact ⟨rfl, by decide, by decide, _, _, rfl, by decide, by decide⟩
  · intro built hb
    simp only [List.mem_cons, List.not_mem_nil, or_false] at hb
    rcases hb with rfl | rfl <;> exact ⟨⟨_, _, rfl, by decide⟩, by decide, by decide⟩

/-- The line SENDING a frame after so many collisions. -/
def sending (n : Nat) (drop : Bool) : State :=
  { box with lnc := { resetLnc [] with tx := .sending, inHand := some queueB, collisions := n, dropAfter := drop } }

/-- GAP at millisecond `now`, the line last active at 5490, with another box's bytes heard or still to come. -/
def inGap (now : Nat) (heard : List Nat) : State :=
  { box with clock := { now := now, second := 5000 }
             lnc := { resetLnc [] with tx := .gap, inHand := some queueB, lastActive := 5490, heard := heard } }

/-- The line IDLE, last active at `last`, at millisecond 5500. -/
def quietLine (last : Nat) : State := { box with lnc := { resetLnc [] with lastActive := last } }

theorem witness_TransmitterSendsAndBacksOff_gap :
    (inGap 5500 [5500, 5502, 5505]).IsLastByte 5500 5500 ∧ (inGap 5500 [5500, 5502, 5505]).QuietFollows 5502 ∧
    (∀ y, (inGap 5500 [5500, 5502, 5505]).QuietFollows y → 5502 ≤ y) ∧
    (∀ b, (inGap 5998 [5998]).QuietFollows b → (inGap 5998 [5998]).clock.second + 1000 ≤ b + 2) ∧
    (quietLine 5500).lnc.tx ≠ .gap := by
  refine ⟨by simp only [State.IsLastByte]; decide, by simp only [State.QuietFollows]; decide, ?_, ?_, by decide⟩
  · rintro y ⟨-, -, h, h'⟩
    have h1 := h 5500 (by decide) (by decide)
    have h2 := h' 5502 (by decide)
    omega
  · rintro b ⟨-, -, h, -⟩
    have h1 := h 5998 (by decide) (by decide)
    simp [inGap]
    omega

theorem witness_TransmitterSendsAndBacksOff_quiet :
    (∀ last ∈ [5498, 5499], (quietLine last).own ≠ none ∧ (quietLine last).lnc.tx = .idle ∧
      (quietLine last).lnc.queue = [] ∧ (⟨0, .tfre 1⟩ : TxFrame).frameClass ≠ .unsent) ∧
    (quietLine 5498).lineIdle = 2 ∧ (quietLine 5499).lineIdle = 1 ∧ full.IsLastByte 5900 full.lnc.lastActive := by
  simp only [State.IsLastByte]; decide

/-- R149, R153: a byte of another box puts the end of GAP off; a frame handed to a line that has been quiet for 2 ms is
sent at once, and to one that has not, waits in GAP. -/
theorem test_bytes_of_others_hold_the_line :
    (after .gapEnd (inGap 5500 [5500, 5502, 5505])).clock.now = 5504 ∧
    (after .gapEnd (inGap 5500 [5500, 5502, 5504])).clock.now = 5506 ∧
    after .gapEnd (inGap 5998 [5998]) = inGap 5998 [5998] ∧
    ((quietLine 5498).hand 0 (.tfre 1)).lnc.tx = .sending ∧ ((quietLine 5499).hand 0 (.tfre 1)).lnc.tx = .gap := by decide

theorem witness_TransmitterSendsAndBacksOff :
    (∀ n ∈ [0, 6, 7], (sending n false).phase = .running ∧ (sending n false).lnc.tx = .sending ∧
      (sending n false).lnc.inHand = some queueB ∧ (sending n false).lnc.dropAfter = false) ∧
    (sending 0 true).lnc.dropAfter = true ∧ full.Due full.lnc.backoff 5900 := by
  simp only [State.Due]; decide

theorem witness_DroppedFramesCountOrFlag :
    full.phase = .running ∧ (List.replicate 6 (byteOf 0)).length < 7 ∧
    (let bytes := [byteOf 1, 0, 8, 16, 41, 0, 0]
     ∃ n ∈ bytes[4]?, 40 < n.toNat ∨ bytes.length ≠ 7 + n.toNat) ∧
    (Header.wf ⟨2, 0, 8⟩ = true ∧ 2 ≠ full.cfg.record.segment) ∧
    (Header.wf (from_ 9 0) = true ∧ full.own = some (from_ 9 0).src) ∧
    (Header.wf (from_ 8 0) = true ∧ full.own ≠ some (from_ 8 0).src ∧ parseBody (0 % 256) [] = none) := by decide

/-- A frame of fitting length whose check bytes are wrong. -/
theorem witness_DroppedFramesCountOrFlag_check :
    let good := frameBytes (from_ 8 0) 41 []
    let bad := (checkBytes good).map (· + 1)
    ([] : List Byte).length ≤ 40 ∧ bad.length = 2 ∧ bad ≠ checkBytes good ∧
    (after (.receivedFrameDropped (good ++ bad) 600) box).lnc.errors = 1 := by decide +kernel

theorem witness_ToolQueriesAreAnsweredFromTheState :
    full.Hears (from_ 63 9) ∧ full.Hears (from_ 63 0) ∧ full.own ≠ none ∧ full.own = some (from_ 63 9).dst ∧
    full.svc.log[0]? ≠ none ∧ full.svc.log.length ≤ 31 ∧ 31 < 32 ∧ full.Hears (from_ 8 9) ∧ (from_ 8 9).src ≠ 63 := by
  simp only [State.Hears]; decide

theorem witness_EngineResetIsRefusedOrPerformed :
    full.Hears (from_ 63 9) ∧ full.ple.state ≠ .idle ∧ full.cye ≠ [] ∧ box.Hears (from_ 63 0) ∧ box.own ≠ none ∧
    box.ple.state = .idle ∧ box.cye = [] ∧ (box.slot .a).state ≠ .absent ∧
    ({ box with slc := { a := resetSlot .absent [], b := idleSlot } } : State).slc.a.state = .absent ∧
    box.lnc.tx ≠ .sending ∧ (sending 0 false).lnc.tx = .sending ∧ (sending 0 false).Hears (from_ 63 0) := by
  simp only [State.Hears]; decide

end Sys2Proof.Tests
end

section
/-! The route score (R36): its two steps and its range. -/

namespace Sys2Proof.Machine

/-- R36 step 2: the score is the raw value clamped at 0 from below. -/
theorem routeScore_eq_max_rawScore (l t q age p s : Nat) :
    (routeScore l t q age p s : Int) = max 0 (rawScore l t q age p s) := by
  rw [routeScore, Int.ofNat_toNat, max_comm]

/-- What Q, the age, P and S stand for only lowers the raw value. -/
theorem rawScore_le_level_add_bonus (l t q age p s : Nat) : rawScore l t q age p s ≤ 4 * l + t := by
  rw [rawScore]
  omega

/-- A score is at most what level and radio type give, the clamp at 0 included. -/
theorem routeScore_le_level_add_bonus (l t q age p s : Nat) : routeScore l t q age p s ≤ 4 * l + t :=
  Int.toNat_le.mpr (mod_cast rawScore_le_level_add_bonus l t q age p s)

/-- Settles O15: step 2's equation over step 1's definition; the greatest level and bonus give 4 · 31 + 6 = 130. -/
theorem routeScoreIsTheRuleOfItsInputs : Obligations.RouteScoreIsTheRuleOfItsInputs := by
  intro l t q age p s
  constructor
  · rw [routeScore_eq_max_rawScore, rawScore, agePenalty]
  · intro hl ht
    calc routeScore l t q age p s
      _ ≤ 4 * l + t := routeScore_le_level_add_bonus l t q age p s
      _ ≤ 130 := by omega

end Sys2Proof.Machine
end

section
/-! BEAT and the discarded signal (R53, R65, R85): the heartbeat watch and the camped entry. -/

namespace Sys2Proof.Machine

/-- R65, R85: past the warm-up a BEAT restarts the heartbeat watch and is passed to the network table. -/
theorem exec_beat_pastWarmUp {s : State} {sl : Slot} (camped level : Option Nat) (ms : Nat) (h : s.phase = .running)
    (hs : isPastWarmUp (s.slot sl).state = true) :
    exec (.beat sl camped level ms) s = .next (((s.arrive ms).hearModule sl).takeBeat sl camped level) :=
  congrArg Host.Outcome.next (hear_pastWarmUp ms _ h hs)

/-- R65: a readable message changes the heartbeat watch, and the idle timer follows (R71); the rest of the record
stands. -/
theorem hearModule_slot_eq_with_idleTimer (s : State) (sl : Slot) :
    (s.hearModule sl).slot sl = { s.slot sl with
      heartbeat := some (s.clock.now + 15000), idleTimer := ((s.hearModule sl).slot sl).idleTimer } := by
  rw [hearModule_slot]
  exact settleIdle_eq _ _

@[simp] theorem hearModule_table (s : State) (sl k : Slot) : (s.hearModule sl).table k = s.table k :=
  table_of_nwt (by simp) _

@[simp] theorem takeBeat_slot (s : State) (sl : Slot) (camped level : Option Nat) (k : Slot) :
    (s.takeBeat sl camped level).slot k = s.slot k := slot_of_slc (by simp) _

/-- R53: the entry of the camped code takes the BEAT's level, at most 31, and the age 0; every other entry stands. -/
theorem takeBeat_table (s : State) (sl : Slot) (code : Nat) (level : Option Nat) :
    (s.takeBeat sl (some code) level).table sl = (s.table sl).map fun e =>
      if e.code = code then { e with level := level.map (min · 31), age := 0 } else e :=
  tableEvent_table s sl _

theorem takeBeat_otherTable (s : State) (sl : Slot) (camped level : Option Nat) :
    (s.takeBeat sl camped level).table (otherSlot sl) = s.table (otherSlot sl) := by
  cases camped with
  | none => rfl
  | some code => exact tableEvent_other s sl _

/-- Settles O41: a BEAT's effect is the restarted watch followed by the table's event, which leaves the slots alone. -/
theorem beatRefreshesTheCampedEntry : Obligations.BeatRefreshesTheCampedEntry := by
  refine ⟨fun s sl code ms level hp hw => ⟨_, exec_beat_pastWarmUp _ _ _ hp hw, ?_⟩, ?_, ?_⟩
  · refine ⟨?slot, ?otherSlot, ?table, ?otherTable, by simp, by simp, by simp, by simp, by simp⟩
    case slot =>
      rw [takeBeat_slot, ← arrive_slot s ms]
      exact hearModule_slot_eq_with_idleTimer _ _
    case otherSlot => rw [takeBeat_slot, hearModule_other, arrive_slot]
    case table => rw [takeBeat_table, hearModule_table, arrive_table]
    case otherTable => rw [takeBeat_otherTable, hearModule_table, arrive_table]
  · intro s sl level ms hp hw
    exact exec_beat_pastWarmUp none level ms hp hw
  · intro s sl ms hp
    exact congrArg Host.Outcome.next (whenRunning_running _ hp)

end Sys2Proof.Machine
end

section
/-! The trunk map's frames and timers (R115 to R121): what CACK, TMOV, THLD and TFRE of other boxes make of an entry this
box does not hold, which of them the map ignores, and the ends of the map's timers. -/

namespace Sys2Proof.Machine

/-! ### Reading the map past the time base and the line -/

@[simp] theorem frameHeard_own (s : State) (ms : Nat) : (s.frameHeard ms).own = s.own := own_of_cfg (by simp)

@[simp] theorem frameHeard_trunk (s : State) (ms : Nat) (t : Trunk) : (s.frameHeard ms).trunk t = s.trunk t :=
  trunk_of_tkm (by simp) t

@[simp] theorem advanceTo_trunk (s : State) (at_ : Nat) (t : Trunk) : (s.advanceTo at_).trunk t = s.trunk t :=
  trunk_of_tkm (by simp) t

@[simp] theorem advanceTo_ownNum (s : State) (at_ : Nat) : (s.advanceTo at_).ownNum = s.ownNum :=
  ownNum_of_cfg (by simp)

/-- R112: the entries that belong to no carry of this box. -/
theorem TrunkEntry.owner_eq_none_iff (e : TrunkEntry) : e.owner = none ↔ e = .free ∨ ∃ b x, e = .held b x := by
  cases e <;> simp [TrunkEntry.owner]

/-- R118: a field outside 1..4 names no trunk. -/
theorem trunkOf_eq_none {field : Nat} (h : field = 0 ∨ 4 < field) : trunkOf field = none := by
  rcases h with rfl | h
  · rfl
  · obtain ⟨k, rfl⟩ := Nat.exists_eq_add_of_le' (Nat.succ_le_of_lt h)
    rfl

/-! ### The ends of the map's timers (R115, R116, R120) -/

/-- R115: the guard's end settles the claim; the refresh timer runs on. -/
theorem exec_guardTimerExpiry_claiming {s : State} {t : Trunk} {id : CarryId} {at_ x : Nat} {b : List Nat}
    (he : s.trunk t = .claiming id at_ b x) (hat : at_ < s.clock.second + 1000) :
    exec (.guardTimerExpiry t) s = .next ((s.advanceTo at_).setTrunk t (.owned id x)) := by
  have due : s.Due (s.trunk t).guardTimer at_ := ⟨by rw [he, TrunkEntry.guardTimer], hat⟩
  refine congrArg Host.Outcome.next ((expire_due _ due).trans ?_)
  simp only [advanceTo_trunk, he]

/-- R116: a carry's refresh timer is that of the trunk it owns. -/
theorem refreshTimer_owner {s : State} {t : Trunk} {id : CarryId} (hs : s.TrunksAgree) (hq : s.QueueSound)
    (ho : (s.trunk t).owner = some id) : s.refreshTimer id = (s.trunk t).refresh := by
  rw [State.refreshTimer, trunkOfCarry_owner s hs hq t id ho, Option.bind_some]

/-- R116: the refresh sends the THLD of the carry's trunk and starts its timer again. -/
theorem exec_holdRefresh_owner {s : State} {t : Trunk} {id : CarryId} {at_ : Nat} (hs : s.TrunksAgree)
    (hq : s.QueueSound) (ho : (s.trunk t).owner = some id) (hd : s.Due (s.trunk t).refresh at_) :
    exec (.holdRefresh id) s = .next (((s.advanceTo at_).holdFrame t id).setTrunk t
      ((s.trunk t).withRefresh (max s.clock.now at_ + 2000))) := by
  have due : s.Due (s.refreshTimer id) at_ := by rwa [refreshTimer_owner hs hq ho]
  have found : (s.advanceTo at_).tkm.trunkOfCarry id = some t := trunkOfCarry_owner s hs hq t id ho
  refine congrArg Host.Outcome.next ((expire_due _ due).trans ?_)
  simp only [found, advanceTo_trunk, advanceTo_now, holdRefreshMs]

/-- R120: the hold timer's end frees the entry. -/
theorem exec_holdTimerExpiry_held {s : State} {t : Trunk} {holder at_ : Nat} (he : s.trunk t = .held holder at_)
    (hat : at_ < s.clock.second + 1000) :
    exec (.holdTimerExpiry t) s = .next ((s.advanceTo at_).setTrunk t .free) := by
  have due : s.Due (s.trunk t).holdTimer at_ := ⟨by rw [he, TrunkEntry.holdTimer], hat⟩
  exact congrArg Host.Outcome.next (expire_due _ due)

/-- Settles O54: one lemma per timer; a refresh is due only where the entry has an owner, so the two entries without
one do not arise. -/
theorem trunkTimersSettleRefreshAndFree : Obligations.TrunkTimersSettleRefreshAndFree := by
  refine ⟨fun s t id at_ x b he hat => exec_guardTimerExpiry_claiming he hat, ?refresh,
    fun s t holder at_ he hat => exec_holdTimerExpiry_held he hat⟩
  intro s t id at_ hs hq ho hd
  rw [exec_holdRefresh_owner hs hq ho hd, State.holdFrame, advanceTo_ownNum]
  cases s.trunk t <;> rfl

/-! ### Trunk frames that this box hears -/

section Heard

variable {s : State} {h : Header} (callId field ms : Nat)

theorem exec_cack_hears (hh : s.Hears h) : exec (.cack h callId field ms) s =
    .next ((s.frameHeard ms).takeAnnouncement h field fun t u => u.takeCack h.src callId t) :=
  congrArg Host.Outcome.next (receive_hears _ ms _ hh)

theorem exec_tmov_hears (old : Nat) (hh : s.Hears h) : exec (.tmov h callId old field ms) s =
    .next ((s.frameHeard ms).takeAnnouncement h field fun t u => u.takeTmov h.src callId t) :=
  congrArg Host.Outcome.next (receive_hears _ ms _ hh)

theorem exec_thld_hears (holder partner : Nat) (hh : s.Hears h) : exec (.thld h field holder partner callId ms) s =
    .next ((((s.frameHeard ms).mapHeld h.src field holder partner).carryHeardHold h.src holder callId).heardCarrier
      field holder) :=
  congrArg Host.Outcome.next (receive_hears _ ms _ hh)

theorem exec_tfre_hears (hh : s.Hears h) : exec (.tfre h field ms) s =
    .next ((s.frameHeard ms).mapFreed h.src field) :=
  congrArg Host.Outcome.next (receive_hears _ ms _ hh)

end Heard

/-! ### What the map makes of them, and which it ignores -/

/-- R118, R119: an announcement holds an entry that belongs to no carry of this box. -/
theorem mapAnnounced_noOwner (s : State) {src : Nat} {t : Trunk} (h63 : src ≠ 63) (ho : (s.trunk t).owner = none) :
    s.mapAnnounced src (trunkNum t) = s.setTrunk t (.held src (s.clock.now + 8000)) :=
  mapAnnounced_notMine s src t h63 (fun id g b x e => by simp [e, TrunkEntry.owner] at ho)
    (fun id x e => by simp [e, TrunkEntry.owner] at ho)

/-- R118: an announcement of the service tool, or one that names no trunk, is ignored. -/
theorem mapAnnounced_ignored (s : State) {src field : Nat} (hi : src = 63 ∨ trunkOf field = none) :
    s.mapAnnounced src field = s := by
  rcases hi with rfl | hf
  · rw [State.mapAnnounced]
    split <;> rfl
  · rw [State.mapAnnounced, hf]

/-- R118: the THLD frames that the map ignores: of the service tool, naming no trunk, with an address outside 1..62, or
naming this box as holder. -/
def State.IgnoresThld (s : State) (src field holder partner : Nat) : Prop :=
  (src = 63 ∨ trunkOf field = none) ∨ ¬(1 ≤ holder ∧ holder ≤ 62) ∨ ¬(1 ≤ partner ∧ partner ≤ 62) ∨
    s.own = some holder

theorem mapHeld_ignored (s : State) {src field holder partner : Nat} (hi : s.IgnoresThld src field holder partner) :
    s.mapHeld src field holder partner = s := by
  rw [State.mapHeld]
  cases hf : trunkOf field with
  | none => rfl
  | some t => exact if_pos (by simpa [State.IgnoresThld, hf] using hi)

/-- R120: any other THLD holds an entry that belongs to no carry of this box. -/
theorem mapHeld_noOwner (s : State) {src holder partner : Nat} {t : Trunk} (ho : (s.trunk t).owner = none)
    (hi : ¬s.IgnoresThld src (trunkNum t) holder partner) :
    s.mapHeld src (trunkNum t) holder partner = s.setTrunk t (.held holder (s.clock.now + 8000)) := by
  have taken : s.mapHeld src (trunkNum t) holder partner = s.trunkHeld t holder := by
    rw [State.mapHeld, trunkOf_trunkNum]
    exact if_neg (by simpa [State.IgnoresThld, trunkOf_trunkNum] using hi)
  rw [taken, State.trunkHeld]
  rcases (TrunkEntry.owner_eq_none_iff _).1 ho with he | ⟨b, x, he⟩ <;> rw [he] <;> rfl

/-- R120: ignored or not, a THLD on an entry that belongs to no carry leaves the line and the carries. -/
theorem mapHeld_noOwner_keeps (s : State) (src holder partner : Nat) {t : Trunk} (ho : (s.trunk t).owner = none) :
    (s.mapHeld src (trunkNum t) holder partner).lnc = s.lnc ∧
    (s.mapHeld src (trunkNum t) holder partner).cye = s.cye := by
  by_cases hi : s.IgnoresThld src (trunkNum t) holder partner
  · rw [mapHeld_ignored s hi]
    exact ⟨rfl, rfl⟩
  · rw [mapHeld_noOwner s ho hi]
    simp

/-- R121: a TFRE of the holder frees its entry. -/
theorem mapFreed_holder (s : State) {src x : Nat} {t : Trunk} (h63 : src ≠ 63) (he : s.trunk t = .held src x) :
    s.mapFreed src (trunkNum t) = s.setTrunk t .free := by
  simp only [State.mapFreed, trunkOf_trunkNum, if_neg h63, he, if_true]

/-- R118: a TFRE of the service tool, or one that names no trunk, is ignored. -/
theorem mapFreed_ignored (s : State) {src field : Nat} (hi : src = 63 ∨ trunkOf field = none) :
    s.mapFreed src field = s := by
  rcases hi with rfl | hf
  · rw [State.mapFreed]
    split <;> rfl
  · rw [State.mapFreed, hf]

/-- R121: a TFRE of a box that does not hold the entry is ignored, whatever the entry. -/
theorem mapFreed_notHolder (s : State) {src : Nat} {t : Trunk} (he : ∀ x, s.trunk t ≠ .held src x) :
    s.mapFreed src (trunkNum t) = s := by
  simp only [State.mapFreed, trunkOf_trunkNum]
  cases e : s.trunk t with
  | held b x =>
    have hb : b ≠ src := fun hb => he x (hb ▸ e)
    simp only [if_neg hb, ite_self]
  | _ => exact ite_self _

/-! ### PLE and CYE beside the map (R22, R103, R157) -/

theorem takeAnnouncement_noTrunk (s : State) {h : Header} {field : Nat} (f : Trunk → State → State)
    (hf : trunkOf field = none) : s.takeAnnouncement h field f = s := by
  simp only [State.takeAnnouncement, hf, mapAnnounced_ignored s (.inr hf), ite_self]

/-- R157: where the map ignores an announcement, PLE alone may take it. -/
theorem takeAnnouncement_ignored (s : State) {h : Header} {field : Nat} (f : Trunk → State → State)
    (hi : h.src = 63 ∨ trunkOf field = none) :
    s.takeAnnouncement h field f = s ∨
      ∃ t, s.takeAnnouncement h field f = f t (s.withChoices (s.choices + 1)) := by
  simp only [State.takeAnnouncement, mapAnnounced_ignored _ hi, State.inFreeOrder, inOrder, ite_self]
  cases trunkOf field with
  | none => exact .inl (ite_self _)
  | some t =>
    by_cases hm : s.isMine h = true
    · exact .inr ⟨t, if_pos hm⟩
    · exact .inl (if_neg hm)

theorem carryHeardHold_otherHolder (s : State) (src callId : Nat) {holder : Nat} (hown : s.own ≠ some holder) :
    s.carryHeardHold src holder callId = s := if_neg hown

/-- R103: a THLD that names this box as holder restarts the requester silence timer of its sender's carry. -/
theorem carryHeardHold_cye (s : State) (src callId : Nat) {holder : Nat} (hown : s.own = some holder) :
    (s.carryHeardHold src holder callId).cye = s.cye.map fun c =>
      if c.id = ⟨src, callId⟩ then { c with silence := some (s.clock.now + 8000) } else c := by
  simp [State.carryHeardHold, if_pos hown, State.setCarry, updateCarry, silenceMs]

theorem heardCarrier_noTrunk (s : State) (field holder : Nat) (ht : s.ple.trunk = none) :
    s.heardCarrier field holder = s := by
  rw [State.heardCarrier, ht]

/-- R22: the carrier's THLD on the recorded trunk restarts the carrier silence timer. -/
theorem heardCarrier_ple (s : State) {t : Trunk} {holder : Nat} (hc : s.ple.relayCarrier = some holder)
    (ht : s.ple.trunk = some t) (hs : s.ple.carrierSilence.isSome = true) :
    (s.heardCarrier (trunkNum t) holder).ple = { s.ple with carrierSilence := some (s.clock.now + 8000) } := by
  have acts : s.ple.relayCarrier = some holder ∧ trunkNum t = trunkNum t ∧ s.ple.carrierSilence.isSome = true :=
    ⟨hc, rfl, hs⟩
  rw [State.heardCarrier, ht]
  exact congrArg State.ple (if_pos acts)

/-! ### Frames that hold and free (R118 to R121) -/

section Holds

variable {s : State} {h : Header} {tr : Trunk} (callId ms : Nat)

/-- R119: a CACK or TMOV for another box holds the entry for its source. -/
theorem exec_announcement_holds (old : Nat) (hh : s.Hears h) (hd : s.own ≠ some h.dst) (h63 : h.src ≠ 63)
    (ho : (s.trunk tr).owner = none) :
    let u := s.frameHeard ms
    let held := u.setTrunk tr (.held h.src (u.clock.now + 8000))
    exec (.cack h callId (trunkNum tr) ms) s = .next held ∧
    exec (.tmov h callId old (trunkNum tr) ms) s = .next held := by
  have map := mapAnnounced_noOwner (s.frameHeard ms) h63 ((congrArg _ (frameHeard_trunk s ms tr)).trans ho)
  refine ⟨?cack, ?tmov⟩
  case cack => rw [exec_cack_hears _ _ _ hh, takeAnnouncement_notMine _ _ _ _ _ hd, map]
  case tmov => rw [exec_tmov_hears _ _ _ _ hh, takeAnnouncement_notMine _ _ _ _ _ hd, map]

/-- R120: a THLD of another holder, with no relay attempt on a trunk, acts on the map alone. -/
theorem exec_thld_holds {holder partner : Nat} (hh : s.Hears h) (h63 : h.src ≠ 63) (hr : 1 ≤ holder ∧ holder ≤ 62)
    (hp : 1 ≤ partner ∧ partner ≤ 62) (hown : s.own ≠ some holder) (ht : s.ple.trunk = none)
    (ho : (s.trunk tr).owner = none) :
    let u := s.frameHeard ms
    exec (.thld h (trunkNum tr) holder partner callId ms) s =
      .next (u.setTrunk tr (.held holder (u.clock.now + 8000))) := by
  intro u
  have taken : ¬u.IgnoresThld h.src (trunkNum tr) holder partner := by
    simp [State.IgnoresThld, trunkOf_trunkNum, h63, hr, hp, u, hown]
  have map : u.mapHeld h.src (trunkNum tr) holder partner = u.setTrunk tr (.held holder (u.clock.now + 8000)) :=
    mapHeld_noOwner u (by simpa [u] using ho) taken
  rw [exec_thld_hears _ _ _ _ _ hh, map, carryHeardHold_otherHolder, heardCarrier_noTrunk]
  · simpa [u] using ht
  · rw [own_of_cfg (s := s) (by simp [u])]
    exact hown

/-- R121, R118: a TFRE that the tool sends or that another box than the holder sends changes nothing. -/
theorem exec_tfre_notHolder (hh : s.Hears h) (hi : h.src = 63 ∨ ∀ x, s.trunk tr ≠ .held h.src x) :
    exec (.tfre h (trunkNum tr) ms) s = .next (s.frameHeard ms) := by
  rw [exec_tfre_hears _ _ hh]
  rcases hi with h63 | he
  · rw [mapFreed_ignored _ (.inl h63)]
  · rw [mapFreed_notHolder _ (by simpa using he)]

/-- R118, R103: a THLD that names this box as holder leaves the map and restarts its sender's carry's silence timer. -/
theorem exec_thld_ownHolder {holder : Nat} (field partner : Nat) (hh : s.Hears h) (hown : s.own = some holder) :
    let u := s.frameHeard ms
    ∃ t, exec (.thld h field holder partner callId ms) s = .next t ∧ t.tkm = s.tkm ∧
      t.cye = (s.cye.map fun c =>
        if c.id = ⟨h.src, callId⟩ then { c with silence := some (u.clock.now + 8000) } else c) ∧
      t.slc = s.slc ∧ t.nwt = s.nwt ∧ t.lnc = u.lnc := by
  intro u
  have uown : u.own = some holder := (frameHeard_own s ms).trans hown
  have map : u.mapHeld h.src field holder partner = u := mapHeld_ignored u (.inr (.inr (.inr uown)))
  refine ⟨_, (exec_thld_hears _ _ _ _ _ hh).trans (by rw [map]), by simp [u], ?cye, by simp [u], by simp [u], by simp⟩
  simp [carryHeardHold_cye u _ _ uown, u]

/-- R22: a THLD of the attempt's carrier on its trunk restarts the carrier silence timer, whatever the map makes of it;
it leaves the line and the carries, since the entry belongs to no carry. -/
theorem exec_thld_carrier {holder : Nat} (partner : Nat) (hh : s.Hears h) (hc : s.ple.relayCarrier = some holder)
    (ht : s.ple.trunk = some tr) (hs : s.ple.carrierSilence.isSome = true) (ho : (s.trunk tr).owner = none)
    (hown : s.own ≠ some holder) :
    let u := s.frameHeard ms
    ∃ t, exec (.thld h (trunkNum tr) holder partner callId ms) s = .next t ∧
      t.ple = { s.ple with carrierSilence := some (u.clock.now + 8000) } ∧ t.lnc = u.lnc ∧ t.cye = s.cye := by
  intro u
  set m := u.mapHeld h.src (trunkNum tr) holder partner with hm
  obtain ⟨mlnc, mcye⟩ := mapHeld_noOwner_keeps u h.src holder partner ((congrArg _ (frameHeard_trunk s ms tr)).trans ho)
  have mple : m.ple = s.ple := by simp [hm, u]
  have mown : m.own ≠ some holder := by rwa [own_of_cfg (s := s) (by simp [hm, u])]
  refine ⟨m.heardCarrier (trunkNum tr) holder, ?exec, ?ple, by simpa using mlnc, by simpa [u] using mcye⟩
  case exec => rw [exec_thld_hears _ _ _ _ _ hh, ← hm, carryHeardHold_otherHolder _ _ _ mown]
  case ple =>
    rw [heardCarrier_ple m (mple ▸ hc) (mple ▸ ht) (mple ▸ hs), mple]
    simp [hm, u]

end Holds

/-! ### Frames that the map ignores (R118) -/

/-- What an ignored frame leaves: the map with every entry, the slots, both tables and the service responder. -/
def State.MapStands (s t : State) : Prop :=
  t.tkm = s.tkm ∧ t.slc = s.slc ∧ t.nwt = s.nwt ∧ t.nbt = s.nbt ∧ t.svc = s.svc

theorem frameHeard_mapStands (s : State) (ms : Nat) : s.MapStands (s.frameHeard ms) := by
  simp [State.MapStands]

/-- Of an ignored announcement only PLE's part is left. -/
theorem takeAnnouncement_mapStands (s : State) {h : Header} {field : Nat} (ms : Nat) (f : Trunk → State → State)
    (hf : ∀ t u, State.MapStands u (f t u)) (hi : h.src = 63 ∨ trunkOf field = none) :
    s.MapStands ((s.frameHeard ms).takeAnnouncement h field f) := by
  rcases takeAnnouncement_ignored (s.frameHeard ms) f hi with e | ⟨t, e⟩ <;> rw [e]
  · exact frameHeard_mapStands s ms
  · simpa [State.MapStands] using hf t ((s.frameHeard ms).withChoices ((s.frameHeard ms).choices + 1))

section Ignored

variable {s : State} {h : Header} (callId field ms : Nat)

/-- R118, R22, R103: of an ignored THLD only the two silence timers are left. -/
theorem exec_thld_ignored (holder partner : Nat) (hh : s.Hears h) (hi : s.IgnoresThld h.src field holder partner) :
    ∃ t, exec (.thld h field holder partner callId ms) s = .next t ∧ s.MapStands t := by
  have map : (s.frameHeard ms).mapHeld h.src field holder partner = s.frameHeard ms :=
    mapHeld_ignored _ (by simpa [State.IgnoresThld] using hi)
  refine ⟨_, exec_thld_hears _ _ _ _ _ hh, ?_⟩
  rw [map]
  simp [State.MapStands]

/-- R118: the four frames from the service tool, or with a trunk field that names no trunk. -/
theorem exec_trunkFrame_ignored (old holder partner : Nat) (hh : s.Hears h) (hi : h.src = 63 ∨ trunkOf field = none) :
    ∀ k ∈ [Instr.cack h callId field ms, .tmov h callId old field ms, .thld h field holder partner callId ms,
      .tfre h field ms], ∃ t, exec k s = .next t ∧ s.MapStands t := by
  simp only [List.forall_mem_cons]
  refine ⟨⟨_, exec_cack_hears _ _ _ hh, ?cack⟩, ⟨_, exec_tmov_hears _ _ _ _ hh, ?tmov⟩,
    exec_thld_ignored _ _ _ _ _ hh (.inl hi), ⟨_, exec_tfre_hears _ _ hh, ?tfre⟩, by simp⟩
  case cack => exact takeAnnouncement_mapStands s ms _ (fun t u => by simp [State.MapStands]) hi
  case tmov => exact takeAnnouncement_mapStands s ms _ (fun t u => by simp [State.MapStands]) hi
  case tfre =>
    rw [mapFreed_ignored _ hi]
    exact frameHeard_mapStands s ms

/-- R118, R19, R21: where the field names no trunk, no block takes a CACK, a TMOV or a TFRE. -/
theorem exec_trunkFrame_noTrunk (old : Nat) (hh : s.Hears h) (hf : trunkOf field = none) :
    ∀ k ∈ [Instr.cack h callId field ms, .tmov h callId old field ms, .tfre h field ms],
      exec k s = .next (s.frameHeard ms) := by
  simp only [List.forall_mem_cons]
  refine ⟨?cack, ?tmov, ?tfre, by simp⟩
  case cack => rw [exec_cack_hears _ _ _ hh, takeAnnouncement_noTrunk _ _ hf]
  case tmov => rw [exec_tmov_hears _ _ _ _ hh, takeAnnouncement_noTrunk _ _ hf]
  case tfre => rw [exec_tfre_hears _ _ hh, mapFreed_ignored _ (.inr hf)]

end Ignored

/-- Settles O52: one lemma per clause; that an entry is FREE or HELD enters as its having no owner. -/
theorem heardTrunkFramesHoldAndFree : Obligations.HeardTrunkFramesHoldAndFree := by
  intro s h ms callId old tr hh
  refine ⟨?announced, ?held, ?freed, exec_tfre_notHolder ms hh, ?ownHolder, ?carrier, ?ignored, ?badAddress, ?noTrunk⟩
  case announced =>
    intro hd h63 he
    exact exec_announcement_holds callId ms old hh hd h63 ((TrunkEntry.owner_eq_none_iff _).2 he)
  case held =>
    intro holder partner h63 hr hr' hp hp' hown ht he
    exact exec_thld_holds callId ms hh h63 ⟨hr, hr'⟩ ⟨hp, hp'⟩ hown ht ((TrunkEntry.owner_eq_none_iff _).2 he)
  case freed =>
    intro x h63 he
    rw [exec_tfre_hears _ _ hh, mapFreed_holder _ h63 ((frameHeard_trunk s ms tr).trans he)]
  case ownHolder =>
    intro holder partner hown
    exact exec_thld_ownHolder callId ms (trunkNum tr) partner hh hown
  case carrier =>
    intro holder partner hc ht hs he hown
    exact exec_thld_carrier callId ms partner hh hc ht hs ((TrunkEntry.owner_eq_none_iff _).2 he) hown
  case ignored =>
    intro field holder partner hi
    exact exec_trunkFrame_ignored callId field ms old holder partner hh (hi.imp_right trunkOf_eq_none)
  case badAddress =>
    intro field holder partner hi
    have ignores : s.IgnoresThld h.src field holder partner := by
      unfold State.IgnoresThld
      omega
    exact exec_thld_ignored callId field ms holder partner hh ignores
  case noTrunk =>
    intro field hf
    exact exec_trunkFrame_noTrunk callId field ms old hh (trunkOf_eq_none hf)

end Sys2Proof.Machine
end

section
/-! The transmit queue and the transmitter's take (R147 to R149): the first frame of a class, what a frame handed to LNC
makes of the queue, and which frame an IDLE transmitter takes. -/

namespace Sys2Proof.Machine

/-! ### The first frame of a class -/

@[simp] theorem isClass_iff {c : FrameClass} {f : TxFrame} : isClass c f = true ↔ f.frameClass = c := beq_iff_eq

theorem any_isClass_iff {q : List TxFrame} {c : FrameClass} :
    q.any (isClass c) = true ↔ ∃ f ∈ q, f.frameClass = c := by
  simp only [List.any_eq_true, isClass_iff]

theorem not_any_isClass {q : List TxFrame} {c : FrameClass} (h : ∀ f ∈ q, f.frameClass ≠ c) :
    ¬ q.any (isClass c) = true := by
  rw [any_isClass_iff]
  exact fun ⟨f, hf, hc⟩ => h f hf hc

/-- A queue that holds a class splits at its first frame of that class. -/
theorem exists_first_of_class {q : List TxFrame} {c : FrameClass} (h : ∃ f ∈ q, f.frameClass = c) :
    ∃ xs g ys, q = xs ++ g :: ys ∧ g.frameClass = c ∧ ∀ x ∈ xs, x.frameClass ≠ c := by
  have held : (q.find? (isClass c)).isSome = true := List.find?_isSome.2 (by simpa using h)
  obtain ⟨g, found⟩ := Option.isSome_iff_exists.1 held
  obtain ⟨hg, xs, ys, rfl, hxs⟩ := List.find?_eq_some_iff_append.1 found
  exact ⟨xs, g, ys, rfl, isClass_iff.1 hg, by simpa [← isClass_iff] using hxs⟩

section First

variable {xs ys : List TxFrame} {g : TxFrame} {c : FrameClass}

theorem any_isClass_of_split (hg : g.frameClass = c) : (xs ++ g :: ys).any (isClass c) = true :=
  any_isClass_iff.2 ⟨g, by simp, hg⟩

theorem dropFirst_first (hg : g.frameClass = c) (hxs : ∀ x ∈ xs, x.frameClass ≠ c) :
    dropFirst (isClass c) (xs ++ g :: ys) = xs ++ ys := by
  induction xs with
  | nil => simp [dropFirst, hg]
  | cons x xs ih =>
    obtain ⟨hx, hxs⟩ := List.forall_mem_cons.1 hxs
    simp [dropFirst, hx, ih hxs]

theorem find?_isClass_first (hg : g.frameClass = c) (hxs : ∀ x ∈ xs, x.frameClass ≠ c) :
    (xs ++ g :: ys).find? (isClass c) = some g :=
  List.find?_eq_some_iff_append.2 ⟨isClass_iff.2 hg, xs, ys, rfl, by simpa [← isClass_iff] using hxs⟩

end First

/-! ### A frame handed to LNC (R147) -/

section Enqueue

variable {q xs ys : List TxFrame} {f g : TxFrame}

theorem enqueue_reach_new (hf : f.frameClass = .reach) (hq : ∀ x ∈ q, x.frameClass ≠ .reach) :
    enqueue q f = if q.length < 8 then q ++ [f] else q := by
  simp only [enqueue, hf, if_neg (not_any_isClass hq)]

/-- R147: a REACH takes the place of the queued one, whatever the room. -/
theorem enqueue_reach_replaces (hf : f.frameClass = .reach) (hg : g.frameClass = .reach)
    (hxs : ∀ x ∈ xs, x.frameClass ≠ .reach) : enqueue (xs ++ g :: ys) f = xs ++ ys ++ [f] := by
  simp only [enqueue, hf, if_pos (any_isClass_of_split hg), dropFirst_first hg hxs]

theorem enqueue_tool (hf : f.frameClass = .tool) : enqueue q f = if q.length < 8 then q ++ [f] else q := by
  simp only [enqueue, hf]

/-- R147: a hold or a call frame is queued where there is room, and else in the place of a tool frame or of a REACH. -/
theorem enqueue_holdOrCall (hf : f.frameClass = .hold ∨ f.frameClass = .call) :
    enqueue q f =
      if q.length < 8 then q ++ [f]
      else if q.any (isClass .tool) then dropFirst (isClass .tool) q ++ [f]
      else if q.any (isClass .reach) then dropFirst (isClass .reach) q ++ [f]
      else q := by
  rcases hf with hf | hf <;> simp only [enqueue, hf]

theorem enqueue_holdOrCall_room (hf : f.frameClass = .hold ∨ f.frameClass = .call) (room : q.length < 8) :
    enqueue q f = q ++ [f] := by
  rw [enqueue_holdOrCall hf, if_pos room]

theorem enqueue_holdOrCall_overTool (hf : f.frameClass = .hold ∨ f.frameClass = .call)
    (full : 8 ≤ (xs ++ g :: ys).length) (hg : g.frameClass = .tool) (hxs : ∀ x ∈ xs, x.frameClass ≠ .tool) :
    enqueue (xs ++ g :: ys) f = xs ++ ys ++ [f] := by
  rw [enqueue_holdOrCall hf, if_neg full.not_gt, if_pos (any_isClass_of_split hg), dropFirst_first hg hxs]

theorem enqueue_holdOrCall_overReach (hf : f.frameClass = .hold ∨ f.frameClass = .call)
    (full : 8 ≤ (xs ++ g :: ys).length) (noTool : ∀ x ∈ xs ++ g :: ys, x.frameClass ≠ .tool)
    (hg : g.frameClass = .reach) (hxs : ∀ x ∈ xs, x.frameClass ≠ .reach) :
    enqueue (xs ++ g :: ys) f = xs ++ ys ++ [f] := by
  rw [enqueue_holdOrCall hf, if_neg full.not_gt, if_neg (not_any_isClass noTool), if_pos (any_isClass_of_split hg),
    dropFirst_first hg hxs]

theorem enqueue_holdOrCall_lost (hf : f.frameClass = .hold ∨ f.frameClass = .call) (full : 8 ≤ q.length)
    (noTool : ∀ x ∈ q, x.frameClass ≠ .tool) (noReach : ∀ x ∈ q, x.frameClass ≠ .reach) : enqueue q f = q := by
  rw [enqueue_holdOrCall hf, if_neg full.not_gt, if_neg (not_any_isClass noTool), if_neg (not_any_isClass noReach)]

end Enqueue

/-! ### The transmitter's take (R148, R149) -/

section Take

variable {q : List TxFrame} {turn : Nat} {c : FrameClass}

/-- R148: from a queue that holds a frame of a sent class the transmitter takes one. -/
theorem exists_nextClass (hq : q ≠ []) (sent : ∀ f ∈ q, f.frameClass ≠ .unsent) : ∃ c, nextClass q turn = some c := by
  obtain ⟨f, hf⟩ := List.exists_mem_of_ne_nil q hq
  have held : q.any (isClass f.frameClass) = true := any_isClass_iff.2 ⟨f, hf, rfl⟩
  rw [← Option.isSome_iff_exists]
  cases hc : f.frameClass <;> rw [hc] at held
  case unsent => exact absurd hc (sent f hf)
  all_goals
    rw [nextClass]
    split_ifs <;> rfl

/-- The class taken is one that the queue holds. -/
theorem nextClass_held (h : nextClass q turn = some c) : ∃ f ∈ q, f.frameClass = c := by
  rw [← any_isClass_iff]
  simp only [nextClass] at h
  split_ifs at h with hTurn hHold hCall hReach hTool <;> cases h
  · exact hTurn.2
  · exact hHold
  · exact hCall
  · exact hReach
  · exact hTool

/-- R148: the REACH's turn. -/
theorem nextClass_reachTurn (ht : turn = 4) (hr : ∃ f ∈ q, f.frameClass = .reach) : nextClass q turn = some .reach :=
  if_pos ⟨ht, any_isClass_iff.2 hr⟩

/-- R148: where it is not the REACH's turn, no class before the one taken is queued. -/
theorem nextClass_order (ht : ¬ (turn = 4 ∧ ∃ f ∈ q, f.frameClass = .reach)) (h : nextClass q turn = some c) :
    (c = .call → ∀ f ∈ q, f.frameClass ≠ .hold) ∧
    (c = .reach → ∀ f ∈ q, f.frameClass ≠ .hold ∧ f.frameClass ≠ .call) ∧
    (c = .tool → ∀ f ∈ q, f.frameClass ≠ .hold ∧ f.frameClass ≠ .call ∧ f.frameClass ≠ .reach) := by
  simp only [nextClass, any_isClass_iff, if_neg ht] at h
  split_ifs at h with hHold hCall hReach hTool <;> cases h <;> push Not at *
  · exact ⟨nofun, nofun, nofun⟩
  · exact ⟨fun _ => hHold, nofun, nofun⟩
  · exact ⟨nofun, fun _ f hf => ⟨hHold f hf, hCall f hf⟩, nofun⟩
  · exact ⟨nofun, nofun, fun _ f hf => ⟨hHold f hf, hCall f hf, hReach f hf⟩⟩

theorem FrameClass.eq_tool {k : FrameClass} (sent : k ≠ .unsent) (others : k ≠ .hold ∧ k ≠ .call ∧ k ≠ .reach) :
    k = .tool := by
  cases k <;> simp_all

/-- R148: only a hold or a call frame taken past a queued REACH counts towards its turn. -/
theorem turnAfter_eq : turnAfter q turn c =
    if (c = .hold ∨ c = .call) ∧ ∃ f ∈ q, f.frameClass = .reach then turn + 1 else 0 := by
  cases c <;> simp [turnAfter]

/-- R148, R149: the take out of a queue split at the first frame of the class taken. -/
theorem takeFrame_first {l : Lnc} {xs ys : List TxFrame} {g : TxFrame} (idle : l.tx = .idle)
    (hc : nextClass (xs ++ g :: ys) l.turn = some g.frameClass) (hxs : ∀ x ∈ xs, x.frameClass ≠ g.frameClass) :
    Lnc.takeFrame { l with queue := xs ++ g :: ys } =
      { l with
        tx := .gap, inHand := some g, queue := xs ++ ys, collisions := 0
        turn := turnAfter (xs ++ g :: ys) l.turn g.frameClass } := by
  simp only [Lnc.takeFrame, idle, hc, if_true, find?_isClass_first rfl hxs, dropFirst_first rfl hxs]

end Take

/-- Settles O19: one lemma per clause on the queue; the take goes by the class that R148 names, of which the queue holds
a first frame. -/
theorem transmitQueueAndTransmitterTakeFrames : Obligations.TransmitQueueAndTransmitterTakeFrames := by
  refine ⟨fun q f => ⟨enqueue_reach_new, ?reachReplaces, enqueue_tool, fun hf =>
    ⟨enqueue_holdOrCall_room hf, fun full => ⟨?overTool, ?overReach, ?lost⟩⟩⟩, ?take⟩
  case reachReplaces =>
    rintro xs g ys rfl hf hg hxs
    exact enqueue_reach_replaces hf hg hxs
  case overTool =>
    rintro xs g ys rfl hg hxs
    exact enqueue_holdOrCall_overTool hf full hg hxs
  case overReach =>
    rintro xs g ys rfl noTool hg hxs
    exact enqueue_holdOrCall_overReach hf full noTool hg hxs
  case lost =>
    intro others
    exact enqueue_holdOrCall_lost hf full (fun x hx => (others x hx).1) (fun x hx => (others x hx).2)
  case take =>
    intro l _ idle q hq sent
    obtain ⟨c, hc⟩ := exists_nextClass (turn := l.turn) hq sent
    obtain ⟨xs, g, ys, rfl, rfl, hxs⟩ := exists_first_of_class (nextClass_held hc)
    rw [takeFrame_first idle hc hxs]
    refine ⟨xs, g, ys, rfl, hxs, rfl, rfl, rfl, rfl, ?reachTurn, ?order, turnAfter_eq⟩
    case reachTurn =>
      intro ht hr
      exact Option.some.inj (hc.symm.trans (nextClass_reachTurn ht hr))
    case order =>
      intro ht
      obtain ⟨call, reach, tool⟩ := nextClass_order ht hc
      exact ⟨call, reach, fun h f hf => FrameClass.eq_tool (sent f hf) (tool h f hf)⟩

end Sys2Proof.Machine
end

section
/-! The writes that the commands are made of. Every command but a reset is a sequence of `Effect`s, each one write of one
block together with what that block's soundness asks of it; what every effect keeps, every command keeps. `Steps k`
bounds by `k` the call log records that no carry of the queue accounts for (R184). -/

namespace Sys2Proof.Machine

/-! ### What a write of a block has to respect -/

/-- `SlotRec.Sound` without its clause on the idle timer, which every write of a slot settles anew (R71). -/
def SlotRec.Fits (r : SlotRec) : Prop :=
  r.power = isPowered r.state ∧ r.heartbeat.isSome = isPastWarmUp r.state ∧
  r.deadline.isSome = (runsDeadline r.state && r.repeatsDue == 0) ∧ requestFits r.state r.request = true ∧
  (isOut r.state = true → r.scanTimer = none) ∧ (r.state = .restarting → r.restartTimer.isSome = true) ∧
  (r.restartTimer.isSome = true → r.state = .restarting ∨ r.state = .off) ∧
  r.repeats ≤ 2 ∧ r.repeatsDue ≤ r.repeats ∧ (r.repeatsDue ≠ 0 → r.state = .dialling) ∧ r.faultTimes.length ≤ 2

theorem SlotRec.sound_iff (r : SlotRec) : r.Sound ↔ r.Fits ∧ r.idleTimer.isSome = r.isUnused := by
  unfold SlotRec.Sound SlotRec.Fits
  tauto

/-- R71: a settled record is sound where the rest of it fits. -/
theorem SlotRec.Fits.settleIdle {r : SlotRec} (h : r.Fits) (now : Nat) : (r.settleIdle now).Sound := by
  rw [SlotRec.sound_iff]
  unfold SlotRec.settleIdle
  split <;> rename_i hu
  · exact ⟨h, hu.symm⟩
  · exact ⟨h, by simpa [SlotRec.isUnused] using hu⟩

/-- R147: nothing of this box is on the line or waits for it. -/
def Lnc.Quiet (l : Lnc) : Prop := l.queue = [] ∧ l.tx = .idle ∧ l.inHand = none ∧ l.backoff = none

/-- R170: the debounce of a supply record. -/
def Spm.Sound (p : Spm) : Prop :=
  p.count ≤ 1 ∧ (p.pendingSupply.isSome = true ↔ p.count = 1) ∧ (p.settling = true → p.supply = .ok ∧ p.count = 0)

/-- What the trunk map and the slots tell of a carry record (R89, R93): identity, slot, trunk, and whether it is QUEUED. -/
def CarryRec.view (c : CarryRec) : CarryId × Slot × Trunk × Bool := (c.id, c.slot, c.trunk, c.state = .queued)

/-- Two slot records tell of the same carries (R62). -/
def SlotRec.SameCarries (r r' : SlotRec) : Prop :=
  r'.waitingCarry = r.waitingCarry ∧ ∀ id, r'.grant = .carry id ↔ r.grant = .carry id

/-- `State.ClaimsAgree`, but that no slot tells of the carry records `off`: between the fault that takes their slot and
their end (R66), and between their acceptance and their claim (R93). -/
def State.ClaimsBut (s : State) (off : CarryId → Prop) : Prop :=
  ∀ sl id,
    (id ∈ (s.slot sl).waitingCarry ↔ ¬ off id ∧ ∃ c ∈ s.cye, c.id = id ∧ c.slot = sl ∧ c.state = .queued) ∧
    ((s.slot sl).grant = .carry id ↔ ¬ off id ∧ ∃ c ∈ s.cye, c.id = id ∧ c.slot = sl ∧ c.state ≠ .queued)

/-- `State.CarriesSound` with `State.ClaimsBut`. -/
def State.CarriesBut (s : State) (off : CarryId → Prop) : Prop := s.QueueSound ∧ s.TrunksAgree ∧ s.ClaimsBut off

/-- The carries stay in agreement, whichever wait for their end, and none is added. -/
def Calm (s t : State) : Prop :=
  (∀ off, s.CarriesBut off → t.CarriesBut off) ∧ ∀ id ∈ t.cye.map CarryRec.id, id ∈ s.cye.map CarryRec.id

/-- One write of a command. The number is how many call log records it adds beyond the carry records it removes; an effect
of first kind `true` is calm, one of second kind `true` keeps the call record sound. -/
inductive Effect : Bool → Bool → Nat → State → State → Prop
  | time {p q} (s : State) (at_ : Nat) (due : at_ < s.clock.second + 1000) : Effect p q 0 s (s.advanceTo at_)
  | second {p q} (s : State) : Effect p q 0 s s.countSecond
  | choice {p q} (s : State) (n : Nat) : Effect p q 0 s (s.withChoices n)
  | callPoint {p q} (s : State) (x : Cpi) (lamp : x.outLamp = s.cpi.outLamp)
      (call : q = true → s.CallSound → (s.withCpi x).CallSound) : Effect p q 0 s (s.withCpi x)
  | join {p q} (s : State) (o : Owner) (x y : Endpoint) : Effect p q 0 s (s.xptJoin o x y)
  | unjoin {p q} (s : State) (o : Owner) : Effect p q 0 s (s.xptBreak o)
  | tone {p q} (s : State) (burst : Bool) (at_ : Nat) (sounds : s.xpt.cue ≠ .silent) :
      Effect p q 0 s (s.withXpt { s.xpt with cue := .connecting burst, cadence := some at_ })
  | slot {p q} (s : State) (sl : Slot) (f : SlotRec → SlotRec) (fits : (s.slot sl).Sound → (f (s.slot sl)).Fits)
      (same : p = true → (s.slot sl).SameCarries (f (s.slot sl))) :
      Effect p q 0 s (s.setSlot sl f)
  | table {p q} (s : State) (sl : Slot) (es : List NetEntry) (sound : tableSound (s.table sl) → tableSound es) :
      Effect p q 0 s (s.withTable sl es)
  | neighbours {p q} (s : State) (ns : List NeighbourEntry) (sound : s.NeighboursSound → (s.withNbt ns).NeighboursSound) :
      Effect p q 0 s (s.withNbt ns)
  | advert {p q} (s : State) (x : Adv) (stops : s.own = none → s.adv.timer = .stopped → x.timer = .stopped) :
      Effect p q 0 s (s.withAdv x)
  | routes {p q} (s v : State) : Effect p q 0 s (s.withRsl (buildList v))
  | call {p q} (s : State) (x : Ple) (call : q = true → s.CallSound → (s.withPle x).CallSound) :
      Effect p q 0 s (s.withPle x)
  | trunks {q} (s : State) (x : Tkm) : Effect false q 0 s (s.withTkm x)
  | line {p q} (s : State) (x : Lnc) (sound : s.lnc.Sound → x.Sound)
      (quiet : s.own = none → s.lnc.Quiet → x.Quiet ∧ x.sent = s.lnc.sent) : Effect p q 0 s (s.withLnc x)
  | supply {p q} (s : State) (x : Spm) (sound : s.spm.Sound → x.Sound) : Effect p q 0 s (s.withSpm x)
  | nextCallId {p q} (s : State) (n : Nat) : Effect p q 0 s (s.withSvc { s.svc with nextCallId := n % 256 })
  | carries {p q} (s : State) (cs : List CarryRec) (fewer : cs.length ≤ s.cye.length)
      (same : p = true → cs.map CarryRec.view = s.cye.map CarryRec.view) : Effect p q 0 s (s.withCye cs)
  | acceptance {q} (s : State) (c : CarryRec) : Effect false q 1 s (s.withCye (s.cye ++ [c]))
  | carryLog {q} (s : State) (r : LogRecord) (id : CarryId) (held : ∃ c ∈ s.cye, c.id = id) :
      Effect false q 0 s ((s.logAppend r).withCye (s.cye.filter fun d => d.id != id))
  | callLog {p q} (s : State) (r : LogRecord) : Effect p q 1 s (s.logAppend r)
  | engineReset {q} (s : State) : Effect false q 0 s s.engineReset

/-- Effects one after the other, with at most `k` log records beyond the carries removed. Effects that together are
calm, or keep the call record sound, count as ones that do. -/
inductive Steps : Bool → Bool → Nat → State → State → Prop
  | refl (p q : Bool) (k : Nat) (s : State) : Steps p q k s s
  | tail {p q : Bool} {j k : Nat} {s t u : State} (before : Steps p q j s t) (last : Effect p q k t u) :
      Steps p q (j + k) s u
  | closed {p q : Bool} {j k : Nat} {s t u : State} (before : Steps p q j s t) (inner : Steps false q k t u)
      (calm : p = true → Calm t u) : Steps p q (j + k) s u
  | closedCall {p q : Bool} {j k : Nat} {s t u : State} (before : Steps p q j s t) (inner : Steps p false k t u)
      (call : q = true → t.CallSound → u.CallSound) : Steps p q (j + k) s u

namespace Steps

variable {p q : Bool} {j k : Nat} {s t u : State}

/-- A larger bound is a bound. -/
theorem mono (h : Steps p q j s t) (le : j ≤ k) : Steps p q k s t := by
  obtain ⟨d, rfl⟩ := Nat.exists_eq_add_of_le le
  exact h.closed (.refl false q d t) fun _ => ⟨fun _ h => h, fun _ h => h⟩

/-- What every effect keeps, a sequence of them keeps. -/
theorem keeps {P : State → Prop} (each : ∀ {p q i s t}, Effect p q i s t → P s → P t) (h : Steps p q k s t) (hs : P s) :
    P t := by
  induction h with
  | refl => exact hs
  | tail _ e ih => exact each e (ih hs)
  | closed _ _ _ ihb ihi => exact ihi (ihb hs)
  | closedCall _ _ _ ihb ihi => exact ihi (ihb hs)

theorem eff (h : Steps p q k s t) (e : Effect p q 0 t u) : Steps p q k s u := h.tail e

end Steps

/-! ### What every effect keeps -/

theorem isUnused_of_eq_idle {r : SlotRec} (h : r.isUnused = true) : r.state = .idle := by
  simp [SlotRec.isUnused] at h
  tauto

theorem SlotRec.engineReset_sound {r : SlotRec} (h : r.Sound) (now : Nat) : (r.engineReset now).Sound := by
  unfold SlotRec.engineReset
  split
  · exact h
  · simp [SlotRec.Sound, isPowered, isPastWarmUp, SlotRec.isUnused, runsDeadline, requestFits]

/-- R62 to R67: every effect keeps the slots sound, and R165: the OUT lamp with them. -/
theorem Effect.keeps_slots {p q : Bool} {k : Nat} {s t : State} (e : Effect p q k s t) (h : s.SlotsSound ∧ s.OutLampFollows) :
    t.SlotsSound ∧ t.OutLampFollows := by
  cases e
  case callPoint x lamp _ => exact ⟨h.1, fun hp => lamp.trans (h.2 hp)⟩
  case slot sl f fits _ =>
    cases sl
    · exact ⟨⟨(fits h.1.1).settleIdle _, h.1.2⟩, fun _ => rfl⟩
    · exact ⟨⟨h.1.1, (fits h.1.2).settleIdle _⟩, fun _ => rfl⟩
  case engineReset => exact ⟨⟨SlotRec.engineReset_sound h.1.1 _, SlotRec.engineReset_sound h.1.2 _⟩, fun _ => rfl⟩
  case table sl es _ => cases sl <;> exact h
  all_goals exact h

theorem NetEntry.Sound.age {e : NetEntry} (h : e.Sound) : (ageEntry e).Sound := by
  obtain ⟨hc, hl, -, hq⟩ := h
  exact ⟨hc, hl, by simp [ageEntry], hq⟩

theorem tableSound_nil : tableSound [] := ⟨by simp, by simp, by simp⟩

/-- A table whose entries are changed, codes and ranges kept. -/
theorem tableSound.map {es : List NetEntry} (h : tableSound es) (f : NetEntry → NetEntry)
    (code : ∀ e, (f e).code = e.code) (sound : ∀ e, e.Sound → (f e).Sound) : tableSound (es.map f) := by
  obtain ⟨hl, hn, he⟩ := h
  refine ⟨by simpa using hl, ?_, ?_⟩
  · rw [List.map_map, show NetEntry.code ∘ f = NetEntry.code from funext code]
    exact hn
  · simpa using fun e m => sound e (he e m)

/-- R46: every effect keeps both network tables. -/
theorem Effect.keeps_networks {p q : Bool} {k : Nat} {s t : State} (e : Effect p q k s t) (h : s.NetworksSound) : t.NetworksSound := by
  cases e
  case table sl es sound => cases sl <;> [exact ⟨sound h.1, h.2⟩; exact ⟨h.1, sound h.2⟩]
  case second => exact ⟨h.1.map _ (fun _ => rfl) fun _ he => he.age, h.2.map _ (fun _ => rfl) fun _ he => he.age⟩
  case engineReset => exact ⟨tableSound_nil, tableSound_nil⟩
  case slot sl f _ _ => simpa only [State.NetworksSound, State.setSlot_frame] using h
  all_goals exact h

/-- A neighbour table whose entries are changed, addresses and ranges kept. -/
theorem State.NeighboursSound.map {s : State} (h : s.NeighboursSound) (f : NeighbourEntry → NeighbourEntry)
    (addr : ∀ n, (f n).addr = n.addr) (sound : ∀ n, n.Sound → (f n).Sound) :
    (s.withNbt (s.nbt.map f)).NeighboursSound := by
  obtain ⟨hl, hn, he⟩ := h
  refine ⟨by simpa using hl, ?_, ?_⟩
  · rw [State.withNbt_nbt, List.map_map, show NeighbourEntry.addr ∘ f = NeighbourEntry.addr from funext addr]
    exact hn
  · simp only [State.withNbt_nbt, List.forall_mem_map, addr]
    exact fun n m => ⟨sound n (he n m).1, (he n m).2⟩

/-- R134: every effect keeps the neighbour table. -/
theorem Effect.keeps_neighbours {p q : Bool} {k : Nat} {s t : State} (e : Effect p q k s t) (h : s.NeighboursSound) :
    t.NeighboursSound := by
  cases e
  case neighbours ns sound => exact sound h
  case second =>
    refine h.map ageNeighbour (fun _ => rfl) fun n hn => ?_
    obtain ⟨h1, h2, h3, h4, -, h6⟩ := hn
    exact ⟨h1, h2, h3, h4, by simp [ageNeighbour], h6⟩
  case engineReset => exact ⟨by simp [State.engineReset], by simp [State.engineReset], by simp [State.engineReset]⟩
  case slot sl f _ _ => simpa only [State.NeighboursSound, State.own, State.setSlot_frame] using h
  case table sl es _ => cases sl <;> exact h
  all_goals exact h

theorem Lnc.Sound.engineReset {l : Lnc} (h : l.Sound) : l.engineReset.Sound := by
  obtain ⟨-, -, -, -, -, he, hi, -, -, hr⟩ := h
  by_cases ht : l.tx = .sending
  · have held : l.inHand ≠ none := fun hn => by simp [hi.2 hn] at ht
    simpa [Lnc.Sound, Lnc.engineReset, ht, he, held] using hr
  · simpa [Lnc.Sound, Lnc.engineReset, ht, he] using hr

/-- R142, R147, R148, R152: every effect keeps the line sound. -/
theorem Effect.keeps_line {p q : Bool} {k : Nat} {s t : State} (e : Effect p q k s t) (h : s.LineSound) : t.LineSound := by
  cases e
  case line x sound _ => exact sound h
  case engineReset => exact Lnc.Sound.engineReset h
  case slot sl f _ _ => simpa only [State.LineSound, State.setSlot_frame] using h
  case table sl es _ => cases sl <;> exact h
  all_goals exact h

/-- R179: only a reset or a start-up changes the record, the load outcome and the address. -/
theorem Effect.keeps_config {p q : Bool} {k : Nat} {s t : State} (e : Effect p q k s t) :
    t.cfg.record = s.cfg.record ∧ t.cfg.load = s.cfg.load ∧ t.cfg.address = s.cfg.address := by
  cases e
  case slot sl f _ _ => simp
  case table sl es _ => cases sl <;> exact ⟨rfl, rfl, rfl⟩
  all_goals exact ⟨rfl, rfl, rfl⟩

theorem Effect.keeps_own {p q : Bool} {k : Nat} {s t : State} (e : Effect p q k s t) : t.own = s.own := by
  simp only [State.own, e.keeps_config]

/-- R147, R179: every effect leaves an ISOLATED box silent. -/
theorem Effect.keeps_quiet {p q : Bool} {k : Nat} {s t : State} (e : Effect p q k s t) (h : s.IsolatedIsQuiet) :
    t.IsolatedIsQuiet ∧ (s.own = none → t.lnc.sent = s.lnc.sent) := by
  suffices ∀ hi : s.own = none, s.lnc.Quiet → s.adv.timer = .stopped →
      (t.lnc.Quiet ∧ t.adv.timer = .stopped) ∧ t.lnc.sent = s.lnc.sent by
    have quiet (hi : s.own = none) := this hi
      (by obtain ⟨h1, h2, h3, h4, -⟩ := h hi; exact ⟨h1, h2, h3, h4⟩) (by obtain ⟨-, -, -, -, h5⟩ := h hi; exact h5)
    refine ⟨fun ht => ?_, fun hi => (quiet hi).2⟩
    obtain ⟨⟨⟨h1, h2, h3, h4⟩, h5⟩, -⟩ := quiet (e.keeps_own ▸ ht)
    exact ⟨h1, h2, h3, h4, h5⟩
  intro hi hq ha
  cases e
  case line x _ quiet => exact ⟨⟨(quiet hi hq).1, ha⟩, (quiet hi hq).2⟩
  case advert x stops => exact ⟨⟨hq, stops hi ha⟩, rfl⟩
  case engineReset =>
    obtain ⟨h1, h2, h3, h4⟩ := hq
    simp [State.engineReset, Lnc.engineReset, Lnc.Quiet, h2, hi]
  case slot sl f _ _ => simpa only [State.setSlot_frame, and_true] using ⟨hq, ha⟩
  case table sl es _ => cases sl <;> exact ⟨⟨hq, ha⟩, rfl⟩
  all_goals exact ⟨⟨hq, ha⟩, rfl⟩

theorem Steps.keeps_config {p q : Bool} {k : Nat} {s t : State} (h : Steps p q k s t) :
    t.cfg.record = s.cfg.record ∧ t.cfg.load = s.cfg.load ∧ t.cfg.address = s.cfg.address := by
  induction h with
  | refl => exact ⟨rfl, rfl, rfl⟩
  | tail _ e ih => simpa only [ih] using e.keeps_config
  | closed _ _ _ ihb ihi => simpa only [ihb] using ihi
  | closedCall _ _ _ ihb ihi => simpa only [ihb] using ihi

theorem Steps.keeps_quiet {p q : Bool} {k : Nat} {s t : State} (h : Steps p q k s t) (hs : s.IsolatedIsQuiet) :
    t.IsolatedIsQuiet ∧ (s.own = none → t.lnc.sent = s.lnc.sent) := by
  induction h with
  | refl => exact ⟨hs, fun _ => rfl⟩
  | @tail p q j k s t u b e ih =>
    have own : t.own = s.own := by simp only [State.own, b.keeps_config]
    obtain ⟨hq, hsent⟩ := e.keeps_quiet (ih hs).1
    exact ⟨hq, fun hi => (hsent (own.trans hi)).trans ((ih hs).2 hi)⟩
  | @closed p q j k s t u b i _ ihb ihi | @closedCall p q j k s t u b i _ ihb ihi =>
    have own : t.own = s.own := by simp only [State.own, b.keeps_config]
    obtain ⟨hq, hsent⟩ := ihi (ihb hs).1
    exact ⟨hq, fun hi => (hsent (own.trans hi)).trans ((ihb hs).2 hi)⟩

/-- R170, R178, R180: every effect keeps supply, configuration and time base. -/
theorem Effect.keeps_supplyConfigTime {p q : Bool} {k : Nat} {s t : State} (e : Effect p q k s t)
    (h : s.SupplySound ∧ s.ConfigSound ∧ s.TimeSound) : t.SupplySound ∧ t.ConfigSound ∧ t.TimeSound := by
  cases e
  case time at_ due =>
    obtain ⟨hs, hc, ⟨h1, h2, h3, h4⟩⟩ := h
    exact ⟨hs, hc, le_max_of_le_left h1, max_lt h2 due, h3, h4⟩
  case second =>
    obtain ⟨hs, hc, ⟨h1, h2, h3, h4⟩⟩ := h
    refine ⟨hs, hc, le_refl _, Nat.lt_add_of_pos_right (by decide), ?_, ?_⟩
    all_goals simp only [State.countSecond]; omega
  case supply x sound => exact ⟨sound h.1, h.2⟩
  case slot sl f _ _ => simpa only [State.SupplySound, State.ConfigSound, State.TimeSound, State.setSlot_frame] using h
  case table sl es _ => cases sl <;> exact h
  all_goals exact h

/-- R184: the log grew at its head by records that the carries gone from the queue account for, but for `k`. -/
def LogGrows (k : Nat) (s t : State) : Prop :=
  ∃ newer : List LogRecord, newer.length + t.cye.length ≤ s.cye.length + k ∧
    t.svc.log = (newer ++ s.svc.log).take 32

theorem buildList_length (v : State) : (buildList v).length ≤ 12 := List.length_take_le _ _

/-- R38, R183, R184: every effect keeps the lists' bounds, and the log grows at its head alone. -/
theorem Effect.logGrows {p q : Bool} {k : Nat} {s t : State} (e : Effect p q k s t) (h : s.ListsBounded) :
    t.ListsBounded ∧ LogGrows k s t := by
  obtain ⟨hr, hl, hn⟩ := h
  have stands {u : State} {j : Nat} (hc : u.cye.length ≤ s.cye.length + j) (hv : u.svc.log = s.svc.log) :
      LogGrows j s u := ⟨[], by simpa using hc, by rw [hv, List.nil_append, List.take_of_length_le hl]⟩
  cases e
  case routes v => exact ⟨⟨buildList_length v, hl, hn⟩, stands le_rfl rfl⟩
  case nextCallId n => exact ⟨⟨hr, hl, by simp; omega⟩, stands le_rfl rfl⟩
  case carries cs fewer _ => exact ⟨⟨hr, hl, hn⟩, stands fewer rfl⟩
  case acceptance c => exact ⟨⟨hr, hl, hn⟩, stands (by simp) rfl⟩
  case second => exact ⟨⟨hr, hl, hn⟩, stands (by simp [State.countSecond]) rfl⟩
  case engineReset => exact ⟨⟨Nat.zero_le _, hl, hn⟩, stands (Nat.zero_le _) rfl⟩
  case callLog r => exact ⟨⟨hr, List.length_take_le _ _, hn⟩, [r], by simp; omega, rfl⟩
  case carryLog r id held =>
    refine ⟨⟨hr, List.length_take_le _ _, hn⟩, [r], ?_, rfl⟩
    obtain ⟨c, hc, rfl⟩ := held
    have lost : (s.cye.filter fun d => d.id != c.id).length < s.cye.length :=
      List.length_filter_lt_length_iff_exists.2 ⟨c, hc, by simp⟩
    simp only [List.length_singleton, State.withCye_cye]
    omega
  case slot sl f _ _ => exact ⟨by simpa [State.ListsBounded] using ⟨hr, hl, hn⟩, stands (by simp) (by simp)⟩
  case table sl es _ => exact ⟨by simpa [State.ListsBounded] using ⟨hr, hl, hn⟩, stands (by simp) (by simp)⟩
  all_goals exact ⟨⟨hr, hl, hn⟩, stands le_rfl rfl⟩

theorem LogGrows.trans {j k : Nat} {s t u : State} (h : LogGrows j s t) (g : LogGrows k t u) : LogGrows (j + k) s u := by
  obtain ⟨xs, hx, ex⟩ := h
  obtain ⟨ys, hy, ey⟩ := g
  refine ⟨ys ++ xs, by rw [List.length_append]; omega, ?_⟩
  rw [ey, ex, List.append_assoc, List.take_append, List.take_take, min_eq_left (Nat.sub_le ..), ← List.take_append]

theorem Steps.logGrows {p q : Bool} {k : Nat} {s t : State} (h : Steps p q k s t) (hs : s.ListsBounded) :
    t.ListsBounded ∧ LogGrows k s t := by
  induction h with
  | refl p k s => exact ⟨hs, [], by simp, by rw [List.nil_append, List.take_of_length_le hs.2.1]⟩
  | tail _ e ih =>
    obtain ⟨ht, hg⟩ := ih hs
    exact ⟨(e.logGrows ht).1, hg.trans (e.logGrows ht).2⟩
  | closed _ _ _ ihb ihi | closedCall _ _ _ ihb ihi =>
    obtain ⟨ht, hg⟩ := ihb hs
    exact ⟨(ihi ht).1, hg.trans (ihi ht).2⟩

end Sys2Proof.Machine
end

section
/-! What the writes of a line, a table and a neighbour table keep: R142 to R152 of the transmit queue and the transmitter,
R46 to R61 of a network table, R134 to R141 of the neighbour table, R43 and R44 of a quality counter. -/

namespace Sys2Proof.Machine

/-! ### The transmit queue (R147) -/

theorem dropFirst_sublist (p : TxFrame → Bool) (q : List TxFrame) : (dropFirst p q).Sublist q := by
  induction q with
  | nil => exact List.Sublist.refl _
  | cons f q ih =>
    rw [dropFirst]
    split
    · exact List.sublist_cons_self f q
    · exact ih.cons_cons f

theorem dropFirst_length {p : TxFrame → Bool} {q : List TxFrame} (h : q.any p = true) :
    (dropFirst p q).length + 1 = q.length := by
  induction q with
  | nil => simp at h
  | cons f q ih =>
    rw [dropFirst]
    split <;> rename_i hf
    · rfl
    · simp only [List.length_cons, ih (by simpa [hf] using h)]

theorem dropFirst_countP {p : TxFrame → Bool} {q : List TxFrame} (h : q.any p = true) :
    (dropFirst p q).countP p + 1 = q.countP p := by
  induction q with
  | nil => simp at h
  | cons f q ih =>
    rw [dropFirst]
    split <;> rename_i hf
    · simp [hf]
    · simp [hf, ih (by simpa [hf] using h)]

/-- R142, R147: the bounds of the transmit queue. -/
def QueueFits (q : List TxFrame) : Prop :=
  q.length ≤ 8 ∧ q.countP (isClass .reach) ≤ 1 ∧ ∀ f ∈ q, f.frameClass ≠ .unsent

theorem QueueFits.sublist {q r : List TxFrame} (h : QueueFits q) (hr : r.Sublist q) : QueueFits r :=
  ⟨hr.length_le.trans h.1, hr.countP_le.trans h.2.1, fun f hf => h.2.2 f (hr.subset hf)⟩

/-- A frame that is no second REACH may be put at the end of a queue with room. -/
theorem QueueFits.append {q : List TxFrame} {f : TxFrame} (h : QueueFits q) (room : q.length < 8)
    (hf : f.frameClass ≠ .unsent) (hr : f.frameClass = .reach → q.countP (isClass .reach) = 0) :
    QueueFits (q ++ [f]) := by
  obtain ⟨hl, hc, hs⟩ := h
  refine ⟨by simp; omega, ?_, ?_⟩
  · by_cases hk : f.frameClass = .reach
    · simp [hr hk, hk]
    · simpa [hk] using hc
  · simp only [List.mem_append, List.mem_singleton]
    rintro g (hg | rfl)
    · exact hs g hg
    · exact hf

/-- A frame takes the place of the first one of a class; a REACH only that of the queued one. -/
theorem QueueFits.replace {q : List TxFrame} {f : TxFrame} {c : FrameClass} (h : QueueFits q)
    (held : q.any (isClass c) = true) (hf : f.frameClass ≠ .unsent) (hr : f.frameClass = .reach → c = .reach) :
    QueueFits (dropFirst (isClass c) q ++ [f]) := by
  refine (h.sublist (dropFirst_sublist _ q)).append ?_ hf fun hk => ?_
  · have := dropFirst_length held
    have := h.1
    omega
  · obtain rfl := hr hk
    have := dropFirst_countP held
    have := h.2.1
    omega

/-- R147: a frame handed to LNC keeps the queue's bounds. -/
theorem enqueue_fits {q : List TxFrame} (h : QueueFits q) (f : TxFrame) : QueueFits (enqueue q f) := by
  unfold enqueue
  cases hf : f.frameClass <;> dsimp only
  case reach =>
    split_ifs with held room
    · exact h.replace held (by simp [hf]) fun _ => rfl
    · refine h.append room (by simp [hf]) fun _ => ?_
      rw [List.countP_eq_zero]
      simpa using held
    · exact h
  case tool =>
    split_ifs with room
    · exact h.append room (by simp [hf]) (by simp [hf])
    · exact h
  case unsent => exact h
  all_goals
    split_ifs with room tool reach
    · exact h.append room (by simp [hf]) (by simp [hf])
    · exact h.replace tool (by simp [hf]) (by simp [hf])
    · exact h.replace reach (by simp [hf]) (by simp [hf])
    · exact h

/-! ### The transmitter (R148 to R151) -/

/-- R149: an IDLE transmitter with no frame in hand, whatever is queued. -/
def Lnc.Ready (l : Lnc) : Prop :=
  QueueFits l.queue ∧ l.turn ≤ 4 ∧ l.errors ≤ 65535 ∧ l.tx = .idle ∧ l.inHand = none ∧ l.backoff = none ∧
  l.collisions ≤ 7 ∧ l.rng ≠ 0

/-- R148, R149: the take leaves a sound line. -/
theorem Lnc.Ready.takeFrame {l : Lnc} (h : l.Ready) : l.takeFrame.Sound := by
  obtain ⟨hq, ht, he, hi, hh, hb, hc, hr⟩ := h
  unfold Lnc.takeFrame
  rw [if_pos hi]
  cases hn : nextClass l.queue l.turn with
  | none =>
    have empty : l.queue = [] := by
      by_contra hne
      obtain ⟨c, e⟩ := exists_nextClass (turn := l.turn) hne hq.2.2
      simp [e] at hn
    simpa [Lnc.Sound, empty, ht, he, hi, hh, hb, hc] using hr
  | some c =>
    obtain ⟨f, hf, hfc⟩ := nextClass_held hn
    have found : l.queue.find? (isClass c) ≠ none := fun e => List.find?_eq_none.1 e f hf (isClass_iff.2 hfc)
    obtain ⟨h1, h2, h3⟩ := hq.sublist (dropFirst_sublist (isClass c) l.queue)
    have turn : turnAfter l.queue l.turn c ≤ 4 := by
      rw [turnAfter_eq]
      split_ifs with hp
      · obtain ⟨hcls, hreach⟩ := hp
        by_contra hgt
        have := nextClass_reachTurn (turn := l.turn) (by omega) hreach
        rw [hn] at this
        simp_all
      · exact Nat.zero_le _
    exact ⟨h1, h2, h3, Nat.zero_le _, turn, he, by simpa using found, by simp, by simp [hb], hr⟩

theorem Lnc.Sound.ready {l : Lnc} (h : l.Sound) (hi : l.tx = .idle) : l.Ready := by
  obtain ⟨h1, h2, h3, hc, ht, he, hh, -, hb, hr⟩ := h
  exact ⟨⟨h1, h2, h3⟩, ht, he, hi, hh.1 hi, by simpa [hi] using hb, hc, hr⟩

/-- R149, R151: the transmitter that is done with its frame. -/
theorem Lnc.Sound.finishFrame {l : Lnc} (h : l.Sound) (hs : l.tx = .sending) : l.finishFrame.Sound := by
  obtain ⟨h1, h2, h3, -, ht, he, -, -, hb, hr⟩ := h
  exact Lnc.Ready.takeFrame ⟨⟨h1, h2, h3⟩, ht, he, rfl, rfl, by simpa [hs] using hb, Nat.zero_le _, hr⟩

/-- R149: from one transmitter state with a frame in hand to another; the backoff timer belongs to BACKOFF. -/
theorem Lnc.Sound.withTx {l : Lnc} (h : l.Sound) {st : TxState} {b : Option Nat} {c n : Nat} (ht : l.tx ≠ .idle)
    (hst : st ≠ .idle) (hb : b.isSome = true ↔ st = .backoff) (hc : c ≤ 7) :
    Lnc.Sound { l with tx := st, backoff := b, collisions := c, lastActive := n } := by
  obtain ⟨h1, h2, h3, -, h5, h6, h7, -, -, hr⟩ := h
  exact ⟨h1, h2, h3, hc, h5, h6, by simpa [hst, ht] using h7, by simp [hst], hb, hr⟩

/-- R147, R149: a frame handed to LNC keeps the line sound. -/
theorem hand_sound {s : State} (h : s.lnc.Sound) (d : Nat) (b : Body) : (s.hand d b).lnc.Sound := by
  rw [hand_lnc]
  cases s.own with
  | none => exact h
  | some n =>
    dsimp only
    obtain ⟨h1, h2, h3, hc, ht, he, hh, -, hb, hr⟩ := id h
    have fits : QueueFits (enqueue s.lnc.queue ⟨d, b⟩) := enqueue_fits ⟨h1, h2, h3⟩ _
    split <;> rename_i hi
    · have taken : (Lnc.takeFrame { s.lnc with queue := enqueue s.lnc.queue ⟨d, b⟩ }).Sound :=
        Lnc.Ready.takeFrame ⟨fits, ht, he, hi, hh.1 hi, by simpa [hi] using hb, hc, hr⟩
      rw [State.sendIfQuiet_lnc]
      split <;> rename_i hg
      · obtain ⟨gap, -⟩ := hg
        rw [State.withLnc_lnc] at gap ⊢
        have noBackoff := taken.2.2.2.2.2.2.2.2.1
        exact taken.withTx (by simp [gap]) (by simp) (by simpa [gap] using noBackoff) taken.2.2.2.1
      · exact taken
    · exact ⟨fits.1, fits.2.1, fits.2.2, hc, ht, he, hh, fun e => absurd e hi, hb, hr⟩

/-- R152: the generator never comes to 0. -/
theorem rngStep_ne_zero {r : Word16} (h : r ≠ 0) : rngStep r ≠ 0 := by
  intro e
  have bit (i : Nat) : (rngStep r).getLsbD i = false := by rw [e]; exact BitVec.getLsbD_zero
  have low (i : Nat) (hi : i < 15) : r.getLsbD i = false := by
    have shifted := bit (i + 1)
    simp only [rngStep, BitVec.getLsbD_or, BitVec.getLsbD_shiftLeft, Bool.or_eq_false_iff] at shifted
    simpa [show i + 1 < 16 by omega] using shifted.1
  have top : r.getLsbD 15 = false := by
    have fed := bit 0
    simp only [rngStep, low 13 (by decide), low 12 (by decide), low 10 (by decide), Bool.xor_false] at fed
    cases hr : r.getLsbD 15
    · rfl
    · simp [hr] at fed
  refine h (BitVec.eq_of_getLsbD_eq fun i hi => ?_)
  show r.getLsbD i = (0#16).getLsbD i
  rw [BitVec.getLsbD_zero]
  rcases Nat.lt_or_ge i 15 with hlt | hge
  · exact low i hlt
  · rw [show i = 15 by omega, top]

/-! ### Quality counters (R43, R44) -/

theorem Quality.Sound.change {q : Quality} (h : q.Sound) (now : Nat) {value : Nat} (hv : value ≤ 15) :
    (q.change now value).Sound := by
  unfold Quality.change
  split
  · exact h
  · refine ⟨hv, ?_⟩
    by_cases h0 : value = 0 <;> simp [h0]

theorem Quality.Sound.reported {q : Quality} (h : q.Sound) (now : Nat) {value : Nat} (hv : value ≤ 15) :
    (q.reported now value).Sound := by
  unfold Quality.reported
  split <;> rename_i hd
  · obtain ⟨due, h0⟩ := hd
    refine ⟨hv, iff_of_true ?_ h0⟩
    cases hq : q.decay <;> simp [Quality.isDue, hq] at due ⊢
  · exact h.change now hv

theorem Quality.Sound.report {q : Quality} (h : q.Sound) (now : Nat) (r : Report) : (q.report now r).Sound := by
  have bound := h.1
  cases r
  · exact h.reported now (Nat.min_le_left ..)
  · exact h.reported now (by omega)
  · exact h

theorem Quality.Sound.decayed {q : Quality} (h : q.Sound) (now : Nat) : (q.decayed now).Sound :=
  h.change now (Nat.sub_le_of_le_add (h.1.trans (Nat.le_add_right ..)))

theorem freshQuality_sound : freshQuality.Sound := ⟨by decide, by decide⟩

/-! ### A network table (R46 to R54) -/

theorem tableSound.update {es : List NetEntry} (h : tableSound es) (code : Nat) (f : NetEntry → NetEntry)
    (hc : ∀ e, (f e).code = e.code) (hs : ∀ e, e.Sound → (f e).Sound) : tableSound (updateEntry code f es) := by
  refine h.map _ (fun e => ?_) fun e he => ?_
  · split
    · exact hc e
    · rfl
  · split
    · exact hs e he
    · exact he

theorem tableSound.filter {es : List NetEntry} (h : tableSound es) (p : NetEntry → Bool) : tableSound (es.filter p) :=
  ⟨(List.length_filter_le ..).trans h.1, h.2.1.sublist (List.filter_sublist.map _), fun e he => h.2.2 e (List.mem_of_mem_filter he)⟩

/-- R48: the ranges of an item that is kept. -/
def GoodItem.Sound (i : GoodItem) : Prop := isNetworkCode i.code = true ∧ ∀ l ∈ i.level, l ≤ 31

theorem goodItems_sound (is : List NetItem) (seen : List Nat) : ∀ i ∈ goodItems seen is, i.Sound := by
  induction is generalizing seen with
  | nil => simp [goodItems]
  | cons i is ih =>
    rw [goodItems]
    split
    · split <;> rename_i hk
      · rw [List.forall_mem_cons]
        refine ⟨⟨(Bool.and_eq_true _ _ ▸ hk).1, fun l hl => ?_⟩, ih _⟩
        obtain ⟨m, -, rfl⟩ := Option.map_eq_some_iff.1 hl
        exact Nat.min_le_right ..
      · exact ih _
    · exact ih _

theorem entryOf_sound {i : GoodItem} (h : i.Sound) : (entryOf i).Sound :=
  ⟨h.1, h.2, Nat.zero_le _, freshQuality_sound⟩

theorem findEntry_eq_none {es : List NetEntry} {code : Nat} : findEntry es code = none ↔ ∀ e ∈ es, e.code ≠ code := by
  simp [findEntry, List.find?_eq_none]

theorem tableSound.append {es : List NetEntry} (h : tableSound es) {e : NetEntry} (room : es.length < 8)
    (new : ∀ d ∈ es, d.code ≠ e.code) (he : e.Sound) : tableSound (es ++ [e]) := by
  refine ⟨by simp; omega, ?_, ?_⟩
  · rw [List.map_append, List.nodup_append]
    exact ⟨h.2.1, by simp, by simpa using new⟩
  · simpa [or_imp, forall_and] using ⟨h.2.2, he⟩

theorem pickReplaced_mem {es : List NetEntry} {d : NetEntry} (h : pickReplaced es = some d) : d ∈ es := by
  induction es generalizing d with
  | nil => simp [pickReplaced] at h
  | cons e es ih =>
    rw [pickReplaced] at h
    split at h <;> rename_i hp
    · split at h <;> cases h
      · simp
      · exact List.mem_cons_of_mem _ (ih hp)
    · cases h
      simp

/-- R48 to R51: one kept item of a NETS keeps the table sound. -/
theorem tableSound.takeItem {es : List NetEntry} (h : tableSound es) (touched : List Nat) {i : GoodItem} (hi : i.Sound) :
    tableSound (takeItem touched i es) := by
  unfold Machine.takeItem
  split <;> rename_i hf
  · exact h.update _ _ (fun _ => rfl) fun e he => ⟨he.1, hi.2, Nat.zero_le _, he.2.2.2⟩
  · have new := findEntry_eq_none.1 hf
    split <;> rename_i room
    · exact h.append room new (entryOf_sound hi)
    · split <;> rename_i hp
      · have mem := List.mem_of_mem_filter (pickReplaced_mem hp)
        refine (h.filter _).append ?_ (fun e he => new e (List.mem_of_mem_filter he)) (entryOf_sound hi)
        exact (List.length_filter_lt_length_iff_exists.2 ⟨_, mem, by simp⟩).trans_le h.1
      · exact h

theorem tableSound.takeItems {is : List GoodItem} {es : List NetEntry} (h : tableSound es) (touched : List Nat)
    (hi : ∀ i ∈ is, i.Sound) : tableSound (takeItems touched is es) := by
  induction is generalizing es touched with
  | nil => exact h
  | cons i is ih =>
    obtain ⟨hi, his⟩ := List.forall_mem_cons.1 hi
    exact ih (h.takeItem touched hi) _ his

/-! ### The neighbour table (R134 to R138) -/

/-- R135: the ranges of an advert's fields as NBT takes them. -/
theorem readItems_sound {n : Nat} {bytes : List Byte} {items : List ReachItem} (h : readItems n bytes = some items) :
    items.length ≤ n ∧ ∀ i ∈ items, isNetworkCode i.code = true ∧ i.level ≤ 31 ∧ i.q ≤ 15 := by
  induction n, bytes using readItems.induct generalizing items with
  | case1 => simp_all [readItems]
  | case2 n x y z t l q rest ih =>
    rw [readItems, Option.map_eq_some_iff] at h
    obtain ⟨more, hm, rfl⟩ := h
    obtain ⟨hl, hb⟩ := ih hm
    split <;> rename_i hk
    · exact ⟨by simpa using hl, List.forall_mem_cons.2 ⟨⟨hk, Nat.min_le_right .., Nat.min_le_right ..⟩, hb⟩⟩
    · exact ⟨hl.trans (Nat.le_succ n), hb⟩
  | case3 => simp_all [readItems]

theorem readReach_fits {payload : List Byte} {r : ReachAdvert} (h : readReach payload = some r) : r.Fits := by
  unfold readReach at h
  split at h
  · split at h <;> rename_i hn
    · rw [Option.map_eq_some_iff] at h
      obtain ⟨items, hi, rfl⟩ := h
      obtain ⟨hl, hb⟩ := readItems_sound hi
      exact ⟨by bv_omega, Nat.min_le_right .., hl.trans hn, hb⟩
    · cases h
  · cases h

theorem NeighbourEntry.Sound.takeReach {n : NeighbourEntry} (h : n.Sound) {r : ReachAdvert} (hr : r.Fits) :
    (takeReach r n).Sound := by
  obtain ⟨h1, h2, -, -, -, -, -, hq⟩ := h
  obtain ⟨r1, r2, r3, r4⟩ := hr
  exact ⟨h1, h2, r2, r1, Nat.zero_le _, r3, r4, hq⟩

theorem updateNeighbour_sound {s : State} (h : s.NeighboursSound) (addr : Nat) (f : NeighbourEntry → NeighbourEntry)
    (ha : ∀ n, (f n).addr = n.addr) (hs : ∀ n, n.Sound → (f n).Sound) :
    (s.withNbt (updateNeighbour addr f s.nbt)).NeighboursSound := by
  refine h.map _ (fun n => ?_) fun n hn => ?_
  · split
    · exact ha n
    · rfl
  · split
    · exact hs n hn
    · exact hn

theorem filterNeighbours_sound {s : State} (h : s.NeighboursSound) (p : NeighbourEntry → Bool) :
    (s.withNbt (s.nbt.filter p)).NeighboursSound :=
  ⟨(List.length_filter_le ..).trans h.1, h.2.1.sublist (List.filter_sublist.map _), fun e he => h.2.2 e (List.mem_of_mem_filter he)⟩

theorem appendNeighbour_sound {s : State} {ns : List NeighbourEntry} (h : (s.withNbt ns).NeighboursSound)
    {n : NeighbourEntry} (room : ns.length < 16) (new : ∀ m ∈ ns, m.addr ≠ n.addr) (hn : n.Sound)
    (own : s.own ≠ some n.addr) : (s.withNbt (ns ++ [n])).NeighboursSound := by
  obtain ⟨-, hd, he⟩ := h
  refine ⟨by simp; omega, ?_, ?_⟩
  · rw [State.withNbt_nbt, List.map_append, List.nodup_append]
    exact ⟨hd, by simp, by simpa using new⟩
  · simpa only [State.withNbt_nbt, List.forall_mem_append, List.forall_mem_singleton] using ⟨he, hn, own⟩

theorem oldestIn_mem {st : NeighbourState} {ns : List NeighbourEntry} {d : NeighbourEntry}
    (h : oldestIn st ns = some d) : d ∈ ns ∧ d.state = st := by
  induction ns generalizing d with
  | nil => simp [oldestIn] at h
  | cons n ns ih =>
    rw [oldestIn] at h
    split at h <;> rename_i ho <;> split at h <;> rename_i hn <;> cases h
    · exact ⟨List.mem_cons_self .., hn.1⟩
    · exact ⟨List.mem_cons_of_mem _ (ih ho).1, (ih ho).2⟩
    · exact ⟨List.mem_cons_self .., hn⟩

theorem replacedNeighbour_mem {ns : List NeighbourEntry} {d : NeighbourEntry} (h : replacedNeighbour ns = some d) :
    d ∈ ns := by
  unfold replacedNeighbour at h
  split at h <;> rename_i ho
  · cases h
    exact (oldestIn_mem ho).1
  · exact (oldestIn_mem h).1

/-- R136, R137: a REACH of another box keeps the neighbour table sound. -/
theorem neighboursAfter_sound {s : State} (h : s.NeighboursSound) {src : Nat} (action : PeerAction) {r : ReachAdvert}
    (hr : r.Fits) (h1 : 1 ≤ src) (h2 : src ≤ 62) (own : s.own ≠ some src) :
    (s.withNbt (neighboursAfter s.nbt src action r)).NeighboursSound := by
  obtain ⟨r1, r2, r3, r4⟩ := id hr
  have made : (neighbourOf src action r).Sound := ⟨h1, h2, r2, r1, Nat.zero_le _, r3, r4, freshQuality_sound⟩
  unfold neighboursAfter
  split_ifs with known room
  · exact updateNeighbour_sound h src _ (fun _ => rfl) fun n hn => hn.takeReach hr
  · exact appendNeighbour_sound h room (by simpa [neighbourOf] using known) made own
  · cases hp : replacedNeighbour s.nbt with
    | none => exact h
    | some d =>
      refine appendNeighbour_sound (filterNeighbours_sound h _) ?_ ?_ made own
      · exact (List.length_filter_lt_length_iff_exists.2 ⟨d, replacedNeighbour_mem hp, by simp⟩).trans_le h.1
      · intro m hm
        simp only [List.any_eq_true, beq_iff_eq, not_exists, not_and] at known
        exact known m (List.mem_of_mem_filter hm)

/-- R135: a REACH frame of another box, whatever its payload. -/
theorem takeReachFrame_sound {s : State} (h : s.NeighboursSound) (src : Nat) (payload : List Byte)
    (own : s.own ≠ some src) : (s.takeReachFrame src payload).NeighboursSound := by
  unfold State.takeReachFrame
  split <;> rename_i hs
  · split
    · exact h
    all_goals
      split <;> rename_i hr
      · exact neighboursAfter_sound h _ (readReach_fits hr) hs.1 hs.2 own
      · exact h
  · exact h

end Sys2Proof.Machine
end

section
/-! What the operations on carries leave of the agreement between the carry queue, the trunk map and the slots
(R89, R93, R98, R108, R112). -/

namespace Sys2Proof.Machine

/-! ### Carry records found and changed -/

theorem updateCarry_map {β : Type} (g : CarryRec → β) {id : CarryId} {f : CarryRec → CarryRec} (h : ∀ c, g (f c) = g c)
    (cs : List CarryRec) : (updateCarry id f cs).map g = cs.map g := by
  rw [updateCarry, List.map_map]
  refine List.map_congr_left fun c _ => ?_
  dsimp only [Function.comp]
  split <;> simp [h]

/-- What the trunk map tells of a carry record. -/
def CarryRec.held (c : CarryRec) : CarryId × Trunk := (c.id, c.trunk)

theorem arbiter_held (s : State) (sl : Slot) : (s.arbiter sl).cye.map CarryRec.held = s.cye.map CarryRec.held := by
  unfold State.arbiter
  repeat' split
  case _ => simp
  case _ => simp
  case _ c _ =>
    rw [State.grantCarry, State.setCarry, State.withCye_cye, updateCarry_map]
    · simp
    · intro _
      rfl
  all_goals simp

theorem release_held (s : State) (sl : Slot) (h : Holder) :
    (s.release sl h).cye.map CarryRec.held = s.cye.map CarryRec.held := by
  unfold State.release
  repeat' split
  all_goals simp [arbiter_held]

theorem giveUpSlot_held (s : State) (c : CarryRec) : (s.giveUpSlot c).cye.map CarryRec.held = s.cye.map CarryRec.held := by
  unfold State.giveUpSlot
  split
  · simp
  · exact release_held ..

theorem ids_of_held {cs ds : List CarryRec} (h : cs.map CarryRec.held = ds.map CarryRec.held) :
    cs.map CarryRec.id = ds.map CarryRec.id := by
  have e (l : List CarryRec) : l.map CarryRec.id = (l.map CarryRec.held).map Prod.fst := by simp [CarryRec.held]
  rw [e, e, h]

theorem held_of_view {cs ds : List CarryRec} (h : cs.map CarryRec.view = ds.map CarryRec.view) :
    cs.map CarryRec.held = ds.map CarryRec.held := by
  have e (l : List CarryRec) : l.map CarryRec.held = (l.map CarryRec.view).map fun v => (v.1, v.2.2.1) := by
    simp [CarryRec.held, CarryRec.view]
  rw [e, e, h]

/-- A carry record is in the queue under an identity. -/
theorem exists_id_iff {cs : List CarryRec} {id : CarryId} : (∃ c ∈ cs, c.id = id) ↔ id ∈ cs.map CarryRec.id := by
  simp

theorem findCarry_some {cs : List CarryRec} {id : CarryId} {c : CarryRec} (h : findCarry cs id = some c) :
    c ∈ cs ∧ c.id = id := ⟨List.mem_of_find?_eq_some h, by simpa using List.find?_some h⟩

theorem findCarry_none {cs : List CarryRec} {id : CarryId} (h : findCarry cs id = none) : id ∉ cs.map CarryRec.id := by
  simpa [findCarry] using h

theorem State.QueueSound.unique {s : State} (h : s.QueueSound) {c d : CarryRec} (hc : c ∈ s.cye) (hd : d ∈ s.cye)
    (e : c.id = d.id) : c = d := List.inj_on_of_nodup_map h.2 hc hd e

/-! ### States that tell of the same carries -/

theorem SlotRec.SameCarries.rfl {r : SlotRec} : r.SameCarries r := ⟨Eq.refl _, fun _ => Iff.rfl⟩

theorem SlotRec.SameCarries.of_eq {r r' : SlotRec} (h : r' = r) : r.SameCarries r' := h ▸ .rfl

/-- A holder that is no carry is replaced by another. -/
theorem SlotRec.SameCarries.of_grant {r r' : SlotRec} (waits : r'.waitingCarry = r.waitingCarry)
    (before : r.grant.isCarry = false) (after : r'.grant.isCarry = false) : r.SameCarries r' :=
  ⟨waits, fun id => ⟨fun e => by simp [e, Holder.isCarry] at after, fun e => by simp [e, Holder.isCarry] at before⟩⟩

theorem setSlot_sameCarries {s : State} {sl : Slot} {f : SlotRec → SlotRec}
    (same : (s.slot sl).SameCarries (f (s.slot sl))) (k : Slot) :
    (s.slot k).SameCarries ((s.setSlot sl f).slot k) := by
  by_cases h : k = sl
  · subst h
    rw [State.setSlot_slot, settleIdle_eq]
    exact same
  · obtain rfl : k = otherSlot sl := by cases k <;> cases sl <;> simp_all [otherSlot]
    rw [State.setSlot_otherSlot]
    exact .rfl

theorem State.QueueSound.congr {s t : State} (h : s.QueueSound) (held : t.cye.map CarryRec.held = s.cye.map CarryRec.held) :
    t.QueueSound := by
  have len : t.cye.length = s.cye.length := by simpa using congrArg List.length held
  exact ⟨len ▸ h.1, ids_of_held held ▸ h.2⟩

theorem State.TrunksAgree.congr {s t : State} (h : s.TrunksAgree)
    (held : t.cye.map CarryRec.held = s.cye.map CarryRec.held) (trunks : t.tkm = s.tkm) : t.TrunksAgree := by
  have mem (v : CarryId × Trunk) : (∃ c ∈ t.cye, c.held = v) ↔ ∃ c ∈ s.cye, c.held = v := by
    rw [← List.mem_map, held, List.mem_map]
  obtain ⟨h1, h2⟩ := h
  rw [State.TrunksAgree, trunks]
  refine ⟨fun c hc => ?_, fun tr id ho => ?_⟩
  · obtain ⟨d, hd, e⟩ := (mem c.held).1 ⟨c, hc, rfl⟩
    obtain ⟨e1, e2⟩ := Prod.ext_iff.1 e
    exact (show c.trunk = d.trunk from e2.symm) ▸ (show c.id = d.id from e1.symm) ▸ h1 d hd
  · obtain ⟨c, hc, rfl, rfl⟩ := h2 tr id ho
    obtain ⟨d, hd, e⟩ := (mem c.held).2 ⟨c, hc, rfl⟩
    obtain ⟨e1, e2⟩ := Prod.ext_iff.1 e
    exact ⟨d, hd, e1, e2⟩

/-- What the slots tell of a carry record. -/
def CarryRec.bound (c : CarryRec) : CarryId × Slot × Bool := (c.id, c.slot, c.state = .queued)

theorem bound_of_view {cs ds : List CarryRec} (h : cs.map CarryRec.view = ds.map CarryRec.view) :
    cs.map CarryRec.bound = ds.map CarryRec.bound := by
  have e (l : List CarryRec) : l.map CarryRec.bound = (l.map CarryRec.view).map fun v => (v.1, v.2.1, v.2.2.2) := by
    simp [CarryRec.bound, CarryRec.view]
  rw [e, e, h]

theorem State.ClaimsBut.congr {s t : State} {off : CarryId → Prop} (h : s.ClaimsBut off)
    (bound : t.cye.map CarryRec.bound = s.cye.map CarryRec.bound) (slots : ∀ k, (s.slot k).SameCarries (t.slot k)) :
    t.ClaimsBut off := by
  intro sl id
  have mem (q : Bool) : (∃ c ∈ t.cye, c.id = id ∧ c.slot = sl ∧ decide (c.state = .queued) = q) ↔
      ∃ c ∈ s.cye, c.id = id ∧ c.slot = sl ∧ decide (c.state = .queued) = q := by
    have e (cs : List CarryRec) : (∃ c ∈ cs, c.id = id ∧ c.slot = sl ∧ decide (c.state = .queued) = q) ↔
        ∃ v ∈ cs.map CarryRec.bound, v.1 = id ∧ v.2.1 = sl ∧ v.2.2 = q := by simp [CarryRec.bound]
    rw [e, e, bound]
  have waits := mem true
  have holds := mem false
  simp only [decide_eq_true_eq, decide_eq_false_iff_not] at waits holds
  rw [waits, holds, (slots sl).1, (slots sl).2]
  exact h sl id

theorem State.CarriesBut.congr {s t : State} {off : CarryId → Prop} (h : s.CarriesBut off)
    (views : t.cye.map CarryRec.view = s.cye.map CarryRec.view) (trunks : t.tkm = s.tkm)
    (slots : ∀ k, (s.slot k).SameCarries (t.slot k)) : t.CarriesBut off :=
  ⟨h.1.congr (held_of_view views), h.2.1.congr (held_of_view views) trunks, h.2.2.congr (bound_of_view views) slots⟩

/-- A record that is not in the queue may be among `off` or not. -/
theorem State.ClaimsBut.off_congr {s : State} {off off' : CarryId → Prop} (h : s.ClaimsBut off)
    (same : ∀ c ∈ s.cye, off c.id ↔ off' c.id) : s.ClaimsBut off' := by
  have e (p : CarryRec → Prop) (id : CarryId) : (¬ off id ∧ ∃ c ∈ s.cye, c.id = id ∧ p c) ↔
      ¬ off' id ∧ ∃ c ∈ s.cye, c.id = id ∧ p c := by
    constructor
    · rintro ⟨ho, c, hc, rfl, hp⟩
      exact ⟨fun h => ho ((same c hc).2 h), c, hc, rfl, hp⟩
    · rintro ⟨ho, c, hc, rfl, hp⟩
      exact ⟨fun h => ho ((same c hc).1 h), c, hc, rfl, hp⟩
  exact fun sl id => ⟨(h sl id).1.trans (e _ id), (h sl id).2.trans (e _ id)⟩

namespace Calm

variable {s t u : State}

theorem rfl : Calm s s := ⟨fun _ h => h, fun _ h => h⟩

theorem trans (h : Calm s t) (g : Calm t u) : Calm s u := ⟨fun off hs => g.1 off (h.1 off hs), fun id hi => h.2 id (g.2 id hi)⟩

theorem congr (views : t.cye.map CarryRec.view = s.cye.map CarryRec.view) (trunks : t.tkm = s.tkm)
    (slots : ∀ k, (s.slot k).SameCarries (t.slot k)) : Calm s t :=
  ⟨fun _ h => h.congr views trunks slots, fun _ h => ids_of_held (held_of_view views) ▸ h⟩

theorem of_eq (cye : t.cye = s.cye) (trunks : t.tkm = s.tkm) (slots : t.slc = s.slc) : Calm s t :=
  congr (cye ▸ Eq.refl _) trunks fun k => .of_eq (slot_of_slc slots k)

theorem setSlot (s : State) {sl : Slot} {f : SlotRec → SlotRec} (same : (s.slot sl).SameCarries (f (s.slot sl))) :
    Calm s (s.setSlot sl f) := congr (by simp) (by simp) (setSlot_sameCarries same)

end Calm

/-! ### The arbiter's grant (R69, R98) -/

theorem requestDial_sameCarries (s : State) (sl k : Slot) (x : Holder) (code : Nat) :
    (s.slot k).SameCarries ((s.requestDial sl x code).slot k) := by
  unfold State.requestDial
  split
  · exact setSlot_sameCarries ⟨Eq.refl _, fun _ => Iff.rfl⟩ k
  · exact .rfl

/-- A carry record that is QUEUED at a slot, and one that is past it there. -/
def State.Queued (s : State) (sl : Slot) (id : CarryId) : Prop := ∃ c ∈ s.cye, c.id = id ∧ c.slot = sl ∧ c.state = .queued
def State.Holding (s : State) (sl : Slot) (id : CarryId) : Prop := ∃ c ∈ s.cye, c.id = id ∧ c.slot = sl ∧ c.state ≠ .queued

theorem State.QueueSound.queued_iff {s : State} (h : s.QueueSound) {c : CarryRec} (hc : c ∈ s.cye) (sl : Slot) :
    s.Queued sl c.id ↔ c.slot = sl ∧ c.state = .queued :=
  ⟨fun ⟨_, hd, e, hp⟩ => h.unique hd hc e ▸ hp, fun hp => ⟨c, hc, rfl, hp⟩⟩

theorem State.QueueSound.holding_iff {s : State} (h : s.QueueSound) {c : CarryRec} (hc : c ∈ s.cye) (sl : Slot) :
    s.Holding sl c.id ↔ c.slot = sl ∧ c.state ≠ .queued :=
  ⟨fun ⟨_, hd, e, hp⟩ => h.unique hd hc e ▸ hp, fun hp => ⟨c, hc, rfl, hp⟩⟩

theorem slot_ne {sl k : Slot} (h : k ≠ sl) : k = otherSlot sl := by cases k <;> cases sl <;> simp_all [otherSlot]

/-- A slot written, the other as it was. -/
theorem setSlot_slot_of_ne (s : State) {sl k : Slot} (f : SlotRec → SlotRec) (h : k ≠ sl) :
    (s.setSlot sl f).slot k = s.slot k := by rw [slot_ne h, State.setSlot_otherSlot]

/-- R98: the record granted leaves the QUEUED for the holders. -/
theorem setCarry_dialling (s : State) (id : CarryId) (f : CarryRec → CarryRec) (sl : Slot) (i : CarryId)
    (keeps : ∀ c, (f c).id = c.id ∧ (f c).slot = c.slot ∧ (f c).state ≠ .queued) :
    ((s.setCarry id f).Queued sl i ↔ i ≠ id ∧ s.Queued sl i) ∧
    ((s.setCarry id f).Holding sl i ↔ (i = id ∧ (s.Queued sl i ∨ s.Holding sl i)) ∨ i ≠ id ∧ s.Holding sl i) := by
  simp only [State.Queued, State.Holding, State.setCarry, State.withCye_cye, updateCarry, List.mem_map]
  constructor
  · constructor
    · rintro ⟨_, ⟨c, hc, rfl⟩, hi, hs, hq⟩
      split at hi <;> rename_i hid
      · simp only [hid, if_true] at hq
        exact absurd hq (keeps c).2.2
      · simp only [hid, if_false] at hs hq
        exact ⟨hi ▸ hid, c, hc, hi, hs, hq⟩
    · rintro ⟨hne, c, hc, rfl, hs, hq⟩
      exact ⟨c, ⟨c, hc, by simp [hne]⟩, rfl, hs, hq⟩
  · constructor
    · rintro ⟨_, ⟨c, hc, rfl⟩, hi, hs, hq⟩
      split at hi <;> rename_i hid
      · simp only [hid, if_true] at hs
        rw [(keeps c).1] at hi
        rw [(keeps c).2.1] at hs
        refine .inl ⟨hi ▸ hid, ?_⟩
        by_cases q : c.state = .queued
        · exact .inl ⟨c, hc, hi, hs, q⟩
        · exact .inr ⟨c, hc, hi, hs, q⟩
      · simp only [hid, if_false] at hs hq
        exact .inr ⟨hi ▸ hid, c, hc, hi, hs, hq⟩
    · rintro (⟨rfl, ⟨c, hc, rfl, hs, -⟩ | ⟨c, hc, rfl, hs, -⟩⟩ | ⟨hne, c, hc, rfl, hs, hq⟩)
      iterate 2 exact ⟨f c, ⟨c, hc, by simp⟩, (keeps c).1, (keeps c).2.1 ▸ hs, (keeps c).2.2⟩
      exact ⟨c, ⟨c, hc, by simp [hne]⟩, rfl, hs, hq⟩

/-- R69, R98: a CARRY claim that waits at a slot with no grant held is granted. -/
theorem State.ClaimsBut.grantCarry {s : State} {off : CarryId → Prop} (hq : s.QueueSound) (hcl : s.ClaimsBut off)
    {sl : Slot} {c : CarryRec} (hc : c ∈ s.cye) (waits : c.id ∈ (s.slot sl).waitingCarry)
    (free : (s.slot sl).grant = .nobody) : (s.grantCarry sl c).ClaimsBut off := by
  intro k i
  obtain ⟨notOff, queued⟩ : ¬ off c.id ∧ s.Queued sl c.id := (hcl sl c.id).1.1 waits
  have bound := (hq.queued_iff hc sl).1 queued
  -- the slots after the grant
  let g : SlotRec → SlotRec := fun r =>
    { r with waitingCarry := r.waitingCarry.filter (fun j => j != c.id), grant := .carry c.id }
  have same : ((s.setSlot sl g).slot k).SameCarries ((s.grantCarry sl c).slot k) :=
    requestDial_sameCarries ((s.setSlot sl g).xptJoin (.carry c.id) (.slot sl) (.trunk c.trunk)) sl k _ _
  obtain ⟨eq, eh⟩ := setCarry_dialling s c.id (fun d => { d with queueTimer := none, dialSent := true, state := .dialling }) k i
    fun _ => ⟨rfl, rfl, by simp⟩
  have cye : (s.grantCarry sl c).cye = (s.setCarry c.id
      fun d => { d with queueTimer := none, dialSent := true, state := .dialling }).cye := by
    simp [State.grantCarry, State.setCarry]
  have eq' : (s.grantCarry sl c).Queued k i ↔ i ≠ c.id ∧ s.Queued k i := by
    simpa only [State.Queued, cye] using eq
  have eh' : (s.grantCarry sl c).Holding k i ↔ (i = c.id ∧ (s.Queued k i ∨ s.Holding k i)) ∨ i ≠ c.id ∧ s.Holding k i := by
    simpa only [State.Holding, State.Queued, cye] using eh
  change (_ ↔ _ ∧ (s.grantCarry sl c).Queued k i) ∧ (_ ↔ _ ∧ (s.grantCarry sl c).Holding k i)
  rw [eq', eh', same.1, same.2]
  have here := hcl k i
  change (_ ↔ _ ∧ s.Queued k i) ∧ (_ ↔ _ ∧ s.Holding k i) at here
  by_cases hk : k = sl
  · subst hk
    rw [State.setSlot_slot, settleIdle_eq]
    have none : ¬ (¬ off i ∧ s.Holding k i) := fun hh => by simpa [free] using here.2.2 hh
    by_cases hi : i = c.id
    · subst hi
      simp [g, notOff, queued]
    · simp only [g, List.mem_filter, here.1, ne_eq, hi, not_false_eq_true, true_and, false_and, false_or, bne_iff_ne,
        and_true, Holder.carry.injEq, Ne.symm hi, iff_self, none]
  · rw [setSlot_slot_of_ne s g hk, here.1, here.2]
    by_cases hi : i = c.id
    · subst hi
      have nq : ¬ s.Queued k c.id := fun h => hk (((hq.queued_iff hc k).1 h).1.symm.trans bound.1)
      have nh : ¬ s.Holding k c.id := fun h => absurd bound.2 ((hq.holding_iff hc k).1 h).2
      simp [nq, nh]
    · simp [hi]

theorem State.ClaimsBut.setSlot {s : State} {off : CarryId → Prop} (h : s.ClaimsBut off) {sl : Slot}
    {f : SlotRec → SlotRec} (same : (s.slot sl).SameCarries (f (s.slot sl))) : (s.setSlot sl f).ClaimsBut off :=
  h.congr (by simp) (setSlot_sameCarries same)

theorem State.ClaimsBut.arbiter {s : State} {off : CarryId → Prop} (hq : s.QueueSound) (h : s.ClaimsBut off)
    (sl : Slot) : (s.arbiter sl).ClaimsBut off := by
  unfold State.arbiter
  split <;> rename_i hi
  · have free : (s.slot sl).grant.isCarry = false := by rw [hi.2]; rfl
    split
    · exact (h.setSlot (.of_grant rfl free rfl)).congr (by simp) fun k => requestDial_sameCarries _ sl k _ _
    · exact h.setSlot (.of_grant rfl free rfl)
    · split <;> rename_i hf
      · exact h.grantCarry hq (List.mem_of_find?_eq_some hf) (by simpa using List.find?_some hf) hi.2
      · split
        · exact h.setSlot (.of_grant rfl free rfl)
        · exact h
  · exact h

theorem Calm.of_claims {s t : State} (held : t.cye.map CarryRec.held = s.cye.map CarryRec.held) (trunks : t.tkm = s.tkm)
    (claims : ∀ off, s.QueueSound → s.ClaimsBut off → t.ClaimsBut off) : Calm s t :=
  ⟨fun off h => ⟨h.1.congr held, h.2.1.congr held trunks, claims off h.1 h.2.2⟩, fun _ hi => ids_of_held held ▸ hi⟩

theorem calm_arbiter (s : State) (sl : Slot) : Calm s (s.arbiter sl) :=
  .of_claims (arbiter_held s sl) (by simp) fun _ hq h => h.arbiter hq sl

/-! ### The slot of a carry that ends (R70, R108) -/

/-- The slot of a carry is given up: its claim is withdrawn or its grant released, and no other carry's. -/
theorem State.ClaimsBut.giveUp {s t : State} {off : CarryId → Prop} (h : s.ClaimsBut off) (hq : s.QueueSound) {c : CarryRec}
    (hc : c ∈ s.cye) (cye : t.cye = s.cye) (other : t.slot (otherSlot c.slot) = s.slot (otherSlot c.slot))
    (waits : ∀ i, i ∈ (t.slot c.slot).waitingCarry ↔ i ∈ (s.slot c.slot).waitingCarry ∧ i ≠ c.id)
    (grant : ∀ i, (t.slot c.slot).grant = .carry i ↔ (s.slot c.slot).grant = .carry i ∧ i ≠ c.id) :
    t.ClaimsBut fun i => off i ∨ i = c.id := by
  intro k i
  rw [cye]
  have here := h k i
  change (_ ↔ _ ∧ s.Queued k i) ∧ (_ ↔ _ ∧ s.Holding k i) at here ⊢
  by_cases hk : k = c.slot
  · subst hk
    rw [waits, grant, here.1, here.2]
    tauto
  · rw [slot_ne hk, other, ← slot_ne hk, here.1, here.2]
    by_cases hi : i = c.id
    · subst hi
      have nq : ¬ s.Queued k c.id := fun e => hk ((hq.queued_iff hc k).1 e).1.symm
      have nh : ¬ s.Holding k c.id := fun e => hk ((hq.holding_iff hc k).1 e).1.symm
      simp [nq, nh]
    · simp [hi]

theorem State.ClaimsBut.giveUpSlot {s : State} {off : CarryId → Prop} (h : s.ClaimsBut off) (hq : s.QueueSound)
    {c : CarryRec} (hc : c ∈ s.cye) : (s.giveUpSlot c).ClaimsBut fun i => off i ∨ i = c.id := by
  have here := fun i => h c.slot i
  change ∀ i, (_ ↔ _ ∧ s.Queued c.slot i) ∧ (_ ↔ _ ∧ s.Holding c.slot i) at here
  have notBoth : s.Queued c.slot c.id → ¬ s.Holding c.slot c.id := fun e e' =>
    ((hq.holding_iff hc _).1 e').2 ((hq.queued_iff hc _).1 e).2
  have released {g : SlotRec → SlotRec} (holds : (s.slot c.slot).grant = .carry c.id)
      (nobody : (g (s.slot c.slot)).grant = .nobody) (waits : (g (s.slot c.slot)).waitingCarry = (s.slot c.slot).waitingCarry) :
      (s.setSlot c.slot g).ClaimsBut fun i => off i ∨ i = c.id := by
    refine h.giveUp hq hc (by simp) (by simp) (fun i => ?_) (fun i => ?_)
    · rw [State.setSlot_slot, settleIdle_eq]
      dsimp only
      rw [waits]
      refine ⟨fun hi => ⟨hi, ?_⟩, And.left⟩
      rintro rfl
      exact notBoth ((here c.id).1.1 hi).2 ((here c.id).2.1 holds).2
    · rw [State.setSlot_slot, settleIdle_eq]
      dsimp only
      rw [nobody, holds]
      simp only [reduceCtorEq, Holder.carry.injEq, false_iff, not_and, not_not]
      exact fun e => e.symm
  have queue {g : SlotRec → SlotRec} : (s.setSlot c.slot g).QueueSound := hq.congr (by simp)
  unfold State.giveUpSlot
  split <;> rename_i hst
  · have queued : s.Queued c.slot c.id := ⟨c, hc, rfl, rfl, hst⟩
    refine h.giveUp hq hc (by simp [State.withdrawCarry]) (by simp [State.withdrawCarry]) (fun i => ?_) (fun i => ?_)
    · rw [State.withdrawCarry, State.setSlot_slot, settleIdle_eq]
      simp
    · rw [State.withdrawCarry, State.setSlot_slot, settleIdle_eq]
      refine ⟨fun e => ⟨e, ?_⟩, And.left⟩
      rintro rfl
      exact notBoth queued ((here c.id).2.1 e).2
  · have holding : s.Holding c.slot c.id := ⟨c, hc, rfl, rfl, hst⟩
    unfold State.release
    split <;> rename_i hg
    · split
      · exact (released hg rfl rfl).arbiter queue _
      iterate 3 exact released hg rfl rfl
      · exact (released hg rfl rfl).arbiter queue _
      · exact released hg rfl rfl
    · have gone : off c.id := by
        by_contra hoff
        exact hg ((here c.id).2.2 ⟨hoff, holding⟩)
      refine h.off_congr fun d hd => ⟨.inl, ?_⟩
      rintro (e | e)
      · exact e
      · exact e ▸ gone

/-! ### The end of a carry (R108) -/

/-- The record that leaves the queue with its trunk. -/
theorem State.TrunksAgree.remove {s t : State} (h : s.TrunksAgree) (hq : s.QueueSound) {c : CarryRec} (hc : c ∈ s.cye)
    (held : ∃ u : State, u.cye.map CarryRec.held = s.cye.map CarryRec.held ∧ t.cye = u.cye.filter fun d => d.id != c.id)
    (freed : (t.tkm.get c.trunk).owner = none) (others : ∀ tr, tr ≠ c.trunk → t.tkm.get tr = s.tkm.get tr) :
    t.TrunksAgree := by
  obtain ⟨u, hu, ht⟩ := held
  obtain ⟨h1, h2⟩ := (State.TrunksAgree.congr h (t := u.withTkm s.tkm) hu rfl)
  simp only [State.withTkm_cye, State.withTkm_tkm] at h1 h2
  refine ⟨fun d hd => ?_, fun tr id ho => ?_⟩
  · obtain ⟨hd, hne⟩ := List.mem_filter.1 (ht ▸ hd)
    have ne : d.trunk ≠ c.trunk := fun e => by
      have := (e ▸ h1 d hd).symm.trans (h.1 c hc)
      simp [Option.some.inj this] at hne
    rw [others _ ne]
    exact h1 d hd
  · have ne : tr ≠ c.trunk := by
      rintro rfl
      simp [freed] at ho
    rw [others tr ne] at ho
    obtain ⟨d, hd, rfl, rfl⟩ := h2 tr id ho
    refine ⟨d, ht ▸ List.mem_filter.2 ⟨hd, ?_⟩, rfl, rfl⟩
    have own := fun e : d.id = c.id => h.2 d.trunk d.id ho
    simp only [bne_iff_ne]
    intro e
    obtain ⟨d', hd', e1, e2⟩ := own e
    exact ne ((e2.symm.trans (congrArg CarryRec.trunk (hq.unique hd' hc (e1.trans e)))))

/-- The record that leaves the queue was in no slot's claims. -/
theorem State.ClaimsBut.remove {s t : State} {off : CarryId → Prop} {id : CarryId}
    (h : s.ClaimsBut fun i => off i ∨ i = id) (cye : t.cye = s.cye.filter fun d => d.id != id)
    (slots : ∀ k, t.slot k = s.slot k) : t.ClaimsBut off := by
  intro k i
  have e (q : CarryRec → Prop) : (∃ c ∈ t.cye, c.id = i ∧ q c) ↔ i ≠ id ∧ ∃ c ∈ s.cye, c.id = i ∧ q c := by
    simp only [cye, List.mem_filter, bne_iff_ne]
    constructor
    · rintro ⟨c, ⟨hc, hn⟩, rfl, hp⟩
      exact ⟨hn, c, hc, rfl, hp⟩
    · rintro ⟨hn, c, hc, rfl, hp⟩
      exact ⟨c, ⟨hc, hn⟩, rfl, hp⟩
  rw [slots k, e, e]
  have here := h k i
  rw [here.1, here.2]
  tauto

theorem State.QueueSound.remove {s t : State} (h : s.QueueSound) {id : CarryId}
    (held : ∃ u : State, u.cye.map CarryRec.held = s.cye.map CarryRec.held ∧ t.cye = u.cye.filter fun d => d.id != id) :
    t.QueueSound := by
  obtain ⟨u, hu, ht⟩ := held
  obtain ⟨h1, h2⟩ := h.congr hu
  rw [State.QueueSound, ht]
  exact ⟨(List.length_filter_le ..).trans h1, h2.sublist (List.filter_sublist.map _)⟩

/-- What `endCarry` leaves of queue, map and slots: those of the slot given up, the trunk freed, the record gone. -/
theorem endCarry_carries (s : State) (c : CarryRec) (told : Option CprgReason) (freed : Bool) (report : Option Report)
    (o : LogOutcome) : ∃ u : State, u.cye = s.cye ∧ u.tkm = s.tkm ∧ u.slc = s.slc ∧
      (s.endCarry c told freed report o).cye = (u.giveUpSlot c).cye.filter (fun d => d.id != c.id) ∧
      (s.endCarry c told freed report o).slc = (u.giveUpSlot c).slc ∧
      (s.endCarry c told freed report o).tkm =
        if freed ∧ (s.tkm.get c.trunk).owner = some c.id then s.tkm.set c.trunk .free else s.tkm := by
  unfold State.endCarry
  extract_lets s1 s2 s3 s4 s5
  refine ⟨s1, ?_⟩
  have e1 : s1.cye = s.cye ∧ s1.tkm = s.tkm ∧ s1.slc = s.slc := by cases told <;> simp [s1]
  have e3 : s3.cye = s2.cye ∧ s3.slc = s2.slc ∧
      s3.tkm = if freed ∧ (s2.tkm.get c.trunk).owner = some c.id then s2.tkm.set c.trunk .free else s2.tkm := by
    cases freed
    · simp [s3]
    · have : s3 = s2.freeTrunk c.trunk c.id := rfl
      rw [this, State.freeTrunk]
      split <;> rename_i ho
      · simp [State.setTrunk, show (s2.tkm.get c.trunk).owner = some c.id from ho]
      · simp [show ¬ (s2.tkm.get c.trunk).owner = some c.id from ho]
  have e4 : s4.cye = s3.cye ∧ s4.slc = s3.slc ∧ s4.tkm = s3.tkm := by cases report <;> simp [s4]
  simp only [s5, s2, State.withCye_cye, State.withCye_slc, State.withCye_tkm, State.logAppend_frame, e4, e3, e1,
    State.xptBreak_frame, State.giveUpSlot_frame, true_and]

/-- R108: a carry of the queue whose trunk is freed with it, or lost before (R107), leaves the rest in agreement. -/
theorem endCarry_carriesBut {s : State} {off : CarryId → Prop} {c : CarryRec} (hq : s.QueueSound)
    (hc : c ∈ s.cye) (h : s.ClaimsBut off) (ht : s.TrunksAgree) (told : Option CprgReason) (report : Option Report) (o : LogOutcome) :
    (s.endCarry c told true report o).CarriesBut off ∧
    ∀ x, x.owner = none → ((s.setTrunk c.trunk x).endCarry c told false report o).CarriesBut off := by
  have ended {v : State} (cye : v.cye = s.cye) (slc : v.slc = s.slc) (freed : Bool)
      (none : ((v.endCarry c told freed report o).tkm.get c.trunk).owner = none)
      (others : ∀ tr, tr ≠ c.trunk → (v.endCarry c told freed report o).tkm.get tr = s.tkm.get tr) :
      (v.endCarry c told freed report o).CarriesBut off := by
    obtain ⟨u, e1, -, e3, h1, h2, -⟩ := endCarry_carries v c told freed report o
    have queue : u.QueueSound := hq.congr (by rw [e1, cye])
    have claims : u.ClaimsBut off := h.congr (by rw [e1, cye]) fun k => .of_eq (slot_of_slc (e3.trans slc) k)
    have held : (u.giveUpSlot c).cye.map CarryRec.held = s.cye.map CarryRec.held := by rw [giveUpSlot_held, e1, cye]
    exact ⟨hq.remove ⟨_, held, h1⟩, ht.remove hq hc ⟨_, held, h1⟩ none others,
      (claims.giveUpSlot queue (by rwa [e1, cye])).remove h1 fun k => slot_of_slc h2 k⟩
  refine ⟨?_, fun x hx => ?_⟩
  · obtain ⟨u, -, -, -, -, -, trunks⟩ := endCarry_carries s c told true report o
    simp only [ht.1 c hc, and_self, if_true] at trunks
    refine ended rfl rfl true ?_ fun tr hne => ?_
    · rw [trunks, Tkm.get_set]
      rfl
    · rw [trunks, Tkm.get_set_of_ne _ _ hne.symm]
  · obtain ⟨u, -, -, -, -, -, trunks⟩ := endCarry_carries (s.setTrunk c.trunk x) c told false report o
    simp only [Bool.false_eq_true, false_and, if_false] at trunks
    refine ended (v := s.setTrunk c.trunk x) rfl rfl false ?_ fun tr hne => ?_
    · rw [trunks, State.setTrunk, State.withTkm_tkm, Tkm.get_set, hx]
    · rw [trunks, State.setTrunk, State.withTkm_tkm, Tkm.get_set_of_ne _ _ hne.symm]

/-- R108: the end of a carry of the queue is calm. -/
theorem calm_endCarry {s : State} {c : CarryRec} (hc : c ∈ s.cye) (told : Option CprgReason) (report : Option Report)
    (o : LogOutcome) : Calm s (s.endCarry c told true report o) := by
  refine ⟨fun off h => (endCarry_carriesBut h.1 hc h.2.2 h.2.1 told report o).1, fun id hi => ?_⟩
  obtain ⟨u, e1, -, -, h1, -, -⟩ := endCarry_carries s c told true report o
  rw [h1] at hi
  have := (List.filter_sublist.map CarryRec.id).subset hi
  rwa [ids_of_held (giveUpSlot_held u c), e1] at this

/-- The identity of a carry that has ended is not in the queue. -/
theorem endCarry_gone (s : State) (c : CarryRec) (told : Option CprgReason) (freed : Bool) (report : Option Report)
    (o : LogOutcome) : c.id ∉ (s.endCarry c told freed report o).cye.map CarryRec.id := by
  obtain ⟨u, -, -, -, h1, -, -⟩ := endCarry_carries s c told freed report o
  simp [h1]

/-! ### Trunks (R112, R122 to R126) -/

/-- An entry replaced by one of the same owner. -/
theorem calm_setTrunk (s : State) (tr : Trunk) (e : TrunkEntry) (same : e.owner = (s.tkm.get tr).owner) :
    Calm s (s.setTrunk tr e) := by
  have owner (u : Trunk) : ((s.setTrunk tr e).tkm.get u).owner = (s.tkm.get u).owner := by
    by_cases h : u = tr
    · rw [h, State.setTrunk, State.withTkm_tkm, Tkm.get_set, same]
    · rw [State.setTrunk, State.withTkm_tkm, Tkm.get_set_of_ne _ _ (Ne.symm h)]
  refine ⟨fun off h => ⟨h.1, ⟨fun c hc => (owner _).trans (h.2.1.1 c hc), fun u id ho => h.2.1.2 u id ((owner u).symm.trans ho)⟩,
    h.2.2⟩, fun _ hi => hi⟩

/-- R106: TKM moves the record of an identity alone. -/
theorem carryMoved_cye (s : State) (id : CarryId) (u : Trunk) :
    (s.carryMoved id u).cye = updateCarry id (fun d => { d with trunk := u }) s.cye := by
  unfold State.carryMoved
  split <;> rename_i hf
  · refine (List.map_id _).symm.trans (List.map_congr_left fun c hc => (if_neg ?_).symm)
    rintro rfl
    exact findCarry_none hf (List.mem_map_of_mem hc)
  · dsimp only
    split <;> simp [State.setCarry]

/-- R125, R126: the trunk that a record loses is HELD, and the record moves to the lowest free one or ends. -/
theorem calm_loseTrunk (s : State) (tr : Trunk) (id : CarryId) (winner : Nat) (own : (s.trunk tr).owner = some id) :
    Calm s (s.loseTrunk tr id winner) := by
  let lost := s.setTrunk tr (.held winner (s.clock.now + holdMs))
  have lose : s.loseTrunk tr id winner = match lost.tkm.lowestFree with
    | some u => ((lost.setTrunk u (.claiming id (lost.clock.now + guardMs) []
        ((s.trunk tr).refresh.getD (s.clock.now + holdRefreshMs)))).hand id.requester
          (.tmov id.callId (trunkNum tr) (trunkNum u))).carryMoved id u
    | none => lost.carryTrunkLost id := rfl
  rw [lose]
  cases hf : lost.tkm.lowestFree with
  | none =>
    dsimp only
    unfold State.carryTrunkLost
    refine ⟨fun off h => ?_, fun i hi => ?_⟩
    · obtain ⟨c, hc, rfl, rfl⟩ := h.2.1.2 tr id own
      rw [show lost.cye = s.cye from rfl, findCarry_mem h.1 hc]
      exact (endCarry_carriesBut h.1 hc h.2.2 h.2.1 (some .noTrunk) none _).2 _ rfl
    · split at hi
      · rename_i c _
        obtain ⟨u, e1, -, -, h1, -⟩ := endCarry_carries lost c (some .noTrunk) false none (.failed .noTrunk)
        rw [h1] at hi
        have := (List.filter_sublist.map CarryRec.id).subset hi
        rwa [ids_of_held (giveUpSlot_held u c), e1] at this
      · exact hi
  | some u =>
    dsimp only
    have free : lost.tkm.get u = .free := by simpa using List.find?_some hf
    have ne : u ≠ tr := by
      rintro rfl
      simp [lost, State.setTrunk] at free
    have wasFree : s.tkm.get u = .free := by
      simpa only [lost, State.setTrunk, State.withTkm_tkm, Tkm.get_set_of_ne _ _ ne.symm] using free
    generalize hm : ((lost.setTrunk u _).hand id.requester _) = m
    have mcye : m.cye = s.cye := by simp [← hm, lost, State.setTrunk]
    have mslc : m.slc = s.slc := by simp [← hm, lost, State.setTrunk]
    have mtkm : ∃ g x, m.tkm = (s.tkm.set tr (.held winner (s.clock.now + holdMs))).set u (.claiming id g [] x) :=
      ⟨lost.clock.now + guardMs, _, by simp only [← hm, State.hand_frame]; rfl⟩
    obtain ⟨g, x, mtkm⟩ := mtkm
    have cye : (m.carryMoved id u).cye = updateCarry id (fun d => { d with trunk := u }) s.cye := by
      rw [carryMoved_cye, mcye]
    have tkm (v : Trunk) : ((m.carryMoved id u).tkm.get v).owner =
        if v = u then some id else if v = tr then none else (s.tkm.get v).owner := by
      rw [(State.carryMoved_frame m id u).2.2.2.2.2.2.2.2.2.1, mtkm]
      split <;> rename_i hv
      · rw [hv, Tkm.get_set]
        rfl
      · rw [Tkm.get_set_of_ne _ _ (Ne.symm hv)]
        split <;> rename_i hv'
        · rw [hv', Tkm.get_set]
          rfl
        · rw [Tkm.get_set_of_ne _ _ (Ne.symm hv')]
    have ids : (m.carryMoved id u).cye.map CarryRec.id = s.cye.map CarryRec.id := by
      rw [cye, updateCarry_map]
      intro _
      rfl
    refine ⟨fun off h => ⟨⟨?_, ids ▸ h.1.2⟩, ⟨fun d hd => ?_, fun v i ho => ?_⟩, h.2.2.congr ?_ fun k =>
      .of_eq (slot_of_slc (by simp [mslc]) k)⟩, fun i hi => ids ▸ hi⟩
    · rw [cye, updateCarry, List.length_map]
      exact h.1.1
    · rw [cye, updateCarry] at hd
      obtain ⟨c, hc, rfl⟩ := List.mem_map.1 hd
      rw [tkm]
      split_ifs with hi hu hu ht
      · rw [hi]
      · exact absurd rfl hu
      · have := h.2.1.1 c hc
        rw [hu, wasFree] at this
        cases this
      · have := h.2.1.1 c hc
        rw [ht] at this
        exact absurd (Option.some.inj (this.symm.trans own)) hi
      · exact h.2.1.1 c hc
    · rw [cye, updateCarry]
      rw [tkm] at ho
      split_ifs at ho with hu ht
      · obtain ⟨c, hc, rfl, -⟩ := h.2.1.2 tr id own
        refine ⟨_, List.mem_map_of_mem hc, ?_, ?_⟩
        · simpa using Option.some.inj ho
        · simp [hu]
      · obtain ⟨c, hc, rfl, rfl⟩ := h.2.1.2 v i ho
        have other : c.id ≠ id := by
          rintro rfl
          obtain ⟨d, hd, hdi, hdt⟩ := h.2.1.2 tr _ own
          exact ht ((congrArg CarryRec.trunk (h.1.unique hc hd hdi.symm)).trans hdt)
        exact ⟨c, List.mem_map.2 ⟨c, hc, if_neg other⟩, rfl, rfl⟩
    · rw [cye, updateCarry_map]
      intro _
      rfl

/-! ### Acceptance (R93) -/

theorem carriesSound_iff (s : State) : s.CarriesSound ↔ s.CarriesBut fun _ => False := by
  simp [State.CarriesSound, State.CarriesBut, State.ClaimsAgree, State.ClaimsBut]

/-- A carry record of an identity that ends leaves no record of it. -/
theorem carryClaimFault_gone (s : State) (id : CarryId) : id ∉ (s.carryClaimFault id).cye.map CarryRec.id := by
  unfold State.carryClaimFault
  split <;> rename_i hf
  · obtain ⟨-, rfl⟩ := findCarry_some hf
    exact endCarry_gone _ _ _ _ _ _
  · exact findCarry_none hf

theorem calm_carryClaimFault (s : State) (id : CarryId) : Calm s (s.carryClaimFault id) := by
  unfold State.carryClaimFault
  split <;> rename_i hf
  · exact calm_endCarry (findCarry_some hf).1 ..
  · exact .rfl

/-- R93: a new record with its trunk and its claim. -/
theorem acceptCarry_carriesSound {s : State} (h : s.CarriesSound) {id : CarryId} (code : Nat) (sl : Slot) {tr : Trunk}
    (fresh : id ∉ s.cye.map CarryRec.id) (room : s.cye.length < 3) (free : s.tkm.get tr = .free) :
    (s.acceptCarry id code sl tr).CarriesSound := by
  obtain ⟨hq, ht, hc⟩ := (carriesSound_iff s).1 h
  rw [carriesSound_iff]
  unfold State.acceptCarry
  extract_lets s1 s2 s3 s4
  have noRec (c : CarryRec) (hc : c ∈ s.cye) : c.id ≠ id := fun e => fresh (e ▸ List.mem_map_of_mem hc)
  have trunks (v : Trunk) : (s2.tkm.get v).owner = if v = tr then some id else (s.tkm.get v).owner := by
    have e : s2.tkm = s.tkm.set tr (.claiming id (s.clock.now + guardMs) [] (s.clock.now + holdRefreshMs)) := rfl
    rw [e]
    split <;> rename_i hv
    · rw [hv, Tkm.get_set]
      rfl
    · rw [Tkm.get_set_of_ne _ _ (Ne.symm hv)]
  have h2 : s2.CarriesBut fun i => i = id := by
    refine ⟨⟨?_, ?_⟩, ⟨fun c hc' => ?_, fun v i ho => ?_⟩, fun k i => ?_⟩
    · simp only [s2, State.withCye_cye, List.length_append, List.length_singleton]
      exact room
    · simp only [s2, State.withCye_cye, List.map_append, List.map_singleton]
      refine List.Nodup.append hq.2 (List.nodup_singleton _) ?_
      simpa [newCarry, s1, State.claimTrunk, State.setTrunk] using fresh
    · rw [trunks]
      obtain hc' | hc' := List.mem_append.1 hc'
      · have ne : c.trunk ≠ tr := by
          intro e
          have := ht.1 c hc'
          rw [e, free] at this
          cases this
        rw [if_neg ne]
        exact ht.1 c hc'
      · rw [List.mem_singleton.1 hc']
        simp [newCarry]
    · rw [trunks] at ho
      split_ifs at ho with hv
      · exact ⟨_, List.mem_append_right _ (List.mem_singleton_self _), Option.some.inj ho, hv.symm⟩
      · obtain ⟨c, hc', e⟩ := ht.2 v i ho
        exact ⟨c, List.mem_append_left _ hc', e⟩
    · have old (p : CarryRec → Prop) : (¬ i = id ∧ ∃ c ∈ s2.cye, c.id = i ∧ p c) ↔ ∃ c ∈ s.cye, c.id = i ∧ p c := by
        constructor
        · rintro ⟨hi, c, hc', rfl, hp⟩
          obtain hc' | hc' := List.mem_append.1 hc'
          · exact ⟨c, hc', rfl, hp⟩
          · exact absurd (congrArg CarryRec.id (List.mem_singleton.1 hc')) hi
        · rintro ⟨c, hc', rfl, hp⟩
          exact ⟨noRec c hc', c, List.mem_append_left _ hc', rfl, hp⟩
      rw [old, old]
      simpa [s2, s1, State.claimTrunk, State.setTrunk, State.slot] using hc k i
  have c3 : Calm s2 s3 := by
    unfold s3
    split
    · exact .of_eq (by simp) (by simp) (by simp)
    · exact .rfl
  have h4 : s4.CarriesBut fun i => i = id :=
    (c3.trans (.of_eq (by simp [s4]) (by simp [s4]) (by simp [s4]))).1 _ h2
  have queued : ∀ k, s4.Queued k id ↔ k = sl := by
    intro k
    have cye : s4.cye = s.cye ++ [newCarry id code sl tr s.clock.now] := by
      simp only [s4, State.hand_frame, s3]
      split <;> simp [s2, s1, State.claimTrunk, State.setTrunk]
    have m : newCarry id code sl tr s.clock.now ∈ s4.cye := by simp [cye]
    have := h4.1.queued_iff m k
    simpa [newCarry, eq_comm] using this
  have holding : ∀ k, ¬ s4.Holding k id := by
    rintro k ⟨c, hc', e⟩
    have m := (queued sl).2 rfl
    obtain ⟨d, hd, e'⟩ := m
    exact e.2.2 (h4.1.unique hc' hd (e.1.trans e'.1.symm) ▸ e'.2.2)
  clear_value s4
  split
  · obtain ⟨hq', ht', hc'⟩ := (calm_carryClaimFault s4 id).1 _ h4
    exact ⟨hq', ht', hc'.off_congr fun c hm =>
      ⟨fun e => carryClaimFault_gone s4 id (List.mem_map.2 ⟨c, hm, e⟩), nofun⟩⟩
  · have claimed : (s4.setSlot sl (SlotRec.addClaim (.carry id))).CarriesBut fun _ => False := by
      refine ⟨h4.1.congr (by simp), h4.2.1.congr (by simp) (by simp), fun k i => ?_⟩
      have here := h4.2.2 k i
      rw [(State.setSlot_frame s4 sl _).2.2.2.2.2.2.2.2.1]
      change (_ ↔ _ ∧ s4.Queued k i) ∧ (_ ↔ _ ∧ s4.Holding k i) at here ⊢
      by_cases hk : k = sl
      · subst hk
        rw [State.setSlot_slot, settleIdle_eq]
        simp only [SlotRec.addClaim, List.mem_append, List.mem_singleton, here.1, here.2]
        by_cases hi : i = id
        · subst hi
          simp [queued, holding]
        · simp [hi]
      · rw [setSlot_slot_of_ne _ _ hk, here.1, here.2]
        by_cases hi : i = id
        · subst hi
          simp [queued, holding, hk]
        · simp [hi]
    unfold State.placeClaim
    dsimp only
    split
    · split
      · exact (Calm.setSlot _ ⟨rfl, fun _ => Iff.rfl⟩).1 _ claimed
      · exact claimed
    · exact (calm_arbiter _ sl).1 _ claimed

/-! ### Calm operations -/

theorem calm_setCarry (s : State) (id : CarryId) (f : CarryRec → CarryRec) (ids : ∀ c, (f c).id = c.id)
    (same : s.QueueSound → ∀ c ∈ s.cye, c.id = id → (f c).view = c.view) : Calm s (s.setCarry id f) := by
  refine ⟨fun off h => h.congr ?_ rfl fun _ => .rfl, fun i hi => ?_⟩
  · rw [State.setCarry, State.withCye_cye, updateCarry, List.map_map]
    refine List.map_congr_left fun c hc => ?_
    dsimp only [Function.comp]
    split <;> rename_i hi
    · exact same h.1 c hc hi
    · rfl
  · rwa [State.setCarry, State.withCye_cye, updateCarry_map _ ids] at hi

/-- R70: a grant that no carry holds is released. -/
theorem calm_release (s : State) (sl : Slot) {x : Holder} (hx : x.isCarry = false) : Calm s (s.release sl x) := by
  unfold State.release
  split <;> rename_i hg
  · have held : (s.slot sl).grant.isCarry = false := hg ▸ hx
    split
    · exact (Calm.setSlot s (.of_grant rfl held rfl)).trans (calm_arbiter ..)
    iterate 3 exact Calm.setSlot s (.of_grant rfl held rfl)
    · exact (Calm.setSlot s (.of_grant rfl held rfl)).trans (calm_arbiter ..)
    · exact Calm.setSlot s (.of_grant rfl held rfl)
  · exact .rfl

/-! ### Calm effects -/

theorem Effect.calm {q : Bool} {k : Nat} {s t : State} (e : Effect true q k s t) : Calm s t := by
  cases e
  case slot sl f _ same => exact Calm.setSlot s (same rfl)
  case carries cs _ same => exact .congr (same rfl) rfl fun _ => .rfl
  case second =>
    refine .congr ?_ rfl fun _ => .rfl
    simp only [State.countSecond, List.map_map]
    refine List.map_congr_left fun c _ => ?_
    dsimp only [Function.comp]
    split <;> rfl
  case table sl es _ => exact .of_eq (by simp) (by simp) (by cases sl <;> rfl)
  all_goals exact .of_eq rfl rfl rfl

theorem Steps.calm {p q : Bool} {k : Nat} {s t : State} (h : Steps p q k s t) (hp : p = true) : Calm s t := by
  induction h with
  | refl => exact .rfl
  | tail _ e ih => exact (ih hp).trans (hp ▸ e).calm
  | closed _ _ calm ihb _ => exact (ihb hp).trans (calm hp)
  | closedCall _ _ _ ihb ihi => exact (ihb hp).trans (ihi hp)

end Sys2Proof.Machine
end

section
/-! What the placement engine's operations leave of the call record: its timers in their places, its counts in their
ranges, and the CALL lamp on its state (R1, R3, R164). -/

namespace Sys2Proof.Machine

/-! ### Operations that do not touch the call record -/

/-- Nothing of the call record and of the CALL lamp's mode differs. -/
def State.SameCall (s t : State) : Prop :=
  t.ple = s.ple ∧ t.cpi.lamp = s.cpi.lamp ∧ t.cpi.fastFlash = s.cpi.fastFlash

theorem State.SameCall.sound {s t : State} (h : s.SameCall t) (hs : s.CallSound) : t.CallSound := by
  obtain ⟨h1, h2, h3⟩ := h
  simpa only [State.CallSound, State.IdleCallIsClear, State.CallTimersFit, State.CallCountsBounded, State.LampFollows,
    h1, h2, h3] using hs

theorem State.SameCall.trans {s t u : State} (h : s.SameCall t) (g : t.SameCall u) : s.SameCall u :=
  ⟨g.1.trans h.1, g.2.1.trans h.2.1, g.2.2.trans h.2.2⟩

theorem State.SameCall.of_eq {s t : State} (ple : t.ple = s.ple) (cpi : t.cpi = s.cpi) : s.SameCall t :=
  ⟨ple, cpi ▸ rfl, cpi ▸ rfl⟩

theorem setSlot_sameCall (s : State) (sl : Slot) (f : SlotRec → SlotRec) : s.SameCall (s.setSlot sl f) := by
  refine ⟨by simp, ?_, ?_⟩ <;> rw [State.setSlot_cpi]

/-! ### The lamp -/

@[simp] theorem setLamp_lamp (c : Cpi) (m : LampMode) (now : Nat) : (c.setLamp m now).lamp = m := by
  unfold Cpi.setLamp
  split <;> rename_i h
  · exact h
  · rfl

@[simp] theorem setLamp_fastFlash (c : Cpi) (m : LampMode) (now : Nat) : (c.setLamp m now).fastFlash = c.fastFlash := by
  unfold Cpi.setLamp
  split <;> rfl

/-- The lamp on the record's state, with no fast flash. -/
def State.LampShows (s : State) : Prop := s.cpi.lamp = lampOf s.ple.state ∧ s.cpi.fastFlash = none

theorem State.LampShows.follows {s : State} (h : s.LampShows) : s.LampFollows :=
  ⟨fun _ => h.1, fun e => by simp [h.2] at e⟩

theorem enterCallState_lampShows (s : State) (st : CallState) : (s.enterCallState st).LampShows := by
  unfold State.enterCallState
  split <;> simp [State.LampShows]

/-! ### The record between two attempts -/

/-- No attempt is in hand, no pause and no offer: but for the placement limit no timer runs and no trunk is taken. -/
def Ple.NoAttempt (p : Ple) : Prop :=
  p.bellTimer = none ∧ p.pauseTimer = none ∧ p.ringLimit = none ∧ p.answerTimer = none ∧ p.trunk = none ∧
  p.carrierSilence = none ∧ p.holdRefresh = none

/-- `State.CallCountsBounded` of a record. -/
def Ple.Counts (p : Ple) : Prop :=
  p.rounds ≤ 255 ∧ p.attempts ≤ 255 ∧ p.resumptions ≤ 5 ∧ p.talkSeconds ≤ 65535 ∧ p.pauseLength ∈ [5, 10, 20, 40, 60]

theorem resetPle_counts : resetPle.Counts := by simp [Ple.Counts, resetPle]

/-- A record that no call is in. -/
theorem callSound_of_reset {s : State} (window : Option Nat) (h : s.ple = { resetPle with window := window })
    (lamp : s.LampFollows) : s.CallSound := by
  refine ⟨fun _ => ?_, ?_, ?_, lamp⟩
  · rw [h]
  · simp [State.CallTimersFit, h, resetPle]
  · simp [State.CallCountsBounded, h, resetPle]

/-- A record that a call is in. -/
theorem callSound_of_active {s : State} (active : s.ple.state ≠ .idle) (timers : s.CallTimersFit) (counts : s.ple.Counts)
    (lamp : s.LampShows) : s.CallSound := ⟨fun e => absurd e active, timers, counts, lamp.follows⟩

/-- R11: WAITING. -/
theorem enterWaiting_sound {s : State} (h : s.ple.NoAttempt) (counts : s.ple.Counts) : s.enterWaiting.CallSound := by
  obtain ⟨h1, h2, h3, h4, h5, h6, h7⟩ := h
  refine callSound_of_active (by simp) ?_ (by simpa [Ple.Counts] using counts) ?_
  · simp [State.CallTimersFit, h1, h3, h4, h5, h6, h7]
  · have shows := enterCallState_lampShows s .waiting
    simpa [State.LampShows, State.enterWaiting, State.setPle] using shows

theorem xptJoin_sameCall (s : State) (o : Owner) (x y : Endpoint) : s.SameCall (s.xptJoin o x y) :=
  .of_eq (by simp) (by simp)

theorem requestDial_sameCall (s : State) (sl : Slot) (x : Holder) (code : Nat) : s.SameCall (s.requestDial sl x code) := by
  unfold State.requestDial
  split
  · exact setSlot_sameCall ..
  · exact .of_eq rfl rfl

theorem arbiter_sameCall (s : State) (sl : Slot) : s.SameCall (s.arbiter sl) := by
  unfold State.arbiter
  split
  · split
    · exact (setSlot_sameCall ..).trans (requestDial_sameCall ..)
    · exact setSlot_sameCall ..
    · split
      · exact (((setSlot_sameCall s sl _).trans (xptJoin_sameCall ..)).trans (requestDial_sameCall ..)).trans
          (.of_eq (State.setCarry_frame ..).2.2.2.2.2.2.2.2.2.1 (State.setCarry_frame ..).2.2.1)
      · split
        · exact setSlot_sameCall ..
        · exact .of_eq rfl rfl
  · exact .of_eq rfl rfl

theorem placeClaim_sameCall (s : State) (sl : Slot) (c : Claim) : s.SameCall (s.placeClaim sl c) := by
  unfold State.placeClaim
  dsimp only
  split
  · split
    · exact (setSlot_sameCall ..).trans (setSlot_sameCall ..)
    · exact setSlot_sameCall ..
  · exact (setSlot_sameCall ..).trans (arbiter_sameCall ..)

/-! ### Rounds (R9 to R13, R17) -/

/-- A sound record in a call whose list of awaited slots changes. -/
theorem claimEmergency_sound {s : State} (h : s.CallSound) (active : s.ple.state ≠ .idle) (sl : Slot) :
    (s.claimEmergency sl).CallSound ∧ (s.claimEmergency sl).ple.state ≠ .idle := by
  refine ⟨(placeClaim_sameCall ..).sound ?_, by simpa [State.claimEmergency, State.setPle] using active⟩
  obtain ⟨-, timers, counts, lamp⟩ := h
  exact ⟨fun e => absurd e active, timers, counts, lamp⟩

theorem waitForScans_sound {s : State} (h : s.ple.NoAttempt) (counts : s.ple.Counts) : s.waitForScans.CallSound := by
  have waits := enterWaiting_sound h counts
  have active : s.enterWaiting.ple.state ≠ .idle := by simp
  unfold State.waitForScans
  dsimp only
  split_ifs
  · have first := claimEmergency_sound waits active .a
    exact (claimEmergency_sound first.1 first.2 .b).1
  · exact (claimEmergency_sound waits active .b).1
  · exact (claimEmergency_sound waits active .a).1
  · exact waits

theorem beginAttempt_noAttempt {s : State} (h : s.ple.NoAttempt) (counts : s.ple.Counts) (c : Candidate) :
    (s.beginAttempt c).ple.NoAttempt ∧ (s.beginAttempt c).ple.Counts := by
  obtain ⟨h1, -, h3, h4⟩ := counts
  exact ⟨by simpa [Ple.NoAttempt] using h, by simp [Ple.Counts] at h4 ⊢; omega⟩

theorem clearAttempt_noAttempt {s : State} (bell : s.ple.bellTimer = none) (pause : s.ple.pauseTimer = none)
    (counts : s.ple.Counts) : s.clearAttempt.ple.NoAttempt ∧ s.clearAttempt.ple.Counts := by
  simpa [Ple.NoAttempt, Ple.Counts, Ple.stopAttemptTimers, bell, pause] using counts

theorem beginRelay_sound {s : State} (h : s.ple.NoAttempt) (counts : s.ple.Counts) (n code : Nat) :
    (s.beginRelay n code).CallSound := by
  obtain ⟨h1, h2, h3, h4, h5, h6, h7⟩ := h
  refine callSound_of_active (by simp [State.beginRelay, State.setPle]) ?_
    (by simpa [Ple.Counts, State.beginRelay, State.setPle] using counts) ?_
  · simp [State.CallTimersFit, State.beginRelay, State.setPle, h1, h2, h3, h5, h6, h7]
  · simpa [State.LampShows, State.beginRelay, State.setPle] using enterCallState_lampShows s .relaying

theorem beginOwn_sound {s : State} (h : s.ple.NoAttempt) (counts : s.ple.Counts) (sl : Slot) :
    (s.beginOwn sl).CallSound := by
  obtain ⟨h1, h2, h3, h4, h5, h6, h7⟩ := h
  refine (placeClaim_sameCall ..).sound (callSound_of_active (by simp) ?_ (by simpa [Ple.Counts] using counts) ?_)
  · simp [State.CallTimersFit, h1, h2, h3, h4, h5, h6, h7]
  · simpa [State.LampShows] using enterCallState_lampShows s .dialling

theorem tryRoutes_sound (cs : List Candidate) {s : State} (h : s.ple.NoAttempt) (counts : s.ple.Counts) :
    (State.tryRoutes cs s).CallSound := by
  induction cs generalizing s with
  | nil => exact enterWaiting_sound h counts
  | cons c cs ih =>
    obtain ⟨begun, counted⟩ := beginAttempt_noAttempt h counts c
    rw [State.tryRoutes]
    split
    · have cleared := clearAttempt_noAttempt begun.1 begun.2.1 counted
      exact ih cleared.1 cleared.2
    · split
      · exact beginRelay_sound begun counted _ _
      · split
        · have cleared := clearAttempt_noAttempt (s := ((s.beginAttempt c).enterCallState .dialling).joinTone)
            (by simpa using begun.1) (by simpa using begun.2.1) (by simpa [Ple.Counts] using counted)
          exact ih cleared.1 cleared.2
        · exact beginOwn_sound begun counted _

theorem startRound_sound {s : State} (h : s.ple.NoAttempt) (counts : s.ple.Counts) : s.startRound.CallSound := by
  have begun : Ple.NoAttempt { s.ple with rounds := min 255 (s.ple.rounds + 1), tried := [] } := h
  have counted : Ple.Counts { s.ple with rounds := min 255 (s.ple.rounds + 1), tried := [] } :=
    ⟨min_le_left .., counts.2⟩
  unfold State.startRound
  dsimp only
  split
  · exact waitForScans_sound begun counted
  · exact tryRoutes_sound _ begun counted

/-! ### Attempts that end (R11, R25, R26) -/

theorem endAttempt_sound {s : State} (bell : s.ple.bellTimer = none) (pause : s.ple.pauseTimer = none)
    (counts : s.ple.Counts) (o : Machine.Outcome) : (s.endAttempt o).CallSound := by
  have cleared := clearAttempt_noAttempt (s := s.reportOutcome o) (by simpa using bell) (by simpa using pause)
    (by simpa using counts)
  exact tryRoutes_sound _ cleared.1 cleared.2

/-- What a sound record in the states of an attempt gives the end of one. -/
theorem State.CallSound.attempt {s : State} (h : s.CallSound) (bell : s.ple.state ≠ .bell) (pause : s.ple.state ≠ .waiting) :
    s.ple.bellTimer = none ∧ s.ple.pauseTimer = none ∧ s.ple.Counts := by
  obtain ⟨-, ⟨h1, h2, -⟩, counts, -⟩ := h
  exact ⟨by simpa using mt h1.1 bell, by simpa using mt h2.1 pause, counts⟩

theorem State.CallSound.endAttempt {s : State} (h : s.CallSound) (bell : s.ple.state ≠ .bell)
    (pause : s.ple.state ≠ .waiting) (o : Machine.Outcome) : (s.endAttempt o).CallSound := by
  obtain ⟨h1, h2, h3⟩ := h.attempt bell pause
  exact endAttempt_sound h1 h2 h3 o

theorem State.CallSound.endOwnAttempt {s : State} (h : s.CallSound) (bell : s.ple.state ≠ .bell)
    (pause : s.ple.state ≠ .waiting) (sl : Slot) (o : Machine.Outcome) : (s.endOwnAttempt sl o).CallSound := by
  obtain ⟨h1, h2, h3⟩ := h.attempt bell pause
  exact endAttempt_sound (by simpa using h1) (by simpa using h2) (by simpa using h3) o

theorem nextPause_mem (n : Nat) : nextPause n ∈ [5, 10, 20, 40, 60] := by
  unfold nextPause
  split_ifs <;> simp

/-- R1: no attempt's timer runs where no relay attempt is in hand and the record is not RINGING. -/
theorem State.CallSound.noRelay {s : State} (h : s.CallSound) (relay : s.ple.relayCarrier = none)
    (ringing : s.ple.state ≠ .ringing) (relaying : s.ple.state ≠ .relaying) :
    s.ple.ringLimit = none ∧ s.ple.answerTimer = none ∧ s.ple.trunk = none ∧ s.ple.carrierSilence = none ∧
      s.ple.holdRefresh = none := by
  obtain ⟨-, ⟨-, -, h3, h4, h5, h6, h7, -⟩, -⟩ := h
  have trunk : s.ple.trunk = none := by simpa [relay] using mt h5
  refine ⟨by simpa using mt h3.1 ringing, by simpa using mt (fun e => (h4 e).1) relaying, trunk, ?_, ?_⟩
  · simpa [trunk] using h6
  · simpa [trunk] using h7

theorem relayCarrier_none {p : Ple} (h : p.state ≠ .relaying ∧ p.state ≠ .ringing ∧ p.state ≠ .talking) :
    p.relayCarrier = none := by
  unfold Ple.relayCarrier
  split <;> simp_all

theorem State.CallSound.endWaiting {s : State} (h : s.CallSound) (waits : s.ple.state = .waiting) :
    s.endWaiting.CallSound := by
  obtain ⟨h1, h2, h3, h4, h5⟩ := h.noRelay (relayCarrier_none (by simp [waits])) (by simp [waits]) (by simp [waits])
  have bell : s.ple.bellTimer = none := by simpa [waits] using h.2.1.1
  obtain ⟨c1, c2, c3, c4, -⟩ := h.2.2.1
  refine startRound_sound ?_ ?_
  · simp [Ple.NoAttempt, State.setPle, bell, h1, h2, h3, h4, h5]
  · simp only [Ple.Counts, State.setPle, State.withPle_ple, State.withdrawEmergency_frame]
    exact ⟨c1, c2, c3, c4, nextPause_mem _⟩

/-! ### Closes (R6, R27, R28) -/

theorem lampAtClose_follows (c : Cpi) (o : LogOutcome) (now : Nat) :
    ((c.lampAtClose o now).lamp = .fast ∧ (c.lampAtClose o now).fastFlash.isSome = true) ∨
    ((c.lampAtClose o now).lamp = .off ∧ (c.lampAtClose o now).fastFlash = none) := by
  unfold Cpi.lampAtClose
  split <;> simp

theorem finishCall_sound (s : State) (o : LogOutcome) : (s.finishCall o).CallSound := by
  refine callSound_of_reset _ rfl ⟨fun h => ?_, fun h => ?_⟩
  all_goals
    unfold State.finishCall at h ⊢
    obtain ⟨hl, hf⟩ | ⟨hl, hf⟩ := lampAtClose_follows
      ((s.xptBreak .localCall).logAppend ((s.xptBreak .localCall).closeLog o)).cpi.stopBell o
      ((s.xptBreak .localCall).logAppend ((s.xptBreak .localCall).closeLog o)).clock.now
  · exact absurd (hf.symm.trans (congrArg Option.isSome h)) (by simp)
  · exact hl
  · exact ⟨hl, rfl⟩
  · exact absurd (h.symm.trans (congrArg Option.isSome hf)) (by simp)

theorem resumeOrClose_sound {s : State} (h : s.ple.NoAttempt) (counts : s.ple.Counts) : s.resumeOrClose.CallSound := by
  unfold State.resumeOrClose
  split <;> rename_i few
  · obtain ⟨c1, c2, -, c4, c5⟩ := counts
    exact startRound_sound (by simpa [Ple.NoAttempt, State.setPle] using h) (by
      simp only [Ple.Counts, State.setPle, State.withPle_ple, State.joinTone_frame]
      exact ⟨c1, c2, Nat.succ_le_of_lt few, c4, c5⟩)
  · exact finishCall_sound ..

theorem State.CallSound.loseTalk {s : State} (h : s.CallSound) (bell : s.ple.state ≠ .bell)
    (pause : s.ple.state ≠ .waiting) : s.loseTalk.CallSound := by
  obtain ⟨h1, h2, h3⟩ := h.attempt bell pause
  have same (u : State) (e : u.ple = s.ple) : (u.setPle fun p => { p.stopAttemptTimers with trunk := none }).resumeOrClose.CallSound :=
    resumeOrClose_sound (by simp [Ple.NoAttempt, State.setPle, Ple.stopAttemptTimers, e, h1, h2])
      (by simpa [Ple.Counts, State.setPle, Ple.stopAttemptTimers, e] using h3)
  unfold State.loseTalk
  dsimp only
  split <;> exact same _ (by simp)

theorem farEndClear_sound (s : State) : s.farEndClear.CallSound := finishCall_sound ..

/-! ### Talk (R15, R20) -/

/-- The record enters TALKING from an attempt whose answer has come. -/
theorem enterTalking_sound {s : State} (h : s.CallSound) (bell : s.ple.state ≠ .bell) (pause : s.ple.state ≠ .waiting)
    (answered : s.ple.answerTimer = none) : s.enterTalking.CallSound := by
  obtain ⟨h1, h2, h3⟩ := h.attempt bell pause
  obtain ⟨-, ⟨-, -, -, -, h5, h6, h7, -⟩, -⟩ := h
  refine callSound_of_active (by simp [State.enterTalking, State.setPle]) ?_
    (by simpa [Ple.Counts, State.enterTalking, State.setPle] using h3) ?_
  · simp only [State.CallTimersFit, State.enterTalking, State.setPle, State.withPle_ple, enterCallState_ple, h1, h2,
      answered, h6, h7]
    refine ⟨by simp, by simp, by simp, by simp, fun e => ?_, by simp, by simp, by simp, by simp⟩
    obtain ⟨n, hn⟩ := Option.isSome_iff_exists.1 (h5 e)
    obtain ⟨c, hr, -⟩ := relayCarrier_route hn
    simp [Ple.relayCarrier, hr]
  · simpa [State.LampShows, State.enterTalking, State.setPle] using enterCallState_lampShows s .talking

/-- R14, R20: RINGING with its limit. -/
theorem enterRinging_sound {s : State} (h : s.CallSound) (bell : s.ple.state ≠ .bell) (pause : s.ple.state ≠ .waiting)
    (answered : s.ple.answerTimer = none) (at_ : Nat) :
    ((s.enterCallState .ringing).setPle fun p => { p with ringLimit := some at_ }).CallSound := by
  obtain ⟨h1, h2, h3⟩ := h.attempt bell pause
  obtain ⟨-, ⟨-, -, -, -, h5, h6, h7, -⟩, -⟩ := h
  refine callSound_of_active (by simp [State.setPle]) ?_ (by simpa [Ple.Counts, State.setPle] using h3) ?_
  · simp only [State.CallTimersFit, State.setPle, State.withPle_ple, enterCallState_ple, h1, h2, answered, h6, h7]
    refine ⟨by simp, by simp, by simp, by simp, fun e => ?_, by simp, by simp, by simp, by simp⟩
    obtain ⟨n, hn⟩ := Option.isSome_iff_exists.1 (h5 e)
    obtain ⟨c, hr, -⟩ := relayCarrier_route hn
    simp [Ple.relayCarrier, hr]
  · simpa [State.LampShows, State.setPle] using enterCallState_lampShows s .ringing

theorem reportOutcome_sameCall (s : State) (o : Machine.Outcome) : s.SameCall (s.reportOutcome o) :=
  .of_eq (by simp) (by simp)

theorem State.CallSound.dialAnswered {s : State} (h : s.CallSound) (dials : s.ple.state = .dialling) :
    s.ple.answerTimer = none := by
  have := h.2.1.2.2.2.1
  by_contra hne
  simpa [dials] using this (Option.isSome_iff_ne_none.2 hne)

theorem State.CallSound.ringAnswered {s : State} (h : s.CallSound) (rings : s.ple.state = .ringing) :
    s.ple.answerTimer = none := by
  have := h.2.1.2.2.2.1
  by_contra hne
  simpa [rings] using this (Option.isSome_iff_ne_none.2 hne)

/-- R13 to R16, R27, R28, R31: a report to the local call. -/
theorem State.CallSound.localReport {s : State} (h : s.CallSound) (sl : Slot) (r : SlotReport) :
    (s.localReport sl r).CallSound := by
  have through (bell : s.ple.state ≠ .bell) (pause : s.ple.state ≠ .waiting) (answered : s.ple.answerTimer = none) :
      (((s.xptJoin .localCall .handset (.slot sl)).enterTalking).reportOutcome .connected).CallSound :=
    (reportOutcome_sameCall ..).sound (enterTalking_sound ((xptJoin_sameCall ..).sound h) (by simpa using bell)
      (by simpa using pause) (by simpa using answered))
  unfold State.localReport
  split <;> rename_i hst
  case h_1 =>
    split
    case _ => exact finishCall_sound ..
    case _ => exact finishCall_sound ..
    case _ => exact h
  case h_2 =>
    have ends := h.endOwnAttempt (by simp [hst]) (by simp [hst]) sl
    split
    case _ => exact enterRinging_sound h (by simp [hst]) (by simp [hst]) (h.dialAnswered hst) _
    case _ => exact through (by simp [hst]) (by simp [hst]) (h.dialAnswered hst)
    case _ => exact ends _
    case _ => exact ends _
    case _ => exact ends _
    case _ => exact ends _
    case _ => exact ends _
    case _ => exact h
  case h_3 =>
    have ends := h.endOwnAttempt (by simp [hst]) (by simp [hst]) sl
    split
    case _ => exact (xptJoin_sameCall ..).sound h
    case _ => exact through (by simp [hst]) (by simp [hst]) (h.ringAnswered hst)
    case _ => exact ends _
    case _ => exact ends _
    case _ => exact ends _
    case _ => exact h
  case h_4 =>
    have loses := h.loseTalk (by simp [hst]) (by simp [hst])
    split
    case _ => exact farEndClear_sound _
    case _ => exact loses
    case _ => exact loses
    case _ => exact h
  case h_5 => exact h

theorem State.CallSound.localClaimFault {s : State} (h : s.CallSound) : s.localClaimFault.CallSound := by
  unfold State.localClaimFault
  split <;> rename_i hst
  · exact h.endAttempt (by simp [hst]) (by simp [hst]) _
  · exact h

theorem State.CallSound.emergencyScanEnded {s : State} (h : s.CallSound) (sl : Slot) :
    (s.emergencyScanEnded sl).CallSound := by
  unfold State.emergencyScanEnded
  split <;> rename_i hw
  · have waits : (s.setPle fun p => { p with awaited := p.awaited.filter fun x => x != sl }).CallSound := by
      obtain ⟨-, timers, counts, lamp⟩ := h
      exact ⟨fun e => by simp [State.setPle, hw.1] at e, timers, counts, lamp⟩
    dsimp only
    split
    · exact waits.endWaiting hw.1
    · exact waits
  · exact h

/-! ### The call point's events (R4, R5, R8, R31) -/

theorem startCall_sound (s : State) (o : Origin) : (s.startCall o).CallSound :=
  startRound_sound (by simp [Ple.NoAttempt, State.setPle, State.openRecord, resetPle])
    (by simp [Ple.Counts, State.setPle, State.openRecord, resetPle])

/-- R31: BELL answered. -/
theorem State.CallSound.answerCallback {s : State} (h : s.CallSound) (rings : s.ple.state = .bell) :
    s.answerCallback.CallSound := by
  obtain ⟨h1, h2, h3, h4, h5⟩ := h.noRelay (relayCarrier_none (by simp [rings])) (by simp [rings]) (by simp [rings])
  have pause : s.ple.pauseTimer = none := by simpa [rings] using h.2.1.2.1
  unfold State.answerCallback
  split
  · rename_i sl _ _
    dsimp only
    generalize hu : (((s.takeOffer sl).withCpi _).xptJoin .localCall .handset (.slot sl)) = u
    have ple : u.ple = s.ple := by simp [← hu]
    refine callSound_of_active (by simp [State.enterTalking, State.setPle]) ?_ ?_ ?_
    · simp [State.CallTimersFit, State.enterTalking, State.setPle, ple, pause, h2, h3, h4, h5]
    · simpa [Ple.Counts, State.enterTalking, State.setPle, ple] using (show s.ple.Counts from h.2.2.1)
    · simpa [State.LampShows, State.enterTalking, State.setPle] using enterCallState_lampShows u .talking
  · exact h

/-- R5: handset-lifted alone, in a call. -/
theorem State.CallSound.lifted {s : State} (h : s.CallSound) (active : s.ple.state ≠ .idle) :
    (s.setPle fun p => { p with handsetLifted := true }).CallSound := by
  obtain ⟨-, timers, counts, lamp⟩ := h
  exact ⟨fun e => absurd e active, timers, counts, lamp⟩

theorem State.CallSound.takePress {s : State} (h : s.CallSound) : s.takePress.CallSound := by
  unfold State.takePress
  split <;> rename_i hst
  · exact startCall_sound ..
  · exact h.answerCallback hst
  · exact h.endWaiting hst
  all_goals exact h

theorem State.CallSound.takeLift {s : State} (h : s.CallSound) : s.takeLift.CallSound := by
  unfold State.takeLift
  split <;> rename_i hst
  · exact startCall_sound ..
  · exact (h.lifted (by simp [hst])).answerCallback hst
  all_goals exact h.lifted (by simp [hst])

theorem State.CallSound.takeReplacement {s : State} (h : s.CallSound) : s.takeReplacement.CallSound := by
  unfold State.takeReplacement
  split
  · exact finishCall_sound ..
  · exact h

/-- R30: a callback offered, or refused. -/
theorem State.CallSound.takeCallin {s : State} (h : s.CallSound) (sl : Slot) : (s.takeCallin sl).CallSound := by
  unfold State.takeCallin
  split
  · extract_lets s1 s2 s3
    have ple1 : s1.ple = { resetPle with
        callId := s.svc.nextCallId, origin := .callback, limitStart := s.cfg.uptime, route := some ⟨.slot sl, none⟩
        handsetLifted := hookReadsLifted s.cpi.hook, window := s.ple.window, state := .bell } := by
      simp [s1, State.openRecord, State.setPle]
    have shows : s1.LampShows := enterCallState_lampShows ..
    clear_value s1
    have same : s1.SameCall s2 := by
      unfold s2
      split
      · rename_i kind _
        refine (setSlot_sameCall ..).trans (State.SameCall.of_eq ?_ ?_ : (s1.closeScan sl).SameCall _)
        all_goals
          cases kind <;> simp [State.reportScanEnd, State.emergencyScanEnded, ple1]
      · exact .of_eq rfl rfl
    have same3 : s1.SameCall s3 := same.trans (setSlot_sameCall ..)
    have ple3 := same3.1.trans ple1
    clear_value s2 s3
    refine callSound_of_active (by simp [State.setPle, ple3]) ?_ (by simp [Ple.Counts, State.setPle, ple3, resetPle]) ?_
    · simp [State.CallTimersFit, State.setPle, ple3, resetPle]
    · have bell (c : Cpi) : (c.ringBell s3.clock.now).lamp = c.lamp ∧ (c.ringBell s3.clock.now).fastFlash = c.fastFlash := by
        unfold Cpi.ringBell
        split <;> exact ⟨rfl, rfl⟩
      obtain ⟨lamp, flash⟩ := shows
      refine ⟨?_, ?_⟩
      · simp only [State.setPle, State.withPle_cpi, State.withCpi_cpi, bell, same3.2.1, lamp, State.withPle_ple,
          State.withCpi_ple, same3.1]
      · simp only [State.setPle, State.withPle_cpi, State.withCpi_cpi, bell, same3.2.2, flash]
  · exact (setSlot_sameCall ..).sound h

/-! ### The carrier's frames (R17 to R23) -/

/-- R19, R21: a trunk is taken, or kept, and both its timers run. -/
theorem State.CallSound.withTrunk {s u : State} (h : s.CallSound) (relay : s.ple.relayCarrier.isSome = true)
    {tr : Option Trunk} {silence refresh : Option Nat}
    (ple : u.ple = { s.ple with answerTimer := none, trunk := tr, carrierSilence := silence, holdRefresh := refresh })
    (cpi : u.cpi = s.cpi) (ht : tr.isSome = true) (hs : silence.isSome = true) (hr : refresh.isSome = true) :
    u.CallSound := by
  obtain ⟨n, hn⟩ := Option.isSome_iff_exists.1 relay
  obtain ⟨c, -, hst⟩ := relayCarrier_route hn
  have active : s.ple.state ≠ .idle := by obtain e | e | e := hst <;> simp [e]
  have carrier : u.ple.relayCarrier = s.ple.relayCarrier := by rw [ple]; rfl
  obtain ⟨-, ⟨h1, h2, h3, -, -, -, -, h8, h9⟩, counts, lamp⟩ := h
  refine ⟨fun e => absurd (by simpa [ple] using e) active, ?_, ?_, ?_⟩
  · simp only [State.CallTimersFit, carrier, relay]
    simp only [ple, ht, hs, hr, iff_self, true_and, implies_true, Option.isSome_none, Bool.false_eq_true, false_implies]
    exact ⟨h1, h2, h3, h8, h9⟩
  · simp only [State.CallCountsBounded, ple]
    exact counts
  · simp only [State.LampFollows, ple, cpi]
    exact lamp

/-- R1: with a trunk taken no answer is awaited and both timers of the trunk run. -/
theorem State.CallSound.taken {s : State} (h : s.CallSound) (trunk : s.ple.trunk.isSome = true) :
    s.ple.relayCarrier.isSome = true ∧ s.ple.answerTimer = none ∧ s.ple.carrierSilence.isSome = true ∧
      s.ple.holdRefresh.isSome = true := by
  obtain ⟨-, ⟨-, -, -, h4, h5, h6, h7, -⟩, -⟩ := h
  refine ⟨h5 trunk, ?_, h6.2 trunk, h7.2 trunk⟩
  by_contra hne
  simp [(h4 (Option.isSome_iff_ne_none.2 hne)).2] at trunk

theorem State.CallSound.restartSilence {s : State} (h : s.CallSound) (trunk : s.ple.trunk.isSome = true) :
    s.restartSilence.CallSound := by
  obtain ⟨relay, answered, -, refresh⟩ := h.taken trunk
  refine h.withTrunk (silence := some (s.clock.now + silenceMs)) relay ?_ rfl trunk rfl refresh
  simp [State.restartSilence, State.setPle, answered]

/-- R19: the hold refresh runs on. -/
theorem State.CallSound.refreshed {s : State} (h : s.CallSound) (trunk : s.ple.trunk.isSome = true) (at_ : Nat) :
    (s.setPle fun p => { p with holdRefresh := some at_ }).CallSound := by
  obtain ⟨relay, answered, silence, -⟩ := h.taken trunk
  refine h.withTrunk (refresh := some at_) relay ?_ rfl trunk silence rfl
  simp [State.setPle, answered]

theorem State.CallSound.moveToTrunk {s : State} (h : s.CallSound) (trunk : s.ple.trunk.isSome = true) (n : Nat)
    (tr : Trunk) : (s.moveToTrunk n tr).CallSound := by
  obtain ⟨relay, answered, -, refresh⟩ := h.taken trunk
  unfold State.moveToTrunk
  split
  · exact h.restartSilence trunk
  · refine h.withTrunk (tr := some tr) (silence := some (s.clock.now + silenceMs)) relay ?_ ?_ rfl rfl refresh
    · simp [State.restartSilence, State.takeTrunk, State.setPle, answered]
    · simp [State.takeTrunk, State.setPle]

theorem relayCarrier_of_isMatch {p : Ple} {src callId : Nat} (h : p.isMatch src callId = true) :
    p.relayCarrier.isSome = true := by
  simp only [Ple.isMatch, Bool.and_eq_true, beq_iff_eq] at h
  simp [h.1]

theorem State.CallSound.takeCack {s : State} (h : s.CallSound) (src callId : Nat) (tr : Trunk) :
    (s.takeCack src callId tr).CallSound := by
  unfold State.takeCack
  split_ifs with hm ha ht
  · refine h.withTrunk (tr := some tr) (silence := some (s.clock.now + silenceMs))
      (refresh := some (s.clock.now + holdRefreshMs)) (relayCarrier_of_isMatch hm) ?_ ?_ rfl rfl rfl
    · simp [State.restartSilence, State.takeTrunk, State.setPle]
    · simp [State.restartSilence, State.takeTrunk, State.setPle]
  · exact h.moveToTrunk ht src tr
  · exact (State.SameCall.of_eq (by simp) (by simp)).sound h
  · exact (State.SameCall.of_eq (by simp) (by simp)).sound h

theorem State.CallSound.takeTmov {s : State} (h : s.CallSound) (src callId : Nat) (tr : Trunk) :
    (s.takeTmov src callId tr).CallSound := by
  unfold State.takeTmov
  split <;> rename_i hm
  · exact h.moveToTrunk hm.2 src tr
  · exact h

theorem State.CallSound.heardCarrier {s : State} (h : s.CallSound) (field holder : Nat) :
    (s.heardCarrier field holder).CallSound := by
  unfold State.heardCarrier
  split <;> rename_i ht
  · split
    · exact h.restartSilence (by simp [ht])
    · exact h
  · exact h

/-- A relay attempt in hand is neither an offer nor a pause. -/
theorem relayCarrier_state {p : Ple} (h : p.relayCarrier.isSome = true) : p.state ≠ .bell ∧ p.state ≠ .waiting := by
  obtain ⟨n, hn⟩ := Option.isSome_iff_exists.1 h
  obtain ⟨c, -, e | e | e⟩ := relayCarrier_route hn <;> simp [e]

theorem State.CallSound.takeStage {s : State} (h : s.CallSound) (trunk : s.ple.trunk.isSome = true) (st : CprgStage) :
    (s.takeStage st).CallSound := by
  obtain ⟨relay, answered, -, -⟩ := h.taken trunk
  obtain ⟨bell, pause⟩ := relayCarrier_state relay
  have talks := (reportOutcome_sameCall _ .connected).sound (enterTalking_sound h bell pause answered)
  unfold State.takeStage
  split
  case _ => exact enterRinging_sound h bell pause answered _
  case _ => exact talks
  case _ => exact talks
  case _ => exact h.endAttempt bell pause _
  case _ => exact h.endAttempt bell pause _
  case _ => exact farEndClear_sound _
  case _ => exact h.loseTalk bell pause
  case _ => exact h

theorem State.CallSound.takeCprg {s : State} (h : s.CallSound) (src callId : Nat) (st : CprgStage) :
    (s.takeCprg src callId st).CallSound := by
  unfold State.takeCprg
  split <;> rename_i hm
  · exact (h.restartSilence hm.2).takeStage (by simpa [State.restartSilence, State.setPle] using hm.2) st
  · exact h

theorem State.CallSound.takeCnak {s : State} (h : s.CallSound) (src callId : Nat) (r : CnakReason) :
    (s.takeCnak src callId r).CallSound := by
  unfold State.takeCnak
  split <;> rename_i hm
  · obtain ⟨bell, pause⟩ := relayCarrier_state (relayCarrier_of_isMatch hm.1)
    exact h.endAttempt bell pause _
  · exact h

/-! ### The record's timers -/

/-- A timer of the attempt that runs stands in a state of an attempt. -/
theorem State.CallSound.inAttempt {s : State} (h : s.CallSound)
    (runs : s.ple.answerTimer.isSome = true ∨ s.ple.ringLimit.isSome = true ∨ s.ple.carrierSilence.isSome = true) :
    s.ple.state ≠ .bell ∧ s.ple.state ≠ .waiting := by
  obtain ⟨-, ⟨-, -, h3, h4, h5, h6, -⟩, -⟩ := h
  obtain e | e | e := runs
  · simp [(h4 e).1]
  · simp [h3.1 e]
  · exact relayCarrier_state (h5 (h6.1 e))

theorem secondPassed_sound {s : State} (h : s.CallSound) : s.countSecond.CallSound := by
  obtain ⟨clear, timers, ⟨c1, c2, c3, c4, c5⟩, lamp⟩ := h
  refine ⟨fun e => ?_, timers, ⟨c1, c2, c3, ?_, c5⟩, lamp⟩
  · have idle : s.ple.state = .idle := e
    simp only [State.countSecond, idle]
    rw [clear idle]
    simp [resetPle]
  · simp only [State.countSecond]
    split
    · exact Nat.min_le_left ..
    · exact c4

theorem engineReset_callSound (s : State) : s.engineReset.CallSound := by
  refine callSound_of_reset none rfl ?_
  simp [State.engineReset, State.setOutLamp, State.LampFollows, Cpi.engineReset, resetPle, lampOf]

/-- R29: the window of an IDLE record, or of one in a call. -/
theorem State.CallSound.window {s : State} (h : s.CallSound) (w : Option Nat) :
    (s.setPle fun p => { p with window := w }).CallSound := by
  obtain ⟨clear, timers, counts, lamp⟩ := h
  refine ⟨fun e => ?_, timers, counts, lamp⟩
  simp only [State.setPle, State.withPle_ple]
  rw [clear e]

/-- R164: the fast flash ends. -/
theorem State.CallSound.flashEnds {s : State} (h : s.CallSound) (flashes : s.cpi.fastFlash.isSome = true) (now : Nat) :
    (s.withCpi { s.cpi.setLamp .off now with fastFlash := none }).CallSound := by
  obtain ⟨clear, timers, counts, lamp⟩ := h
  refine ⟨clear, timers, counts, ⟨fun _ => ?_, nofun⟩⟩
  simp [(lamp.2 flashes).2, lampOf]

/-! ### Effects on the call record -/

theorem Effect.callSound {p : Bool} {k : Nat} {s t : State} (e : Effect p true k s t) (h : s.CallSound) : t.CallSound := by
  cases e
  case call x ok => exact ok rfl h
  case callPoint x _ ok => exact ok rfl h
  case second => exact secondPassed_sound h
  case engineReset => exact engineReset_callSound s
  case slot sl f _ _ => exact (setSlot_sameCall ..).sound h
  case table sl es _ => cases sl <;> exact h
  all_goals exact h

theorem Steps.callSound {p q : Bool} {k : Nat} {s t : State} (h : Steps p q k s t) (hq : q = true) (hs : s.CallSound) :
    t.CallSound := by
  induction h with
  | refl => exact hs
  | tail _ e ih => exact (hq ▸ e).callSound (ih hq hs)
  | closed _ _ _ ihb ihi => exact ihi hq (ihb hq hs)
  | closedCall _ _ call ihb _ => exact call hq (ihb hq hs)

end Sys2Proof.Machine
end

section
/-! The shared operations as sequences of effects. Each lemma says that an operation after some steps is some steps;
what an operation asks of a slot stands as its premise. -/

namespace Sys2Proof.Machine

/-! ### The slot records that the operations write -/

theorem SlotRec.Sound.fits {r : SlotRec} (h : r.Sound) : r.Fits := (r.sound_iff.1 h).1

/-- R62, R65: from one state past warm-up to another; no repeated DIAL is due any more. -/
theorem SlotRec.Fits.within {r r' : SlotRec} (h : r.Fits) (from_ : isPastWarmUp r.state = true)
    (into : isPastWarmUp r'.state = true) (power : r'.power = r.power) (beat : r'.heartbeat.isSome = r.heartbeat.isSome)
    (restart : r'.restartTimer = r.restartTimer) (faults : r'.faultTimes = r.faultTimes) (due : r'.repeatsDue = 0)
    (repeats : r'.repeats ≤ 2) (deadline : r'.deadline.isSome = runsDeadline r'.state)
    (request : requestFits r'.state r'.request = true) : r'.Fits := by
  obtain ⟨hp, hb, -, -, -, -, hr, -, -, -, hf⟩ := h
  have powered {st : SlotState} (h : isPastWarmUp st = true) : isPowered st = true := by cases st <;> simp_all [isPastWarmUp, isPowered]
  have notOut {st : SlotState} (h : isPastWarmUp st = true) : isOut st = false := by cases st <;> simp_all [isPastWarmUp, isOut]
  have noRestart : r.restartTimer = none := by
    by_contra hne
    rcases hr (Option.isSome_iff_ne_none.2 hne) with e | e <;> simp [e, isPastWarmUp] at from_
  have notRestarting : r'.state ≠ .restarting := fun e => by simp [e, isPastWarmUp] at into
  refine ⟨by rw [power, hp, powered from_, powered into], by rw [beat, hb, from_, into], by simp [deadline, due], request,
    by simp [notOut into], fun e => absurd e notRestarting, by simp [restart, noRestart], repeats,
    by simp [due], by simp [due], by rw [faults]; exact hf⟩

/-- R64: power is raised from OFF or RESTARTING. -/
theorem SlotRec.Sound.warm {r : SlotRec} (h : r.Sound) (now : Nat) (hs : r.state = .off ∨ r.state = .restarting) :
    (r.warm now).Fits := by
  obtain ⟨-, hb, -, -, -, -, -, hr, -, -, hf⟩ := h.fits
  have cold : r.heartbeat.isSome = false := by rcases hs with e | e <;> rw [hb, e] <;> rfl
  exact ⟨rfl, cold, rfl, rfl, nofun, nofun, nofun, hr, Nat.zero_le _, fun e => absurd rfl e, hf⟩

theorem SlotRec.Fits.startScan {r : SlotRec} (h : r.Fits) (now : Nat) (k : ScanKind) (hs : r.state = .idle) :
    (r.startScan now k).Fits :=
  h.within (by rw [hs]; rfl) rfl rfl rfl rfl rfl rfl h.2.2.2.2.2.2.2.1 rfl rfl

theorem SlotRec.Fits.startDial {r : SlotRec} (h : r.Fits) (now code : Nat) (hs : r.state = .idle) :
    (r.startDial now code).Fits :=
  h.within (by rw [hs]; rfl) rfl rfl rfl rfl rfl rfl (Nat.zero_le _) rfl rfl

/-- A slot past warm-up settles in a state with no request and no deadline. -/
theorem SlotRec.Fits.settled {r : SlotRec} (h : r.Fits) {st : SlotState} (hr : isPastWarmUp r.state = true)
    (hs : isPastWarmUp st = true) (hd : runsDeadline st = false) (hq : requestFits st .nothing = true) :
    (r.settled st).Fits :=
  h.within hr hs rfl rfl rfl rfl rfl h.2.2.2.2.2.2.2.1 hd.symm hq

theorem SlotRec.Fits.drop {r : SlotRec} (h : r.Fits) (now : Nat) (hr : isPastWarmUp r.state = true) :
    (r.drop now).Fits :=
  h.within hr rfl rfl rfl rfl rfl rfl h.2.2.2.2.2.2.2.1 rfl rfl

/-- R66: the record that a fault leaves fits whatever it was. -/
theorem SlotRec.Sound.faulted {r : SlotRec} (h : r.Sound) (now uptime : Nat) (len : Option Nat) :
    (r.faulted now uptime len).Fits := by
  have few : (recentFaults r.faultTimes uptime).length ≤ 2 := (List.length_filter_le ..).trans h.fits.2.2.2.2.2.2.2.2.2.2
  by_cases out : 2 ≤ (recentFaults r.faultTimes uptime).length
  · simp [SlotRec.Fits, SlotRec.faulted, out, isPowered, isPastWarmUp, runsDeadline, requestFits, few]
  · simp [SlotRec.Fits, SlotRec.faulted, out, isPowered, isPastWarmUp, runsDeadline, requestFits, isOut]
    omega

namespace Steps

variable {p q : Bool} {k : Nat} {s t : State}

/-! ### Single writes -/

theorem advanceTo (h : Steps p q k s t) {at_ : Nat} (due : at_ < t.clock.second + 1000) : Steps p q k s (t.advanceTo at_) :=
  h.eff (.time t at_ due)

theorem arrive (h : Steps p q k s t) (ms : Nat) : Steps p q k s (t.arrive ms) :=
  h.advanceTo (Nat.add_lt_add_left (Nat.lt_succ_of_le (Nat.min_le_right ms 999)) _)

theorem slot (h : Steps p q k s t) (sl : Slot) (f : SlotRec → SlotRec) (fits : (t.slot sl).Sound → (f (t.slot sl)).Fits)
    (same : (t.slot sl).SameCarries (f (t.slot sl)) := by exact ⟨rfl, fun _ => Iff.rfl⟩) :
    Steps p q k s (t.setSlot sl f) := h.eff (.slot t sl f fits fun _ => same)

/-- A write that changes which carries a slot tells of. -/
theorem slotCarries (h : Steps false q k s t) (sl : Slot) (f : SlotRec → SlotRec)
    (fits : (t.slot sl).Sound → (f (t.slot sl)).Fits) : Steps false q k s (t.setSlot sl f) := h.eff (.slot t sl f fits nofun)

theorem join (h : Steps p q k s t) (o : Owner) (x y : Endpoint) : Steps p q k s (t.xptJoin o x y) := h.eff (.join t o x y)

theorem break_ (h : Steps p q k s t) (o : Owner) : Steps p q k s (t.xptBreak o) := h.eff (.unjoin t o)

theorem joinTone (h : Steps p q k s t) : Steps p q k s t.joinTone := h.join ..

theorem rawCall (h : Steps p false k s t) (f : Ple → Ple) : Steps p false k s (t.setPle f) :=
  h.eff (.call t (f t.ple) nofun)

theorem call (h : Steps p q k s t) (f : Ple → Ple) (sound : t.CallSound → (t.setPle f).CallSound) :
    Steps p q k s (t.setPle f) := h.eff (.call t (f t.ple) fun _ => sound)

theorem rawTrunk (h : Steps false q k s t) (tr : Trunk) (e : TrunkEntry) : Steps false q k s (t.setTrunk tr e) :=
  h.eff (.trunks t _)

theorem trunk (h : Steps p q k s t) (tr : Trunk) (e : TrunkEntry) (same : e.owner = (t.trunk tr).owner) :
    Steps p q k s (t.setTrunk tr e) := h.closed (rawTrunk (.refl false q 0 t) tr e) fun _ => calm_setTrunk t tr e same

theorem rawCarry (h : Steps false q k s t) (id : CarryId) (f : CarryRec → CarryRec) : Steps false q k s (t.setCarry id f) :=
  h.eff (.carries t _ (by simp [updateCarry]) nofun)

/-- A carry record changed, but not what map and slots tell of it. -/
theorem carry (h : Steps p q k s t) (id : CarryId) (f : CarryRec → CarryRec) (ids : ∀ c, (f c).id = c.id)
    (same : t.QueueSound → ∀ c ∈ t.cye, c.id = id → (f c).view = c.view) : Steps p q k s (t.setCarry id f) :=
  h.closed (rawCarry (.refl false q 0 t) id f) fun _ => calm_setCarry t id f ids same

theorem choice (h : Steps p q k s t) (n : Nat) : Steps p q k s (t.withChoices n) := h.eff (.choice t n)

theorem rawCallPoint (h : Steps p false k s t) (x : Cpi) (lamp : x.outLamp = t.cpi.outLamp) :
    Steps p false k s (t.withCpi x) := h.eff (.callPoint t x lamp nofun)

theorem callPoint (h : Steps p q k s t) (x : Cpi) (lamp : x.outLamp = t.cpi.outLamp)
    (call : x.lamp = t.cpi.lamp ∧ x.fastFlash = t.cpi.fastFlash := by exact ⟨rfl, rfl⟩) : Steps p q k s (t.withCpi x) :=
  h.eff (.callPoint t x lamp fun _ => State.SameCall.sound ⟨rfl, call⟩)

theorem cutSampleTimer (h : Steps p q k s t) : Steps p q k s t.cutSampleTimer := h.eff (.supply t _ id)

/-! ### The line -/

theorem lineOf (h : Steps p q k s t) {u : State} (e : u = t.withLnc u.lnc) (sound : t.lnc.Sound → u.lnc.Sound)
    (quiet : t.own = none → t.lnc.Quiet → u.lnc.Quiet ∧ u.lnc.sent = t.lnc.sent) : Steps p q k s u := by
  rw [e]
  exact h.eff (.line t _ sound quiet)

theorem hand (h : Steps p q k s t) (d : Nat) (b : Body) : Steps p q k s (t.hand d b) := by
  refine h.lineOf ?_ (fun hs => hand_sound hs d b) fun hi hq => ?_
  · unfold State.hand
    cases t.own with
    | none => rfl
    | some n =>
      dsimp only
      split
      · unfold State.sendIfQuiet
        split <;> rfl
      · rfl
  · rw [hand_lnc, hi]
    exact ⟨hq, rfl⟩

theorem draw (h : Steps p q k s t) : Steps p q k s t.draw :=
  h.lineOf rfl (fun hs => by
    obtain ⟨h1, h2, h3, h4, h5, h6, h7, h8, h9, h10⟩ := hs
    exact ⟨h1, h2, h3, h4, h5, h6, h7, h8, h9, rngStep_ne_zero h10⟩) fun _ hq => ⟨hq, rfl⟩

theorem frameHeard (h : Steps p q k s t) (ms : Nat) : Steps p q k s (t.frameHeard ms) :=
  (h.arrive ms).lineOf rfl id fun _ hq => ⟨hq, rfl⟩

theorem dropFrame (h : Steps p q k s t) (f : FrameFate) : Steps p q k s (t.dropFrame f) := by
  unfold State.dropFrame
  split
  · refine h.lineOf rfl (fun hs => ?_) fun _ hq => ⟨hq, rfl⟩
    obtain ⟨h1, h2, h3, h4, h5, -, h7⟩ := hs
    exact ⟨h1, h2, h3, h4, h5, Nat.min_le_left .., h7⟩
  · exact h.lineOf rfl id fun _ hq => ⟨hq, rfl⟩
  all_goals exact h

/-! ### Adverts and tables -/

/-- A REACH is built only where the advert timer may run. -/
theorem buildReach (h : Steps p q k s t) (may : t.own = none → t.adv.timer ≠ .stopped) : Steps p q k s t.buildReach :=
  (h.draw.eff (.advert t.draw _ fun hi ha => absurd ha (may hi))).hand _ _

theorem watchAdvert (h : Steps p q k s t) : Steps p q k s t.watchAdvert := by
  unfold State.watchAdvert
  split <;> rename_i hd
  · have assigned : t.own ≠ none := fun e => by simp [e] at hd
    split
    · exact h.buildReach fun hi => absurd hi assigned
    · exact h.eff (.advert t _ fun hi _ => absurd hi assigned)
  · exact h

theorem advScanEnded (h : Steps p q k s t) : Steps p q k s t.advScanEnded := by
  unfold State.advScanEnded
  split <;> rename_i ht
  · exact h.buildReach fun _ e => by simp [e] at ht
  · exact h

theorem table (h : Steps p q k s t) (sl : Slot) (f : List NetEntry → List NetEntry)
    (sound : tableSound (t.table sl) → tableSound (f (t.table sl))) : Steps p q k s (t.tableEvent sl f) :=
  (h.eff (.table t sl _ sound)).watchAdvert

theorem tableUpdate (h : Steps p q k s t) (sl : Slot) (code : Nat) (f : NetEntry → NetEntry)
    (hc : ∀ e, (f e).code = e.code) (hs : ∀ e, e.Sound → (f e).Sound) :
    Steps p q k s (t.tableEvent sl (updateEntry code f)) :=
  h.table sl _ fun ht => ht.update code f hc hs

theorem takeNets (h : Steps p q k s t) (sl : Slot) (is : List NetItem) : Steps p q k s (t.takeNets sl is) :=
  h.table sl _ fun ht => ht.takeItems [] (goodItems_sound is [])

theorem takeBeat (h : Steps p q k s t) (sl : Slot) (camped level : Option Nat) : Steps p q k s (t.takeBeat sl camped level) := by
  cases camped with
  | none => exact h
  | some code =>
    refine h.tableUpdate sl code _ (fun _ => rfl) fun e he => ⟨he.1, fun l hl => ?_, Nat.zero_le _, he.2.2.2⟩
    obtain ⟨m, -, rfl⟩ := Option.map_eq_some_iff.1 hl
    exact Nat.min_le_right ..

theorem barEntry (h : Steps p q k s t) (sl : Slot) (code : Nat) : Steps p q k s (t.barEntry sl code) :=
  h.tableUpdate sl code _ (fun _ => rfl) fun _ he => he

theorem reportEntry (h : Steps p q k s t) (sl : Slot) (code : Nat) (r : Report) : Steps p q k s (t.reportEntry sl code r) :=
  h.tableUpdate sl code _ (fun _ => rfl) fun _ he => ⟨he.1, he.2.1, he.2.2.1, he.2.2.2.report _ r⟩

theorem reportNeighbour (h : Steps p q k s t) (addr : Nat) (r : Report) : Steps p q k s (t.reportNeighbour addr r) :=
  h.eff (.neighbours t _ fun hs => updateNeighbour_sound hs addr _ (fun _ => rfl) fun _ hn =>
    ⟨hn.1, hn.2.1, hn.2.2.1, hn.2.2.2.1, hn.2.2.2.2.1, hn.2.2.2.2.2.1, hn.2.2.2.2.2.2.1, hn.2.2.2.2.2.2.2.report _ r⟩)

/-! ### Slots -/

theorem requestDial (h : Steps p q k s t) (sl : Slot) (x : Holder) (code : Nat) : Steps p q k s (t.requestDial sl x code) := by
  unfold State.requestDial
  split <;> rename_i hc
  · exact h.slot sl _ fun hs => hs.fits.startDial _ _ hc.1
  · exact h

theorem grantCarry (h : Steps false q k s t) (sl : Slot) (c : CarryRec) : Steps false q k s (t.grantCarry sl c) :=
  (((h.slotCarries sl _ fun hs => hs.fits).join ..).requestDial ..).rawCarry ..

theorem arbiter (h : Steps p q k s t) (sl : Slot) : Steps p q k s (t.arbiter sl) := by
  refine h.closed (?_ : Steps false q 0 t _) fun _ => calm_arbiter t sl
  have here : Steps false q 0 t t := .refl false q 0 t
  unfold State.arbiter
  split <;> rename_i hi
  · split
    · exact (here.slotCarries sl _ fun hs => hs.fits).requestDial ..
    · exact here.slotCarries sl _ fun hs =>
        SlotRec.Fits.startScan (r := { t.slot sl with waitingLocal := none }) hs.fits _ _ hi.1
    · split
      · exact here.grantCarry ..
      · split
        · exact here.slotCarries sl _ fun hs =>
            SlotRec.Fits.startScan (r := { t.slot sl with waitingScan := false }) hs.fits _ _ hi.1
        · exact here
  · exact here

/-- R68: a claim of the local call or for a scan. -/
theorem placeClaim (h : Steps p q k s t) (sl : Slot) (c : Claim) (noCarry : ∀ id, c ≠ .carry id) :
    Steps p q k s (t.placeClaim sl c) := by
  have claimed : Steps p q k s (t.setSlot sl (SlotRec.addClaim c)) := by
    cases c with
    | localCall | scan => exact h.slot sl _ fun hs => hs.fits
    | carry id => exact absurd rfl (noCarry id)
  unfold State.placeClaim
  dsimp only
  split <;> rename_i hoff
  · split
    · refine claimed.slot sl _ fun hs => hs.warm _ (.inl ?_)
      rw [State.setSlot_slot, (settleIdle_fields _ _).1]
      cases c <;> exact hoff
    · exact claimed
  · exact claimed.arbiter sl

theorem placeCarryClaim (h : Steps false q k s t) (sl : Slot) (id : CarryId) :
    Steps false q k s (t.placeClaim sl (.carry id)) := by
  have claimed : Steps false q k s (t.setSlot sl (SlotRec.addClaim (.carry id))) := h.slotCarries sl _ fun hs => hs.fits
  unfold State.placeClaim
  dsimp only
  split <;> rename_i hoff
  · split
    · refine claimed.slot sl _ fun hs => hs.warm _ (.inl ?_)
      rw [State.setSlot_slot, (settleIdle_fields _ _).1]
      exact hoff
    · exact claimed
  · exact claimed.arbiter sl

theorem withdrawLocal (h : Steps p q k s t) (sl : Slot) : Steps p q k s (t.withdrawLocal sl) := h.slot sl _ fun hs => hs.fits

theorem withdrawCarry (h : Steps false q k s t) (sl : Slot) (id : CarryId) : Steps false q k s (t.withdrawCarry sl id) :=
  h.slotCarries sl _ fun hs => hs.fits

theorem withdrawEmergency (h : Steps p q k s t) (sl : Slot) : Steps p q k s (t.withdrawEmergency sl) := by
  unfold State.withdrawEmergency
  split
  · exact h.withdrawLocal sl
  · exact h

theorem rawRelease (h : Steps false q k s t) (sl : Slot) (x : Holder) : Steps false q k s (t.release sl x) := by
  unfold State.release
  split
  · split <;> rename_i hst
    · exact (h.slotCarries sl _ fun hs => hs.fits).arbiter sl
    iterate 3 exact h.slotCarries sl _ fun hs => hs.fits.drop _ (by rw [hst]; rfl)
    · exact (h.slotCarries sl _ fun hs => hs.fits.settled (by rw [hst]; rfl) rfl rfl rfl).arbiter sl
    · exact h.slotCarries sl _ fun hs => hs.fits
  · exact h

/-- R70: PLE releases its grant. -/
theorem release (h : Steps p q k s t) (sl : Slot) : Steps p q k s (t.release sl .localCall) :=
  h.closed (rawRelease (.refl false q 0 t) sl _) fun _ => calm_release t sl rfl

theorem takeOffer (h : Steps p q k s t) (sl : Slot) : Steps p q k s (t.takeOffer sl) := by
  unfold State.takeOffer
  split <;> rename_i hst
  · exact h.slot sl _ fun hs => hs.fits.settled (by rw [hst]; rfl) rfl rfl rfl
  · exact h

theorem refuseCallin (h : Steps p q k s t) (sl : Slot) : Steps p q k s (t.refuseCallin sl) := h.slot sl _ fun hs => hs.fits

theorem closeScan (h : Steps p q k s t) (sl : Slot) (up : isPastWarmUp (t.slot sl).state = true)
    (scans : (t.slot sl).grant.isCarry = false) : Steps p q k s (t.closeScan sl) :=
  h.slot sl _ (fun hs => hs.fits.within up rfl rfl rfl rfl rfl rfl hs.fits.2.2.2.2.2.2.2.1 rfl rfl)
    (.of_grant rfl scans rfl)

theorem hearModule (h : Steps p q k s t) (sl : Slot) (up : isPastWarmUp (t.slot sl).state = true) :
    Steps p q k s (t.hearModule sl) :=
  h.slot sl _ fun hs => ⟨hs.fits.1, up.symm, hs.fits.2.2⟩

theorem supplyChangedAt (h : Steps p q k s t) (old : Supply) (sl : Slot) : Steps p q k s (t.supplyChangedAt old sl) := by
  unfold State.supplyChangedAt
  split <;> rename_i hout
  · exact h
  · have clear {r : SlotRec} (hr : r = t.slot sl) : isOut r.state = true → r.scanTimer = none := fun e => absurd (hr ▸ e) hout
    split
    · refine h.slot sl _ fun hs => ?_
      obtain ⟨h1, h2, h3, h4, -, h6⟩ := hs.fits
      exact ⟨h1, h2, h3, h4, fun _ => rfl, h6⟩
    · refine h.slot sl _ fun hs => ?_
      obtain ⟨h1, h2, h3, h4, -, h6⟩ := hs.fits
      exact ⟨h1, h2, h3, h4, fun e => absurd e hout, h6⟩
    · exact h

/-! ### Trunks and carries -/

theorem freeTrunk (h : Steps false q k s t) (tr : Trunk) (id : CarryId) : Steps false q k s (t.freeTrunk tr id) := by
  unfold State.freeTrunk
  split
  · exact (h.rawTrunk ..).hand ..
  · exact h

theorem giveUpSlot (h : Steps false q k s t) (c : CarryRec) : Steps false q k s (t.giveUpSlot c) := by
  unfold State.giveUpSlot
  split
  · exact h.withdrawCarry ..
  · exact h.rawRelease ..

/-- R108: the end of a carry that is in the queue logs one record and removes one. -/
theorem rawEndCarry (h : Steps false q k s t) (c : CarryRec) (told : Option CprgReason) (freed : Bool)
    (report : Option Report) (o : LogOutcome) (held : ∃ d ∈ t.cye, d.id = c.id) :
    Steps false q k s (t.endCarry c told freed report o) := by
  unfold State.endCarry
  extract_lets s1 s2 s3 s4 s5
  have h1 : Steps false q k s s1 := by cases told <;> [exact h; exact h.hand ..]
  have h3 : Steps false q k s s3 := by
    cases freed
    · exact (h1.giveUpSlot c).break_ _
    · exact ((h1.giveUpSlot c).break_ _).freeTrunk ..
  have h4 : Steps false q k s s4 := by cases report <;> [exact h3; exact h3.reportEntry ..]
  refine h4.eff (.carryLog s4 _ c.id ?_)
  have c1 : s1.cye = t.cye := by cases told <;> simp [s1]
  have c3 : s3.cye = (s1.giveUpSlot c).cye := by cases freed <;> simp [s3, s2]
  have c4 : s4.cye = s3.cye := by cases report <;> simp [s4]
  rwa [exists_id_iff, c4, c3, ids_of_held (giveUpSlot_held _ _), c1, ← exists_id_iff]

theorem endCarry (h : Steps p q k s t) {c : CarryRec} (hc : c ∈ t.cye) (told : Option CprgReason) (report : Option Report)
    (o : LogOutcome) : Steps p q k s (t.endCarry c told true report o) :=
  h.closed (rawEndCarry (.refl false q 0 t) c told true report o ⟨c, hc, rfl⟩) fun _ => calm_endCarry hc told report o

theorem carryClaimFault (h : Steps p q k s t) (id : CarryId) : Steps p q k s (t.carryClaimFault id) := by
  unfold State.carryClaimFault
  split <;> rename_i hf
  · exact h.endCarry (findCarry_some hf).1 ..
  · exact h

theorem carryClaimFaults (h : Steps p q k s t) (ids : List CarryId) : Steps p q k s (t.carryClaimFaults ids) := by
  have each (cs : List CarryRec) : ∀ {u}, Steps p q k s u → Steps p q k s (cs.foldl (fun st c => st.carryClaimFault c.id) u) := by
    induction cs with
    | nil => exact id
    | cons c cs ih => exact fun hu => ih (hu.carryClaimFault c.id)
  exact each _ h

/-- R93: an acceptance lengthens the queue by one record, which a refused claim ends at once. -/
theorem acceptCarry (h : Steps false q 0 s t) (id : CarryId) (code : Nat) (sl : Slot) (tr : Trunk) :
    Steps false q 1 s (t.acceptCarry id code sl tr) := by
  unfold State.acceptCarry
  extract_lets s1 s2 s3 s4
  have h2 : Steps false q 1 s s2 := (h.rawTrunk tr _).tail (.acceptance s1 _)
  have h3 : Steps false q 1 s s3 := by
    unfold s3
    split
    · exact h2.cutSampleTimer
    · exact h2
  have h4 : Steps false q 1 s s4 := h3.hand ..
  split
  · exact h4.carryClaimFault id
  · exact h4.placeCarryClaim ..

theorem takeCreq (h : Steps false q 0 s t) (src callId code : Nat) : Steps false q 1 s (t.takeCreq src callId code) := by
  have h1 : Steps false q 1 s t := h.mono (Nat.zero_le 1)
  unfold State.takeCreq
  repeat' split
  case _ => exact h1.hand ..
  case _ => exact h1.hand ..
  case _ => exact h1.hand ..
  case _ => exact h1.hand ..
  case _ => exact h1.hand ..
  case _ => exact h1.hand ..
  case _ => exact h.acceptCarry ..
  case _ => exact h1

theorem carryReport (h : Steps p q k s t) (id : CarryId) (r : SlotReport) : Steps p q k s (t.carryReport id r) := by
  unfold State.carryReport
  split <;> rename_i hf
  · exact h
  · rename_i c
    obtain ⟨held, hi⟩ := findCarry_some hf
    have moved (st : CarryState) (past : st ≠ .queued) (was : c.state ≠ .queued) :
        Steps p q k s (t.setCarry id fun d => { d with state := st }) :=
      h.carry _ _ (fun _ => rfl) fun hq d hd e => by simp [CarryRec.view, hq.unique hd held (e.trans hi.symm), past, was]
    split
    case _ =>
      split <;> rename_i hst
      · exact (moved .ringing (by simp) (by simp [hst])).hand ..
      · exact h
    case _ =>
      split <;> rename_i hst
      · exact ((moved .talking (by simp) (by obtain e | e := hst <;> simp [e])).hand ..).reportEntry ..
      · exact h
    case _ => exact h
    case _ => exact h.endCarry held ..
    case _ => exact h.endCarry held ..
    case _ => exact h.endCarry held ..
    case _ => split <;> exact h.endCarry held ..
    case _ => exact h.endCarry held ..
    case _ => exact h.endCarry held ..

theorem takeCend (h : Steps p q k s t) (src callId : Nat) (cause : CendCause) : Steps p q k s (t.takeCend src callId cause) := by
  unfold State.takeCend
  split <;> rename_i hf
  · exact h.endCarry (findCarry_some hf).1 ..
  · exact h

theorem carryHeardHold (h : Steps p q k s t) (src holder callId : Nat) : Steps p q k s (t.carryHeardHold src holder callId) := by
  unfold State.carryHeardHold
  split
  · exact h.carry _ _ (fun _ => rfl) fun _ _ _ _ => rfl
  · exact h

theorem carryMoved (h : Steps false q k s t) (id : CarryId) (tr : Trunk) : Steps false q k s (t.carryMoved id tr) := by
  unfold State.carryMoved
  split
  · exact h
  · dsimp only
    split
    · exact h.rawCarry ..
    · exact (h.rawCarry ..).join ..

theorem loseTrunk (h : Steps p q k s t) (tr : Trunk) (id : CarryId) (winner : Nat)
    (own : (t.trunk tr).owner = some id) : Steps p q k s (t.loseTrunk tr id winner) := by
  refine h.closed (?_ : Steps false q 0 t _) fun _ => calm_loseTrunk t tr id winner own
  have here : Steps false q 0 t t := .refl false q 0 t
  unfold State.loseTrunk
  dsimp only
  split
  · exact (((here.rawTrunk ..).rawTrunk ..).hand ..).carryMoved ..
  · unfold State.carryTrunkLost
    split <;> rename_i hf
    · exact (here.rawTrunk ..).rawEndCarry _ _ _ _ _ ⟨_, (findCarry_some hf).1, rfl⟩
    · exact here.rawTrunk ..

theorem mapAnnounced (h : Steps p q k s t) (src field : Nat) : Steps p q k s (t.mapAnnounced src field) := by
  unfold State.mapAnnounced
  split
  · split
    · exact h
    · unfold State.trunkAnnounced
      split <;> rename_i he
      · exact h.trunk _ _ (by rw [he]; rfl)
      · exact h.trunk _ _ (by rw [he]; rfl)
      · split
        · exact h.loseTrunk _ _ _ (by rw [he]; rfl)
        · exact h.trunk _ _ (by rw [he]; rfl)
      · exact h.hand ..
  · exact h

theorem mapHeld (h : Steps p q k s t) (src field holder partner : Nat) : Steps p q k s (t.mapHeld src field holder partner) := by
  unfold State.mapHeld
  split
  · split
    · exact h
    · unfold State.trunkHeld
      split <;> rename_i he
      · exact h.trunk _ _ (by rw [he]; rfl)
      · exact h.trunk _ _ (by rw [he]; rfl)
      · split
        · exact h
        · exact h.loseTrunk _ _ _ (by rw [he]; rfl)
      · split
        · exact h.loseTrunk _ _ _ (by rw [he]; rfl)
        · exact h.hand ..
  · exact h

theorem mapFreed (h : Steps p q k s t) (src field : Nat) : Steps p q k s (t.mapFreed src field) := by
  unfold State.mapFreed
  split
  · split
    · exact h
    · split <;> rename_i he
      · split
        · exact h.trunk _ _ (by rw [he]; rfl)
        · exact h
      · exact h
  · exact h

end Steps
end Sys2Proof.Machine
end

section
/-! The placement engine's operations, the faults and every command that is no reset as sequences of effects. -/

namespace Sys2Proof.Machine

theorem Cpi.setLamp_outLamp (c : Cpi) (m : LampMode) (now : Nat) : (c.setLamp m now).outLamp = c.outLamp := by
  unfold Cpi.setLamp
  split <;> rfl

theorem Cpi.ringBell_outLamp (c : Cpi) (now : Nat) : (c.ringBell now).outLamp = c.outLamp := by
  unfold Cpi.ringBell
  split <;> rfl

theorem Cpi.lampAtClose_outLamp (c : Cpi) (o : LogOutcome) (now : Nat) : (c.lampAtClose o now).outLamp = c.outLamp := by
  unfold Cpi.lampAtClose
  split <;> exact c.setLamp_outLamp ..

/-! ### A fault, in its parts (R66) -/

/-- R66 step 2: the report to the holder or of the scan. -/
def State.faultHolder (s : State) (sl : Slot) (r : SlotRec) : State :=
  match r.grant with
  | .scan kind => s.reportScanEnd sl kind
  | holder => s.reportHolder sl holder (.fault (r.state != SlotState.idle))

/-- R66 steps 2 and 3, but for the carries of the waiting claims. -/
def State.faultReports (s : State) (sl : Slot) (r : SlotRec) : State :=
  match r.waitingLocal with
  | some .dial => (s.faultHolder sl r).localClaimFault
  | some .emergencyScan => (s.faultHolder sl r).emergencyScanEnded sl
  | none => s.faultHolder sl r

/-- R66 step 1, with ADV's look at the tables. -/
def State.faultCut (s : State) (sl : Slot) : State :=
  (s.setSlot sl fun r => r.faulted s.clock.now s.cfg.uptime s.scanLength).watchAdvert

theorem slotFault_eq (s : State) (sl : Slot) : s.slotFault sl =
    ((s.faultCut sl).faultReports sl (s.slot sl)).carryClaimFaults (s.slot sl).waitingCarry := rfl

namespace Steps

variable {p q : Bool} {k : Nat} {s t : State}

/-! ### Rounds and attempts -/

theorem enterCallState (h : Steps p false k s t) (st : CallState) : Steps p false k s (t.enterCallState st) := by
  unfold State.enterCallState
  dsimp only
  split
  · exact (h.cutSampleTimer.eff (.call _ _ nofun)).rawCallPoint _ (Cpi.setLamp_outLamp ..)
  · exact (h.eff (.call _ _ nofun)).rawCallPoint _ (Cpi.setLamp_outLamp ..)

theorem reportOutcome (h : Steps p q k s t) (o : Outcome) : Steps p q k s (t.reportOutcome o) := by
  unfold State.reportOutcome
  split
  · exact h.reportEntry ..
  · exact h.reportNeighbour ..
  · exact h

theorem enterWaiting (h : Steps p false k s t) : Steps p false k s t.enterWaiting :=
  (h.enterCallState _).joinTone.rawCall _

theorem claimEmergency (h : Steps p false k s t) (sl : Slot) : Steps p false k s (t.claimEmergency sl) :=
  (h.rawCall _).placeClaim _ _ nofun

theorem waitForScans (h : Steps p false k s t) : Steps p false k s t.waitForScans := by
  unfold State.waitForScans
  dsimp only
  split_ifs
  · exact (h.enterWaiting.claimEmergency _).claimEmergency _
  · exact h.enterWaiting.claimEmergency _
  · exact h.enterWaiting.claimEmergency _
  · exact h.enterWaiting

theorem clearAttempt (h : Steps p false k s t) : Steps p false k s t.clearAttempt := (h.rawCall _).joinTone

theorem tryRoutes (cs : List Candidate) (h : Steps p false k s t) : Steps p false k s (State.tryRoutes cs t) := by
  induction cs generalizing t with
  | nil => exact h.enterWaiting
  | cons c cs ih =>
    have begun : Steps p false k s (t.beginAttempt c) := h.rawCall _
    rw [State.tryRoutes]
    split
    · exact ih begun.clearAttempt
    · split
      · exact ((begun.enterCallState _).joinTone.hand ..).rawCall _
      · split
        · exact ih (begun.enterCallState _).joinTone.clearAttempt
        · exact (begun.enterCallState _).joinTone.placeClaim _ _ nofun

theorem startRound (h : Steps p false k s t) : Steps p false k s t.startRound := by
  have built : Steps p false k s ((t.setPle fun p => { p with rounds := min 255 (p.rounds + 1), tried := [] }).withRsl
      (buildList t)) := (h.rawCall _).eff (.routes _ _)
  unfold State.startRound
  dsimp only
  split
  · exact built.waitForScans
  · exact built.tryRoutes _

theorem rawEndAttempt (h : Steps p false k s t) (o : Outcome) : Steps p false k s (t.endAttempt o) :=
  (h.reportOutcome o).clearAttempt.tryRoutes _

/-- R25, R26: an attempt ends and the next route is taken. -/
theorem endAttempt (h : Steps p q k s t) (o : Outcome)
    (attempt : t.CallSound → t.ple.state ≠ .bell ∧ t.ple.state ≠ .waiting) : Steps p q k s (t.endAttempt o) :=
  h.closedCall (rawEndAttempt (.refl p false 0 t) o) fun _ hs => hs.endAttempt (attempt hs).1 (attempt hs).2 o

theorem rawEndOwnAttempt (h : Steps p false k s t) (sl : Slot) (o : Outcome) :
    Steps p false k s (t.endOwnAttempt sl o) := (h.release _).rawEndAttempt o

theorem endOwnAttempt (h : Steps p q k s t) (sl : Slot) (o : Outcome)
    (attempt : t.CallSound → t.ple.state ≠ .bell ∧ t.ple.state ≠ .waiting) : Steps p q k s (t.endOwnAttempt sl o) :=
  h.closedCall (rawEndOwnAttempt (.refl p false 0 t) sl o) fun _ hs =>
    hs.endOwnAttempt (attempt hs).1 (attempt hs).2 sl o

theorem rawEndWaiting (h : Steps p false k s t) : Steps p false k s t.endWaiting :=
  (((h.withdrawEmergency _).withdrawEmergency _).rawCall _).startRound

/-- R11, R12: a pause ends and the next round starts. -/
theorem endWaiting (h : Steps p q k s t) (waits : t.CallSound → t.ple.state = .waiting) : Steps p q k s t.endWaiting :=
  h.closedCall (rawEndWaiting (.refl p false 0 t)) fun _ hs => hs.endWaiting (waits hs)

theorem enterTalking (h : Steps p false k s t) : Steps p false k s t.enterTalking := (h.enterCallState _).rawCall _

/-! ### The open and the close of a call -/

theorem openRecord (h : Steps p false k s t) (o : Origin) : Steps p false k s (t.openRecord o) :=
  (h.eff (.call _ _ nofun)).eff (.nextCallId _ (t.svc.nextCallId + 1))

theorem windUp (h : Steps p q k s t) (cause : CendCause) : Steps p q k s (t.windUp cause) := by
  unfold State.windUp
  split
  case _ => exact h.release _
  case _ => exact (h.withdrawLocal _).release _
  case _ => exact h.release _
  case _ => exact h.release _
  case _ => exact (h.withdrawEmergency _).withdrawEmergency _
  case _ =>
    split
    · split
      · exact h.hand ..
      · exact h
    · exact h

theorem rawFinishCall (h : Steps p false 0 s t) (o : LogOutcome) : Steps p false 1 s (t.finishCall o) :=
  have logged : Steps p false 1 s ((t.xptBreak .localCall).logAppend ((t.xptBreak .localCall).closeLog o)) :=
    (h.break_ _).tail (.callLog _ _)
  (logged.rawCallPoint _ (by exact Cpi.lampAtClose_outLamp ..)).eff (.call _ _ nofun)

/-- R6: a close logs one record. -/
theorem finishCall (h : Steps p q 0 s t) (o : LogOutcome) : Steps p q 1 s (t.finishCall o) :=
  h.closedCall (k := 1) (rawFinishCall (.refl p false 0 t) o) fun _ _ => finishCall_sound t o

theorem closeCall (h : Steps p q 0 s t) (cause : CendCause) (o : LogOutcome) : Steps p q 1 s (t.closeCall cause o) :=
  (h.windUp cause).finishCall o

theorem resumeOrClose (h : Steps p false 0 s t) : Steps p false 1 s t.resumeOrClose := by
  unfold State.resumeOrClose
  split
  · exact ((h.joinTone.rawCall _).startRound).mono (Nat.zero_le 1)
  · exact h.finishCall _

theorem rawLoseTalk (h : Steps p false 0 s t) : Steps p false 1 s t.loseTalk := by
  unfold State.loseTalk
  dsimp only
  split
  · exact (((h.reportOutcome _).release _).rawCall _).resumeOrClose
  · exact ((h.reportOutcome _).rawCall _).resumeOrClose

/-- R27: a loss in TALKING. -/
theorem loseTalk (h : Steps p q 0 s t) (talks : t.ple.state = .talking) : Steps p q 1 s t.loseTalk :=
  h.closedCall (k := 1) (rawLoseTalk (.refl p false 0 t)) fun _ hs => hs.loseTalk (by simp [talks]) (by simp [talks])

theorem farEndClear (h : Steps p q 0 s t) : Steps p q 1 s t.farEndClear := by
  unfold State.farEndClear
  split
  · exact (h.release _).finishCall _
  · exact h.finishCall _

/-! ### Reports and faults -/

theorem rawLocalReport (h : Steps p false 0 s t) (sl : Slot) (r : SlotReport) :
    Steps p false 1 s (t.localReport sl r) := by
  have weak {u : State} (hu : Steps p false 0 s u) : Steps p false 1 s u := hu.mono (Nat.zero_le 1)
  unfold State.localReport
  split
  case h_1 =>
    split
    case _ => exact h.finishCall _
    case _ => exact h.finishCall _
    case _ => exact weak h
  case h_2 =>
    split
    case _ => exact weak ((h.enterCallState _).rawCall _)
    case _ => exact weak ((h.join ..).enterTalking.reportOutcome _)
    case _ => exact weak (h.rawEndOwnAttempt ..)
    case _ => exact weak (h.rawEndOwnAttempt ..)
    case _ => exact weak (h.rawEndOwnAttempt ..)
    case _ => exact weak (h.rawEndOwnAttempt ..)
    case _ => exact weak (h.rawEndOwnAttempt ..)
    case _ => exact weak h
  case h_3 =>
    split
    case _ => exact weak (h.join ..)
    case _ => exact weak ((h.join ..).enterTalking.reportOutcome _)
    case _ => exact weak (h.rawEndOwnAttempt ..)
    case _ => exact weak (h.rawEndOwnAttempt ..)
    case _ => exact weak (h.rawEndOwnAttempt ..)
    case _ => exact weak h
  case h_4 =>
    split
    case _ => exact h.farEndClear
    case _ => exact h.rawLoseTalk
    case _ => exact h.rawLoseTalk
    case _ => exact weak h
  case h_5 => exact weak h

theorem localReport (h : Steps p q 0 s t) (sl : Slot) (r : SlotReport) : Steps p q 1 s (t.localReport sl r) :=
  h.closedCall (k := 1) (rawLocalReport (.refl p false 0 t) sl r) fun _ hs => hs.localReport sl r

theorem reportHolder (h : Steps p q 0 s t) (sl : Slot) (x : Holder) (r : SlotReport) : Steps p q 1 s (t.reportHolder sl x r) := by
  unfold State.reportHolder
  split
  case _ => exact h.localReport ..
  case _ => exact (h.carryReport ..).mono (Nat.zero_le 1)
  all_goals exact h.mono (Nat.zero_le 1)

theorem localClaimFault (h : Steps p q k s t) : Steps p q k s t.localClaimFault := by
  unfold State.localClaimFault
  split <;> rename_i hd
  · exact h.endAttempt _ fun _ => by simp [hd]
  · exact h

theorem emergencyScanEnded (h : Steps p q k s t) (sl : Slot) : Steps p q k s (t.emergencyScanEnded sl) := by
  refine h.closedCall (?_ : Steps p false 0 t _) fun _ hs => hs.emergencyScanEnded sl
  have here : Steps p false 0 t t := .refl ..
  unfold State.emergencyScanEnded
  split
  · dsimp only
    split
    · exact (here.rawCall _).rawEndWaiting
    · exact here.rawCall _
  · exact here

theorem reportScanEnd (h : Steps p q k s t) (sl : Slot) (kind : ScanKind) : Steps p q k s (t.reportScanEnd sl kind) := by
  unfold State.reportScanEnd
  cases kind
  · exact (h.emergencyScanEnded sl).advScanEnded
  · exact h.advScanEnded

theorem endScan (h : Steps p q k s t) (sl : Slot) (up : isPastWarmUp (t.slot sl).state = true) :
    Steps p q k s (t.endScan sl) := by
  unfold State.endScan
  split <;> rename_i hg
  · exact ((h.closeScan sl up (by rw [hg]; rfl)).reportScanEnd ..).arbiter sl
  · exact h

theorem faultReports (h : Steps p q 0 s t) (sl : Slot) (r : SlotRec) : Steps p q 1 s (t.faultReports sl r) := by
  unfold State.faultReports
  have h2 : Steps p q 1 s (t.faultHolder sl r) := by
    unfold State.faultHolder
    split
    · exact (h.reportScanEnd ..).mono (Nat.zero_le 1)
    · exact h.reportHolder ..
  split
  · exact h2.localClaimFault
  · exact h2.emergencyScanEnded sl
  · exact h2

end Steps

/-! ### A fault leaves the carries in agreement (R66) -/

theorem carryReport_fault_gone (s : State) (id : CarryId) (d : Bool) :
    id ∉ (s.carryReport id (.fault d)).cye.map CarryRec.id := by
  unfold State.carryReport
  split <;> rename_i hf
  · exact findCarry_none hf
  · obtain ⟨-, rfl⟩ := findCarry_some hf
    exact endCarry_gone _ _ _ _ _ _

theorem faultReports_gone (s : State) (sl : Slot) {r : SlotRec} {id : CarryId} (h : r.grant = .carry id) :
    id ∉ (s.faultReports sl r).cye.map CarryRec.id := by
  have told : id ∉ (s.faultHolder sl r).cye.map CarryRec.id := by
    rw [State.faultHolder, h]
    exact carryReport_fault_gone s id (r.state != .idle)
  have here : Steps true true 1 (s.faultHolder sl r) (s.faultHolder sl r) := .refl ..
  unfold State.faultReports
  split
  · exact fun hi => told ((here.localClaimFault.calm rfl).2 id hi)
  · exact fun hi => told (((here.emergencyScanEnded sl).calm rfl).2 id hi)
  · exact told

theorem carryClaimFaults_calm (s : State) (ids : List CarryId) : Calm s (s.carryClaimFaults ids) :=
  ((Steps.refl true true 0 s).carryClaimFaults ids).calm rfl

theorem carryClaimFaults_gone (s : State) (ids : List CarryId) {c : CarryRec} (hc : c ∈ (s.carryClaimFaults ids).cye) :
    c.id ∉ ids := by
  have each (cs : List CarryRec) : ∀ u : State, ∀ d ∈ cs,
      d.id ∉ (cs.foldl (fun st c => st.carryClaimFault c.id) u).cye.map CarryRec.id := by
    induction cs with
    | nil => simp
    | cons e cs ih =>
      intro u d hd
      obtain rfl | hd := List.mem_cons.1 hd
      · have rest : ∀ v : State, Calm v (cs.foldl (fun st c => st.carryClaimFault c.id) v) := by
          clear ih hd
          induction cs with
          | nil => exact fun _ => .rfl
          | cons e cs ih => exact fun v => (calm_carryClaimFault v e.id).trans (ih _)
        exact fun hi => carryClaimFault_gone u d.id ((rest _).2 _ hi)
      · exact ih _ d hd
  intro hi
  obtain ⟨d, hd, e⟩ := List.mem_map.1 ((carryClaimFaults_calm s ids).2 c.id (List.mem_map_of_mem hc))
  have member : d ∈ s.cye.filter fun c => ids.contains c.id := List.mem_filter.2 ⟨hd, by simpa [e] using hi⟩
  exact each _ s d member (List.mem_map.2 ⟨c, hc, e.symm⟩)

/-- A carry does not both wait at a slot and hold it. -/
theorem State.CarriesBut.not_both {s : State} {off : CarryId → Prop} (h : s.CarriesBut off) {sl : Slot} {i : CarryId}
    (waits : i ∈ (s.slot sl).waitingCarry) : (s.slot sl).grant ≠ .carry i := by
  intro holds
  obtain ⟨-, c, hc, ic, -, queued⟩ := (h.2.2 sl i).1.1 waits
  obtain ⟨-, d, hd, id, -, past⟩ := (h.2.2 sl i).2.1 holds
  exact past (h.1.unique hc hd (ic.trans id.symm) ▸ queued)

/-- A slot is written that tells no more of the carries `lost`. -/
theorem State.CarriesBut.lose {s : State} {off : CarryId → Prop} (h : s.CarriesBut off) {sl : Slot}
    {f : SlotRec → SlotRec} {lost : CarryId → Prop}
    (waits : ∀ i, i ∈ (f (s.slot sl)).waitingCarry ↔ i ∈ (s.slot sl).waitingCarry ∧ ¬ lost i)
    (grant : ∀ i, (f (s.slot sl)).grant = .carry i ↔ (s.slot sl).grant = .carry i ∧ ¬ lost i)
    (only : ∀ i, lost i → i ∈ (s.slot sl).waitingCarry ∨ (s.slot sl).grant = .carry i) :
    (s.setSlot sl f).CarriesBut fun i => off i ∨ lost i := by
  refine ⟨h.1.congr (by simp), h.2.1.congr (by simp) (by simp), fun k i => ?_⟩
  rw [(State.setSlot_frame s sl _).2.2.2.2.2.2.2.2.1]
  have here := h.2.2 k i
  have lostAt := h.2.2 sl i
  change (_ ↔ _ ∧ s.Queued k i) ∧ (_ ↔ _ ∧ s.Holding k i) at here ⊢
  change (_ ↔ _ ∧ s.Queued sl i) ∧ (_ ↔ _ ∧ s.Holding sl i) at lostAt
  by_cases hk : k = sl
  · subst hk
    rw [State.setSlot_slot, settleIdle_eq]
    dsimp only
    rw [waits, grant, here.1, here.2]
    tauto
  · rw [setSlot_slot_of_ne _ _ hk, here.1, here.2]
    have lostHere := only i
    rw [lostAt.1, lostAt.2] at lostHere
    have bound {c d : CarryRec} (hc : c ∈ s.cye) (hd : d ∈ s.cye) (ic : c.id = i) (id : d.id = i) (sc : c.slot = k)
        (sd : d.slot = sl) : False :=
      hk (sc.symm.trans ((congrArg CarryRec.slot (h.1.unique hc hd (ic.trans id.symm))).trans sd))
    have elsewhere : s.Queued k i ∨ s.Holding k i → ¬ s.Queued sl i ∧ ¬ s.Holding sl i := by
      rintro (⟨c, hc, ic, sc, -⟩ | ⟨c, hc, ic, sc, -⟩)
      all_goals exact ⟨fun ⟨_, hd, id, sd, _⟩ => bound hc hd ic id sc sd, fun ⟨_, hd, id, sd, _⟩ => bound hc hd ic id sc sd⟩
    tauto

/-- R66 step 1: no slot tells any more of the carries that the fault takes the slot from. -/
theorem faultCut_carriesBut {s : State} {off : CarryId → Prop} (h : s.CarriesBut off) (sl : Slot) :
    (s.faultCut sl).CarriesBut fun i => off i ∨ i ∈ (s.slot sl).waitingCarry ∨ (s.slot sl).grant = .carry i :=
  (Calm.of_eq (by simp [State.faultCut]) (by simp [State.faultCut]) (by simp [State.faultCut])).1 _
    (h.lose (f := fun r => r.faulted s.clock.now s.cfg.uptime s.scanLength) (sl := sl)
      (fun i => by simp only [SlotRec.faulted, List.not_mem_nil]; tauto)
      (fun i => by simp only [SlotRec.faulted, reduceCtorEq]; tauto) fun _ => id)

/-- R66: every carry that the fault takes the slot from ends with it. -/
theorem calm_slotFault (s : State) (sl : Slot) : Calm s (s.slotFault sl) := by
  have cye : (s.faultCut sl).cye = s.cye := by simp [State.faultCut]
  have told : Calm (s.faultCut sl) (s.slotFault sl) :=
    (((Steps.refl true true 0 (s.faultCut sl)).faultReports sl (s.slot sl)).calm rfl).trans (carryClaimFaults_calm ..)
  refine ⟨fun off h => ?_, fun id hi => cye ▸ told.2 id hi⟩
  obtain ⟨hq, ht, hc⟩ := told.1 _ (faultCut_carriesBut h sl)
  refine ⟨hq, ht, hc.off_congr fun c hm => ⟨?_, .inl⟩⟩
  rw [slotFault_eq] at hm
  rintro (e | e | e)
  · exact e
  · exact absurd e (carryClaimFaults_gone _ _ hm)
  · exact absurd ((carryClaimFaults_calm _ _).2 c.id (List.mem_map_of_mem hm)) (faultReports_gone _ sl e)

namespace Steps

variable {p q : Bool} {k : Nat} {s t : State}

theorem slotFault (h : Steps p q 0 s t) (sl : Slot) : Steps p q 1 s (t.slotFault sl) := by
  have inner {u : State} (hu : Steps false q 0 t u) (r : SlotRec) :
      Steps false q 1 t ((u.faultReports sl r).carryClaimFaults r.waitingCarry) := (hu.faultReports sl r).carryClaimFaults _
  refine h.closed (k := 1) (inner ?_ _) fun _ => calm_slotFault t sl
  exact ((Steps.refl false q 0 t).slotCarries sl _ fun hs => hs.faulted ..).watchAdvert

/-! ### The call point's events and the carrier's frames -/

theorem startCall (h : Steps p q k s t) (o : Origin) : Steps p q k s (t.startCall o) :=
  h.closedCall (k := 0) (((openRecord (.refl p false 0 t) o).rawCall _).startRound) fun _ _ => startCall_sound t o

theorem rawAnswerCallback (h : Steps p false k s t) : Steps p false k s t.answerCallback := by
  unfold State.answerCallback
  split
  · exact ((((h.takeOffer _).callPoint _ (by rfl)).join ..).enterTalking).rawCall _
  · exact h

theorem takePress (h : Steps p q k s t) : Steps p q k s t.takePress := by
  refine h.closedCall (?_ : Steps p false 0 t _) fun _ hs => hs.takePress
  have here : Steps p false 0 t t := .refl ..
  unfold State.takePress
  split
  case _ => exact here.startCall _
  case _ => exact here.rawAnswerCallback
  case _ => exact here.rawEndWaiting
  all_goals exact here

theorem takeLift (h : Steps p q k s t) : Steps p q k s t.takeLift := by
  refine h.closedCall (?_ : Steps p false 0 t _) fun _ hs => hs.takeLift
  have here : Steps p false 0 t t := .refl ..
  unfold State.takeLift
  split
  case _ => exact here.startCall _
  case _ => exact (here.rawCall _).rawAnswerCallback
  all_goals exact here.rawCall _

theorem takeReplacement (h : Steps p q 0 s t) : Steps p q 1 s t.takeReplacement := by
  unfold State.takeReplacement
  split
  · exact h.closeCall ..
  · exact h.mono (Nat.zero_le 1)

theorem rawTakeCallin (h : Steps p false k s t) (sl : Slot) (up : isPastWarmUp (t.slot sl).state = true) :
    Steps p false k s (t.takeCallin sl) := by
  unfold State.takeCallin
  split <;> rename_i hc
  · extract_lets s1 s2 s3
    have h1 : Steps p false k s s1 := ((h.openRecord _).rawCall _).enterCallState _
    have e1 : s1.slot sl = t.slot sl := slot_of_slc (by simp [s1]) sl
    have bell : s1.ple.state = .bell := by simp [s1]
    clear_value s1
    have h2 : Steps p false k s s2 ∧ isPastWarmUp (s2.slot sl).state = true ∧ (s2.slot sl).grant.isCarry = false := by
      unfold s2
      split
      · rename_i kind hg
        refine ⟨(h1.closeScan sl (e1 ▸ up) (by rw [hg]; rfl)).reportScanEnd .., ?_⟩
        have closed : ((s1.closeScan sl).slot sl).state = .idle := by
          rw [State.closeScan, State.setSlot_slot, (settleIdle_fields _ _).1]
          rfl
        have told : (s1.closeScan sl).reportScanEnd sl kind = (s1.closeScan sl).advScanEnded := by
          cases kind
          · simp [State.reportScanEnd, State.emergencyScanEnded, State.closeScan, bell]
          · rfl
        rw [told, slot_of_slc (s := s1.closeScan sl) (by simp), closed, State.closeScan, State.setSlot_slot,
          (settleIdle_fields _ _).2.1]
        exact ⟨rfl, rfl⟩
      · exact ⟨h1, e1 ▸ up, e1 ▸ by simpa using hc.2.2⟩
    clear_value s2
    have h3 : Steps p false k s s3 := h2.1.slot sl _ (fun hs => hs.fits.settled h2.2.1 rfl rfl rfl)
      (.of_grant rfl h2.2.2 rfl)
    exact (h3.rawCallPoint _ (Cpi.ringBell_outLamp ..)).rawCall _
  · exact h.refuseCallin sl

theorem takeCallin (h : Steps p q k s t) (sl : Slot) (up : isPastWarmUp (t.slot sl).state = true) :
    Steps p q k s (t.takeCallin sl) :=
  h.closedCall (k := 0) (rawTakeCallin (.refl p false 0 t) sl up) fun _ hs => hs.takeCallin sl

theorem takeTrunk (h : Steps p false k s t) (n : Nat) (tr : Trunk) : Steps p false k s (t.takeTrunk n tr) :=
  ((h.rawCall _).join ..).hand ..

theorem restartSilence (h : Steps p false k s t) : Steps p false k s t.restartSilence := h.rawCall _

theorem moveToTrunk (h : Steps p false k s t) (n : Nat) (tr : Trunk) : Steps p false k s (t.moveToTrunk n tr) := by
  unfold State.moveToTrunk
  split
  · exact h.restartSilence
  · exact (h.takeTrunk ..).restartSilence

theorem takeCack (h : Steps p q k s t) (src callId : Nat) (tr : Trunk) : Steps p q k s (t.takeCack src callId tr) := by
  refine h.closedCall (?_ : Steps p false 0 t _) fun _ hs => hs.takeCack src callId tr
  have here : Steps p false 0 t t := .refl ..
  unfold State.takeCack
  split_ifs
  · exact ((here.rawCall _).takeTrunk ..).restartSilence.rawCall _
  · exact here.moveToTrunk ..
  · exact here.hand ..
  · exact here.hand ..

theorem takeCnak (h : Steps p q k s t) (src callId : Nat) (r : CnakReason) : Steps p q k s (t.takeCnak src callId r) := by
  unfold State.takeCnak
  split <;> rename_i hm
  · exact h.endAttempt _ fun _ => relayCarrier_state (relayCarrier_of_isMatch hm.1)
  · exact h

theorem takeStage (h : Steps p false 0 s t) (st : CprgStage) : Steps p false 1 s (t.takeStage st) := by
  have weak {u : State} (hu : Steps p false 0 s u) : Steps p false 1 s u := hu.mono (Nat.zero_le 1)
  unfold State.takeStage
  split
  case _ => exact weak ((h.enterCallState _).rawCall _)
  case _ => exact weak (h.enterTalking.reportOutcome _)
  case _ => exact weak (h.enterTalking.reportOutcome _)
  case _ => exact weak (h.rawEndAttempt _)
  case _ => exact weak (h.rawEndAttempt _)
  case _ => exact h.farEndClear
  case _ => exact h.rawLoseTalk
  case _ => exact weak h

theorem takeCprg (h : Steps p q 0 s t) (src callId : Nat) (st : CprgStage) : Steps p q 1 s (t.takeCprg src callId st) := by
  refine h.closedCall (k := 1) ?_ fun _ hs => hs.takeCprg src callId st
  have here : Steps p false 0 t t := .refl ..
  unfold State.takeCprg
  split
  · exact here.restartSilence.takeStage st
  · exact here.mono (Nat.zero_le 1)

theorem takeTmov (h : Steps p q k s t) (src callId : Nat) (tr : Trunk) : Steps p q k s (t.takeTmov src callId tr) := by
  refine h.closedCall (?_ : Steps p false 0 t _) fun _ hs => hs.takeTmov src callId tr
  have here : Steps p false 0 t t := .refl ..
  unfold State.takeTmov
  split
  · exact here.moveToTrunk ..
  · exact here

theorem heardCarrier (h : Steps p q k s t) (field holder : Nat) : Steps p q k s (t.heardCarrier field holder) := by
  refine h.closedCall (?_ : Steps p false 0 t _) fun _ hs => hs.heardCarrier field holder
  have here : Steps p false 0 t t := .refl ..
  unfold State.heardCarrier
  split
  · split
    · exact here.restartSilence
    · exact here
  · exact here

end Steps

/-! ### What a command runs under -/

section Under

variable {p q : Bool} {k : Nat} {s : State}

theorem whenRunning_steps {f : State → State} (h : Steps p q k s (f s)) : Steps p q k s (s.whenRunning f) := by
  unfold State.whenRunning
  split
  · exact h
  · exact .refl p q k s

theorem expire_steps {timer : Option Nat} {f : State → State} (h : ∀ at_, s.Due timer at_ → Steps p q k s (f (s.advanceTo at_))) :
    Steps p q k s (s.expire timer f) := by
  unfold State.expire
  split
  · rename_i at_
    split <;> rename_i hd
    · exact h at_ ⟨rfl, by simpa [State.isDue] using hd⟩
    · exact .refl p q k s
  · exact .refl p q k s

/-- R155, R157: a frame command runs its effect on a frame whose source is not this box, or drops the frame. -/
theorem receive_steps {h : Header} {b : Body} {ms : Nat} {f : State → State}
    (take : (s.frameHeard ms).own ≠ some h.src → Steps p q k s (f (s.frameHeard ms))) : Steps p q k s (s.receive h b ms f) := by
  have heard : Steps p q k s (s.frameHeard ms) := Steps.frameHeard (.refl p q k s) ms
  refine whenRunning_steps ?_
  unfold headerFate
  dsimp only
  by_cases seg : h.seg = (s.frameHeard ms).cfg.record.segment
  · by_cases own : (s.frameHeard ms).own = some h.src
    · simpa [seg, own] using heard.dropFrame .ownSource
    · simp only [seg, own, ne_eq, not_true_eq_false, if_false]
      split
      · exact take own
      · exact heard
  · simp only [seg, ne_eq, not_false_eq_true, if_true]
    exact heard.dropFrame _

/-- R65, R87: a message runs its effect past warm-up alone. -/
theorem hear_steps {sl : Slot} {ms : Nat} {f : State → State}
    (take : ∀ u, Steps p q 0 s u → isPastWarmUp (u.slot sl).state = true → Steps p q k s (f u)) : Steps p q k s (s.hear sl ms f) := by
  have came : Steps p q 0 s (s.arrive ms) := Steps.arrive (.refl p q 0 s) ms
  refine whenRunning_steps ?_
  dsimp only
  split <;> rename_i up
  · refine take _ (came.hearModule sl up) ?_
    rw [State.hearModule, State.setSlot_slot, (settleIdle_fields _ _).1]
    exact up
  · exact came.mono (Nat.zero_le k)

end Under

end Sys2Proof.Machine
end

section
/-! Every command that is no reset is a sequence of effects; resets and start-ups one by one. From it what every step
keeps of the slots, the tables, the line, the configuration and the log. -/

namespace Sys2Proof.Machine

/-! ### The slot records of the dial's repeats, of RDY and of the idle timer -/

theorem SlotRec.Sound.repeatLater {r : SlotRec} (h : r.Sound) (dials : r.state = .dialling) (few : r.repeats < 2) :
    r.repeatLater.Fits := by
  obtain ⟨h1, h2, -, h4, h5, h6, h7, -, h9, -, h11⟩ := h.fits
  exact ⟨h1, h2, by simp [SlotRec.repeatLater], h4, h5, h6, h7, Nat.succ_le_of_lt few, Nat.succ_le_succ h9,
    fun _ => dials, h11⟩

theorem SlotRec.Sound.sendRepeat {r : SlotRec} (h : r.Sound) (now : Nat) (dials : r.state = .dialling) :
    (r.sendRepeat now).Fits := by
  obtain ⟨h1, h2, -, h4, h5, h6, h7, h8, h9, -, h11⟩ := h.fits
  refine ⟨h1, h2, ?_, h4, h5, h6, h7, h8, (Nat.sub_le ..).trans h9, fun _ => dials, h11⟩
  by_cases one : r.repeatsDue ≤ 1
  · simp [SlotRec.sendRepeat, SlotRec.send, one, dials, runsDeadline]
  · simp [SlotRec.sendRepeat, SlotRec.send, one, dials, runsDeadline]
    omega

theorem SlotRec.Sound.rings {r : SlotRec} (h : r.Sound) (at_ : Nat) (rings : r.state = .ringing) :
    SlotRec.Fits { r with rung := true, deadline := some at_ } := by
  obtain ⟨h1, h2, -, h4, h5, h6, h7, h8, h9, h10, h11⟩ := h.fits
  have noneDue : r.repeatsDue = 0 := by
    by_contra hne
    simpa [rings] using h10 hne
  exact ⟨h1, h2, by simp [rings, noneDue, runsDeadline], h4, h5, h6, h7, h8, h9, h10, h11⟩

/-- R64, R77: a module that has warmed up. -/
theorem SlotRec.Sound.ready {r : SlotRec} (h : r.Sound) (at_ : Nat) (warms : r.state = .warming) :
    SlotRec.Fits { r.settled .idle with heartbeat := some at_ } := by
  obtain ⟨h1, -, -, -, -, -, h7, h8, -, -, h11⟩ := h.fits
  rw [warms] at h1 h7
  have noRestart : r.restartTimer.isSome = true → False := fun e => by simpa using h7 e
  exact ⟨h1, rfl, rfl, rfl, nofun, nofun, fun e => (noRestart e).elim, h8, Nat.zero_le _, fun e => absurd rfl e, h11⟩

/-- R71: a slot powered off. -/
theorem SlotRec.Sound.poweredOff {r : SlotRec} (h : r.Sound) :
    SlotRec.Fits { r.settled .off with power := false, heartbeat := none } := by
  obtain ⟨-, -, -, -, -, -, -, h8, -, -, h11⟩ := h.fits
  exact ⟨rfl, rfl, rfl, rfl, nofun, nofun, fun _ => .inr rfl, h8, Nat.zero_le _, fun e => absurd rfl e, h11⟩

namespace Steps

variable {p q : Bool} {k : Nat} {s t : State}

/-! ### The line's commands -/

theorem beginSending (h : Steps p q k s t) (gap : t.lnc.tx = .gap) : Steps p q k s t.beginSending := by
  refine h.lineOf rfl (fun hs => ?_) fun _ hq => absurd (gap.symm.trans hq.2.1) (by simp)
  have noBackoff : t.lnc.backoff.isSome = true ↔ TxState.sending = .backoff := by
    simpa [gap] using hs.2.2.2.2.2.2.2.2.1
  exact hs.withTx (by simp [gap]) (by simp) noBackoff hs.2.2.2.1

theorem sendIfQuiet (h : Steps p q k s t) : Steps p q k s t.sendIfQuiet := by
  unfold State.sendIfQuiet
  split <;> rename_i hg
  · exact h.beginSending hg.1
  · exact h

theorem lineActive (h : Steps p q k s t) : Steps p q k s t.lineActive := h.lineOf rfl id fun _ hq => ⟨hq, rfl⟩

/-- R149: a frame being sent is on the line of no ISOLATED box. -/
theorem traceSent (h : Steps p q k s t) (sends : t.lnc.tx = .sending) : Steps p q k s t.traceSent := by
  unfold State.traceSent
  split
  · exact h.lineOf rfl id fun _ hq => absurd (sends.symm.trans hq.2.1) (by simp)
  · exact h

theorem finishFrame (h : Steps p q k s t) (sends : t.lnc.tx = .sending) : Steps p q k s (t.withLnc t.lnc.finishFrame) :=
  h.lineOf rfl (fun hs => hs.finishFrame sends) fun _ hq => absurd (sends.symm.trans hq.2.1) (by simp)

theorem backOff (h : Steps p q k s t) (sends : t.lnc.tx = .sending) (few : ¬ 7 ≤ t.lnc.collisions) :
    Steps p q k s t.backOff := by
  refine h.draw.lineOf (u := t.backOff) rfl (fun hs => ?_) fun _ hq => absurd (sends.symm.trans hq.2.1) (by simp)
  by_cases w : backoffOf t.draw.lnc.rng (t.draw.lnc.collisions + 1) = 0
  · simpa [State.backOff, w] using hs.withTx (st := .gap) (b := none) (c := t.draw.lnc.collisions + 1)
      (n := t.draw.lnc.lastActive) (fun e => by simp [State.draw, sends] at e) (by simp) (by simp)
      (Nat.lt_of_not_le few)
  · simpa [State.backOff, w] using hs.withTx (st := .backoff) (c := t.draw.lnc.collisions + 1)
      (b := some (t.draw.clock.now + backoffOf t.draw.lnc.rng (t.draw.lnc.collisions + 1)))
      (n := t.draw.lnc.lastActive) (fun e => by simp [State.draw, sends] at e) (by simp) (by simp)
      (Nat.lt_of_not_le few)

end Steps

section Commands

variable {p q : Bool} {s : State}

theorem traceSent_tx (s : State) : s.traceSent.lnc.tx = s.lnc.tx := by
  unfold State.traceSent
  split <;> rfl

theorem gapEnd_gap {at_ : Nat} (h : s.gapEnd = some at_) : s.lnc.tx = .gap := by
  unfold State.gapEnd at h
  split at h <;> rename_i hg
  · exact hg
  · cases h

theorem deadlineIn_state {sl : Slot} {st : SlotState} {at_ : Nat} (h : s.deadlineIn sl st = some at_) :
    (s.slot sl).state = st := by
  unfold State.deadlineIn at h
  split at h <;> rename_i hs
  · exact hs
  · cases h

/-- A carry whose slot's module lets go has left the queue. -/
theorem carryReport_gone_gone (s : State) (id : CarryId) (cause : GoneCause) :
    id ∉ (s.carryReport id (.gone cause)).cye.map CarryRec.id := by
  unfold State.carryReport
  split <;> rename_i hf
  · exact findCarry_none hf
  · obtain ⟨-, rfl⟩ := findCarry_some hf
    cases cause
    case farCleared =>
      dsimp only
      split <;> exact endCarry_gone _ _ _ _ _ _
    all_goals exact endCarry_gone _ _ _ _ _ _

theorem reportSlot_steps {t : State} (h : Steps p q 0 s t) (sl : Slot) (r : SlotReport) : Steps p q 1 s (t.reportSlot sl r) :=
  h.reportHolder ..

/-- A CACK or TMOV: PLE's part and the map's, in either order. -/
theorem takeAnnouncement_steps {k : Nat} {t : State} (ht : Steps p q k s t) (h : Header) (field : Nat) {f : Trunk → State → State}
    (ple : ∀ tr u, Steps p q k s u → Steps p q k s (f tr u)) : Steps p q k s (t.takeAnnouncement h field f) := by
  unfold State.takeAnnouncement
  split
  · split
    · unfold State.inFreeOrder inOrder
      split
      · exact (ple _ _ (ht.choice _)).mapAnnounced ..
      · exact ple _ _ ((ht.choice _).mapAnnounced ..)
    · exact ht.mapAnnounced ..
  · exact ht.mapAnnounced ..

/-- A timer's expiry, at whatever moment it is taken. -/
theorem expire_steps_of {k : Nat} {timer : Option Nat} {f : State → State}
    (each : ∀ at_, timer = some at_ → Steps p q 0 s (s.advanceTo at_) → Steps p q k s (f (s.advanceTo at_))) :
    Steps p q k s (s.expire timer f) :=
  expire_steps fun at_ due => each at_ due.1 ((Steps.refl p q 0 s).advanceTo due.2)

theorem receive_steps_of {k : Nat} {h : Header} {b : Body} {ms : Nat} {f : State → State}
    (each : ∀ u, Steps p q 0 s u → Steps p q k s (f u)) : Steps p q k s (s.receive h b ms f) :=
  receive_steps fun _ => each _ ((Steps.refl p q 0 s).frameHeard ms)

/-- R65: a fault at the end of a deadline or a watch. -/
theorem slotFault_expire_steps (sl : Slot) (timer : Option Nat) :
    Steps p q 1 s (s.expire timer fun u => u.slotFault sl) := expire_steps_of fun _ _ h => h.slotFault sl

/-- R74, R82: a deadline whose end has DROP sent. -/
theorem dropAndTimeOut_steps (sl : Slot) {st : SlotState} (up : isPastWarmUp st = true) :
    Steps p q 1 s (s.expire (s.deadlineIn sl st) fun u => u.dropAndTimeOut sl) :=
  expire_steps_of fun _ due h => reportSlot_steps
    (h.slot sl _ fun hs => hs.fits.drop _ (by rw [advanceTo_slot, deadlineIn_state due]; exact up)) sl _

/-- R84: GONE in OFFERED takes the grant from its holder, who is told. -/
theorem goneOffered_steps {t : State} (h : Steps p q 0 s t) (sl : Slot) (cause : GoneCause)
    (up : isPastWarmUp (t.slot sl).state = true) :
    Steps p q 1 s ((t.setSlot sl fun r => { r.settled .idle with grant := .nobody }).reportHolder sl (t.slot sl).grant
      (.gone cause)) := by
  refine h.closed (k := 1) (((Steps.refl false q 0 t).slotCarries sl _ fun hs =>
    SlotRec.Fits.settled (st := .idle) hs.fits up rfl rfl rfl).reportHolder ..) fun _ => ?_
  generalize hu : (t.setSlot sl fun r => { r.settled .idle with grant := .nobody }) = u
  have told : Calm u (u.reportHolder sl (t.slot sl).grant (.gone cause)) := ((Steps.refl true q 0 u).reportHolder ..).calm rfl
  have cye : u.cye = t.cye := by simp [← hu]
  refine ⟨fun off hs => ?_, fun id hi => cye ▸ told.2 id hi⟩
  have cut : u.CarriesBut fun i => off i ∨ (t.slot sl).grant = .carry i := by
    rw [← hu]
    exact hs.lose (fun i => ⟨fun hi => ⟨hi, hs.not_both hi⟩, And.left⟩) (fun i => by simp) fun _ => .inr
  obtain ⟨hq, ht, hc⟩ := told.1 _ cut
  refine ⟨hq, ht, hc.off_congr fun c hm => ⟨?_, .inl⟩⟩
  rintro (e | e)
  · exact e
  · rw [e] at hm
    exact absurd (List.mem_map_of_mem hm) (carryReport_gone_gone u c.id cause)

/-- R188: with no carry in the queue, the engine reset leaves none in the map and at the slots. -/
theorem calm_engineReset (none : s.cye = []) : Calm s s.engineReset := by
  refine ⟨fun off h => ⟨⟨by simp [State.engineReset], by simp [State.engineReset]⟩, ⟨by simp [State.engineReset], ?_⟩, ?_⟩,
    by simp [State.engineReset]⟩
  · intro tr id ho
    cases tr <;> cases ho
  · intro sl id
    have here := h.2.2 sl id
    simp only [none, List.not_mem_nil, false_and, exists_false, and_false, iff_false] at here
    have slot : s.engineReset.slot sl = (s.slot sl).engineReset s.clock.now := by cases sl <;> rfl
    rw [slot]
    unfold SlotRec.engineReset
    split <;> simp [State.engineReset, here]

/-! ### The commands, block by block -/

/-- The messages of a module (R75 to R87). -/
theorem exec_modem_steps (p q : Bool) (sl : Slot) (ms : Nat) (s : State) :
    (∃ t, exec (.rdy sl ms) s = .next t ∧ Steps p q 1 s t) ∧
    (∀ is, ∃ t, exec (.nets sl is ms) s = .next t ∧ Steps p q 1 s t) ∧
    (∃ t, exec (.dack sl ms) s = .next t ∧ Steps p q 1 s t) ∧
    (∀ r, ∃ t, exec (.dnak sl r ms) s = .next t ∧ Steps p q 1 s t) ∧
    (∃ t, exec (.drty sl ms) s = .next t ∧ Steps p q 1 s t) ∧
    (∃ t, exec (.dialRepeat sl ms) s = .next t ∧ Steps p q 1 s t) ∧
    (∃ t, exec (.ring sl ms) s = .next t ∧ Steps p q 1 s t) ∧
    (∃ t, exec (.live sl ms) s = .next t ∧ Steps p q 1 s t) ∧
    (∀ c, ∃ t, exec (.gone sl c ms) s = .next t ∧ Steps p q 1 s t) ∧
    (∀ c l, ∃ t, exec (.beat sl c l ms) s = .next t ∧ Steps p q 1 s t) ∧
    (∃ t, exec (.callin sl ms) s = .next t ∧ Steps p q 1 s t) ∧
    (∃ t, exec (.modemSignalDiscarded sl ms) s = .next t ∧ Steps p q 1 s t) := by
  have came : Steps p q 0 s (s.arrive ms) := (Steps.refl p q 0 s).arrive ms
  have weak {u : State} (h : Steps p q 0 s u) : Steps p q 1 s u := h.mono (Nat.zero_le 1)
  refine ⟨⟨_, rfl, whenRunning_steps ?_⟩, fun is => ⟨_, rfl, ?_⟩, ⟨_, rfl, hear_steps fun u hu up => ?_⟩,
    fun r => ⟨_, rfl, hear_steps fun u hu up => ?_⟩, ⟨_, rfl, hear_steps fun u hu up => ?_⟩, ⟨_, rfl, whenRunning_steps ?_⟩,
    ⟨_, rfl, hear_steps fun u hu up => ?_⟩, ⟨_, rfl, hear_steps fun u hu up => ?_⟩,
    fun c => ⟨_, rfl, hear_steps fun u hu up => ?_⟩, fun c l => ⟨_, rfl, hear_steps fun u hu up => weak (hu.takeBeat ..)⟩,
    ⟨_, rfl, hear_steps fun u hu up => ?_⟩, ⟨_, rfl, whenRunning_steps (weak came)⟩⟩
  case refine_1 =>
    dsimp only
    have faults (up : isPastWarmUp ((s.arrive ms).slot sl).state = true) := (came.hearModule sl up).slotFault sl
    split <;> rename_i hst
    · exact weak ((came.slot sl _ fun hs => hs.ready _ hst).arbiter sl)
    · exact weak (came.hearModule sl (by rw [hst]; rfl))
    iterate 6 exact faults (by rw [hst]; rfl)
    all_goals exact weak came
  case refine_2 =>
    split
    · refine hear_steps fun u hu up => weak ?_
      split
      · exact (hu.takeNets sl is).endScan sl (by rw [slot_of_slc (s := u) (by simp)]; exact up)
      · exact hu
    · exact whenRunning_steps (weak came)
  case refine_3 =>
    split <;> rename_i hst
    · exact reportSlot_steps (hu.slot sl _ fun hs =>
        hs.fits.within up rfl rfl rfl rfl rfl rfl hs.fits.2.2.2.2.2.2.2.1 rfl rfl) sl _
    · exact weak hu
  case refine_4 =>
    split <;> rename_i hst
    · have idled := hu.slot sl (fun r => r.settled .idle) fun hs => hs.fits.settled up rfl rfl rfl
      dsimp only
      split
      · exact reportSlot_steps (idled.barEntry ..) sl _
      · exact reportSlot_steps idled sl _
    · exact weak hu
  case refine_5 =>
    split <;> rename_i hst
    · split <;> rename_i few
      · exact weak (hu.slot sl _ fun hs => hs.repeatLater hst few)
      · exact reportSlot_steps (hu.slot sl _ fun hs => hs.fits.settled up rfl rfl rfl) sl _
    · exact weak hu
  case refine_6 =>
    dsimp only
    split <;> rename_i hst
    · exact weak (came.slot sl _ fun hs => hs.sendRepeat _ hst.1)
    · exact weak came
  case refine_7 =>
    split <;> rename_i hst
    · refine reportSlot_steps (hu.slot sl _ (fun hs => ?_) ?_) sl _
      · split
        · exact hs.fits
        · exact hs.rings _ hst
      · split
        · exact .rfl
        · exact ⟨rfl, fun _ => Iff.rfl⟩
    · exact weak hu
  case refine_8 =>
    split
    · exact reportSlot_steps (hu.slot sl _ fun hs => hs.fits.settled up rfl rfl rfl) sl _
    · exact reportSlot_steps (hu.slot sl _ fun hs => hs.fits.settled up rfl rfl rfl) sl _
    · exact weak hu
  case refine_9 =>
    have idled := hu.slot sl (fun r => r.settled .idle) fun hs => hs.fits.settled up rfl rfl rfl
    split
    iterate 3 exact reportSlot_steps idled sl _
    · exact (goneOffered_steps hu sl c up).arbiter sl
    · exact weak (idled.arbiter sl)
    · exact weak hu
  case refine_10 =>
    split
    iterate 2 exact weak (hu.takeCallin sl up)
    iterate 4 exact weak (hu.refuseCallin sl)
    · exact weak hu

/-- The slot records' timers (R64 to R67, R71 to R75, R82). -/
theorem exec_slotTimer_steps (p q : Bool) (sl : Slot) (s : State) : ∀ c ∈ [Instr.warmUpDeadlineExpiry sl, .heartbeatWatchExpiry sl,
    .scanDeadlineExpiry sl, .dialDeadlineExpiry sl, .slotRingLimitExpiry sl, .clearDeadlineExpiry sl, .idleTimerExpiry sl,
    .scanTimerExpiry sl, .restartTimerExpiry sl], ∃ t, exec c s = .next t ∧ Steps p q 1 s t := by
  simp only [List.forall_mem_cons]
  have weak {u : State} (h : Steps p q 0 s u) : Steps p q 1 s u := h.mono (Nat.zero_le 1)
  refine ⟨⟨_, rfl, slotFault_expire_steps ..⟩, ⟨_, rfl, slotFault_expire_steps ..⟩, ⟨_, rfl, ?scan⟩,
    ⟨_, rfl, dropAndTimeOut_steps sl rfl⟩, ⟨_, rfl, dropAndTimeOut_steps sl rfl⟩, ⟨_, rfl, slotFault_expire_steps ..⟩,
    ⟨_, rfl, ?idle⟩, ⟨_, rfl, ?scanTimer⟩, ⟨_, rfl, ?restart⟩, by simp⟩
  case scan =>
    refine expire_steps_of fun at_ due h => weak (h.endScan sl ?_)
    rw [advanceTo_slot, deadlineIn_state due]
    rfl
  case idle =>
    refine expire_steps_of fun at_ due h => ?_
    split
    · exact weak (h.slot sl _ fun hs => hs.fits)
    · exact weak (h.slot sl _ fun hs => hs.poweredOff)
  case scanTimer =>
    refine expire_steps_of fun at_ due h => ?_
    have stopped := h.slot sl (fun r => { r with scanTimer := none }) fun hs =>
      ⟨hs.fits.1, hs.fits.2.1, hs.fits.2.2.1, hs.fits.2.2.2.1, fun _ => rfl, hs.fits.2.2.2.2.2⟩
    dsimp only
    split
    · exact weak stopped
    · exact weak (stopped.placeClaim _ _ nofun)
  case restart =>
    refine expire_steps_of fun at_ due h => ?_
    split <;> rename_i hst
    · exact weak (h.slot sl _ fun hs => hs.warm _ (.inr hst)).watchAdvert
    · refine weak ((h.slot sl _ fun hs => ?_).placeClaim _ _ nofun)
      obtain ⟨h1, h2, h3, h4, h5, -, -, h8⟩ := hs.fits
      exact ⟨h1, h2, h3, h4, h5, fun e => absurd (hst.symm.trans e) (by simp), nofun, h8⟩
    · exact weak h

/-- The placement engine's timers and the tables' (R11 to R31, R44, R54, R57, R138). -/
theorem exec_placement_steps (p q : Bool) (s : State) (counter : CounterRef) (sl : Slot) (n : Nat) : ∀ c ∈ [Instr.pauseTimerExpiry,
    .answerTimerExpiry, .requesterHoldRefresh, .carrierSilenceExpiry, .ringLimitExpiry, .placementLimitExpiry,
    .bellTimerExpiry, .callbackWindowExpiry, .qualityDecayExpiry counter, .networkEntryRemoval sl n, .barExpiry sl n,
    .neighbourStale n, .neighbourRemoval n], ∃ t, exec c s = .next t ∧ Steps p q 1 s t := by
  simp only [List.forall_mem_cons]
  have weak {u : State} (h : Steps p q 0 s u) : Steps p q 1 s u := h.mono (Nat.zero_le 1)
  have here : Steps p q 0 s s := .refl p q 0 s
  have runs {timer : Option Nat} {at_ : Nat} (due : timer = some at_) : timer.isSome = true := by simp [due]
  refine ⟨⟨_, rfl, expire_steps_of fun _ due h => weak (h.endWaiting fun hs => hs.2.1.2.1.1 (runs due))⟩,
    ⟨_, rfl, expire_steps_of fun _ due h => weak (h.endAttempt _ fun hs => hs.inAttempt (.inl (runs due)))⟩,
    ⟨_, rfl, ?refresh⟩, ⟨_, rfl, ?silence⟩, ⟨_, rfl, ?ringLimit⟩, ⟨_, rfl, expire_steps_of fun _ _ h => h.closeCall ..⟩,
    ⟨_, rfl, expire_steps_of fun _ _ h => h.closeCall ..⟩, ⟨_, rfl, ?window⟩, ⟨_, rfl, ?decay⟩, ⟨_, rfl, ?removal⟩,
    ⟨_, rfl, ?bar⟩, ⟨_, rfl, weak ?stale⟩, ⟨_, rfl, weak ?gone⟩, by simp⟩
  case refresh =>
    refine expire_steps_of fun at_ _ h => weak ?_
    split <;> rename_i ht
    · exact (h.hand ..).call _ fun hs => hs.refreshed (by simp [show s.ple.trunk = _ from ht]) _
    · exact h
  case silence =>
    refine expire_steps_of fun at_ due h => ?_
    split
    · dsimp only
      split <;> rename_i talks
      · exact (h.hand ..).loseTalk (by simpa using talks)
      · exact weak ((h.hand ..).endAttempt _ fun hs => hs.inAttempt (by simp [show s.ple.carrierSilence = some at_ from due]))
    · exact weak h
  case ringLimit =>
    refine expire_steps_of fun at_ due h => weak ?_
    split
    · exact h.endOwnAttempt _ _ fun hs => hs.inAttempt (by simp [show s.ple.ringLimit = some at_ from due])
    · exact (h.hand ..).endAttempt _ fun hs => hs.inAttempt (by simp [show s.ple.ringLimit = some at_ from due])
    · exact h
  case window =>
    split
    · exact weak (here.call _ fun hs => hs.window none)
    · exact weak here
  case decay =>
    refine expire_steps_of fun at_ _ h => weak ?_
    split
    · exact h.tableUpdate _ _ _ (fun _ => rfl) fun _ he => ⟨he.1, he.2.1, he.2.2.1, he.2.2.2.decayed _⟩
    · refine h.eff (.neighbours _ _ fun hs => updateNeighbour_sound hs _ _ (fun _ => rfl) fun n hn => ?_)
      obtain ⟨h1, h2, h3, h4, h5, h6, h7, h8⟩ := hn
      exact ⟨h1, h2, h3, h4, h5, h6, h7, h8.decayed _⟩
  case removal =>
    split
    · split
      · exact weak (here.table sl _ fun ht => ht.filter _)
      · exact weak here
    · exact weak here
  case bar =>
    split
    · split
      · exact weak (here.tableUpdate sl n _ (fun _ => rfl) fun _ he => he)
      · exact weak here
    · exact weak here
  case stale =>
    refine here.eff (.neighbours _ _ fun hs => updateNeighbour_sound hs _ _ (fun m => ?_) fun m hm => ?_)
    · split <;> rfl
    · split <;> exact hm
  case gone => exact here.eff (.neighbours _ _ fun hs => filterNeighbours_sound hs _)

theorem TrunkEntry.withRefresh_owner (e : TrunkEntry) (at_ : Nat) : (e.withRefresh at_).owner = e.owner := by
  cases e <;> rfl

/-- The frames of the carries and the trunks, and their timers (R17 to R23, R91 to R126). -/
theorem exec_carry_steps (p q : Bool) (s : State) (h : Header) (callId n m partner ms : Nat) (cn : CnakReason) (st : CprgStage)
    (ce : CendCause) (id : CarryId) (tr : Trunk) : ∀ c ∈ [Instr.queueTimerExpiry id,
    .requesterSilenceExpiry id, .cack h callId n ms, .cnak h callId cn ms, .cprg h callId st ms, .cend h callId ce ms,
    .thld h n m partner callId ms, .tmov h callId m n ms, .tfre h n ms, .guardTimerExpiry tr, .holdRefresh id,
    .holdTimerExpiry tr], ∃ t, exec c s = .next t ∧ Steps p q 1 s t := by
  simp only [List.forall_mem_cons]
  have weak {u v : State} (h : Steps p q 0 u v) : Steps p q 1 u v := h.mono (Nat.zero_le 1)
  refine ⟨⟨_, rfl, expire_steps_of fun _ _ hu => weak ?queue⟩,
    ⟨_, rfl, expire_steps_of fun _ _ hu => weak ?silence⟩, ⟨_, rfl, receive_steps_of fun u hu => weak ?cack⟩,
    ⟨_, rfl, receive_steps_of fun u hu => weak ?cnak⟩, ⟨_, rfl, receive_steps_of fun u hu => ?cprg⟩,
    ⟨_, rfl, receive_steps_of fun u hu => weak ?cend⟩, ⟨_, rfl, receive_steps_of fun u hu => weak ?thld⟩,
    ⟨_, rfl, receive_steps_of fun u hu => weak ?tmov⟩, ⟨_, rfl, receive_steps_of fun u hu => weak (hu.mapFreed ..)⟩,
    ⟨_, rfl, expire_steps_of fun _ _ hu => weak ?guard⟩, ⟨_, rfl, expire_steps_of fun _ _ hu => weak ?refresh⟩,
    ⟨_, rfl, expire_steps_of fun at_ due hu => weak (hu.trunk _ _ ?free)⟩, by simp⟩
  case queue =>
    split <;> rename_i hf
    · exact hu.endCarry (findCarry_some hf).1 ..
    · exact hu
  case silence =>
    split <;> rename_i hf
    · exact hu.endCarry (findCarry_some hf).1 ..
    · exact hu
  case cack => exact takeAnnouncement_steps hu h n fun _ _ hv => hv.takeCack ..
  case cnak =>
    split
    · exact hu.takeCnak ..
    · exact hu
  case cprg => split <;> [exact hu.takeCprg ..; exact weak hu]
  case cend => split <;> [exact hu.takeCend ..; exact hu]
  case thld => exact ((hu.mapHeld ..).carryHeardHold ..).heardCarrier ..
  case tmov => exact takeAnnouncement_steps hu h n fun _ _ hv => hv.takeTmov ..
  case guard =>
    split <;> rename_i he
    · exact hu.trunk _ _ (by rw [he]; rfl)
    all_goals exact hu
  case refresh =>
    split
    · exact (hu.hand ..).trunk _ _ (by rw [TrunkEntry.withRefresh_owner]; simp [State.trunk])
    · exact hu
  case free =>
    have held : (s.trunk tr).owner = none := by
      cases he : s.trunk tr with
      | free | held => rfl
      | claiming | owned => simp [he, TrunkEntry.holdTimer] at due
    exact held.symm

theorem takeReachFrame_withNbt (s : State) (src : Nat) (bytes : List Byte) :
    s.takeReachFrame src bytes = s.withNbt (s.takeReachFrame src bytes).nbt := by
  unfold State.takeReachFrame
  repeat' split
  all_goals rfl

/-- R91: a CREQ, which alone adds a carry. -/
theorem exec_creq_steps (s : State) (h : Header) (callId n ms : Nat) :
    ∃ t, exec (.creq h callId n ms) s = .next t ∧ Steps false q 1 s t := by
  refine ⟨_, rfl, receive_steps_of fun u hu => ?_⟩
  split <;> [exact hu.takeCreq ..; exact hu.mono (Nat.zero_le 1)]

/-- The adverts, the line and the service tool (R128 to R138, R149 to R156, R185 to R188). -/
theorem exec_line_steps (p q : Bool) (s : State) (h : Header) (bytes : List Byte) (n ms : Nat) : ∀ c ∈ [Instr.reach h bytes ms,
    .advertTimerExpiry, .startWaitExpiry, .earlyAdvertSpacingEnd, .gapEnd, .frameSent ms, .collision ms, .backoffTimerExpiry,
    .receivedFrameDropped bytes ms, .sqry h ms, .lqry h n ms, .erst h ms], ∃ t, exec c s = .next t ∧ Steps p q 1 s t := by
  simp only [List.forall_mem_cons]
  have weak {u v : State} (h : Steps p q 0 u v) : Steps p q 1 u v := h.mono (Nat.zero_le 1)
  have came : Steps p q 0 s (s.arrive ms) := (Steps.refl p q 0 s).arrive ms
  refine ⟨⟨_, rfl, receive_steps fun own => weak ?reach⟩, ⟨_, rfl, expire_steps_of fun _ due hu => weak (hu.buildReach ?periodic)⟩,
    ⟨_, rfl, expire_steps_of fun _ due hu => weak (hu.buildReach ?startWait)⟩,
    ⟨_, rfl, expire_steps_of fun at_ _ hu => weak (hu.eff (.advert _ _ ?spacing)).watchAdvert⟩,
    ⟨_, rfl, expire_steps_of fun _ due hu => weak (hu.beginSending (gapEnd_gap (s := s) due))⟩,
    ⟨_, rfl, whenRunning_steps (weak ?sent)⟩, ⟨_, rfl, whenRunning_steps (weak ?collision)⟩,
    ⟨_, rfl, expire_steps_of fun at_ due hu => weak (Steps.sendIfQuiet (hu.lineOf rfl ?sound ?quiet))⟩,
    ⟨_, rfl, whenRunning_steps (weak (((Steps.refl p q 0 s).frameHeard ms).dropFrame _))⟩,
    ⟨_, rfl, receive_steps_of fun u hu => weak ?sqry⟩, ⟨_, rfl, receive_steps_of fun u hu => weak ?lqry⟩,
    ⟨_, rfl, receive_steps_of fun u hu => weak ?erst⟩, by simp⟩
  case reach =>
    have heard := (Steps.refl p q 0 s).frameHeard ms
    split
    · have sound (hs : (s.frameHeard ms).NeighboursSound) := takeReachFrame_sound hs h.src bytes own
      rw [takeReachFrame_withNbt] at sound ⊢
      exact heard.eff (.neighbours _ _ sound)
    · exact heard
  case periodic => exact fun _ e => by simp [show s.adv.timer = .stopped from e, AdvertTimer.periodicAt] at due
  case startWait => exact fun _ e => by simp [show s.adv.timer = .stopped from e, AdvertTimer.startWaitAt] at due
  case spacing => exact fun _ e => e
  case sent =>
    dsimp only
    split <;> rename_i hs
    · exact (came.lineActive.traceSent hs).finishFrame ((traceSent_tx _).trans hs)
    · exact came
  case collision =>
    dsimp only
    split <;> rename_i hs
    · split <;> rename_i hc
      · exact came.lineActive.finishFrame hs
      · exact came.lineActive.backOff hs fun e => hc (.inr e)
    · exact came
  case sound =>
    intro hs
    have backs : s.lnc.tx = .backoff := hs.2.2.2.2.2.2.2.2.1.1 (by rw [show (s.advanceTo at_).lnc = s.lnc from rfl, due]; rfl)
    exact hs.withTx (c := s.lnc.collisions) (n := s.lnc.lastActive) (by simp [backs]) (by simp) (by simp) hs.2.2.2.1
  case quiet => exact fun _ hq => by simp [show s.lnc.backoff = none from hq.2.2.2] at due
  case sqry => split <;> [exact hu.hand ..; exact hu]
  case lqry => split <;> [exact hu.hand ..; exact hu]
  case erst =>
    split
    · split
      · exact hu.hand ..
      · rename_i idle
        have none : u.cye = [] := by simpa using (not_or.1 idle).2
        exact (hu.closed ((Steps.refl false q 0 u).eff (.engineReset u)) fun _ => calm_engineReset none).hand ..
    · exact hu

/-- The call point's inputs and cadences, and the second (R160 to R169, R180). -/
theorem exec_callPoint_steps (p q : Bool) (s : State) (x y : Bool) (ms : Nat) : ∀ c ∈ [Instr.inputWatchEnd x y, .uptimeTick,
    .buttonInputChange x ms, .buttonTimerExpiry, .hookInputChange x ms, .hookTimerExpiry, .toneCadence, .bellCadence,
    .lampCadence, .fastFlashTimerExpiry], ∃ t, exec c s = .next t ∧ Steps p q 1 s t := by
  simp only [List.forall_mem_cons]
  have weak {u v : State} (h : Steps p q 0 u v) : Steps p q 1 u v := h.mono (Nat.zero_le 1)
  have came : Steps p q 0 s (s.arrive ms) := (Steps.refl p q 0 s).arrive ms
  refine ⟨⟨_, rfl, expire_steps_of fun _ _ h => weak (h.callPoint _ rfl)⟩,
    ⟨_, rfl, whenRunning_steps (weak ((Steps.refl p q 0 s).eff (.second s)).watchAdvert)⟩,
    ⟨_, rfl, whenRunning_steps (weak (came.callPoint _ ?button ?buttonCall))⟩, ⟨_, rfl, expire_steps_of fun _ _ h => ?press⟩,
    ⟨_, rfl, whenRunning_steps (weak (came.callPoint _ ?hook ?hookCall))⟩, ⟨_, rfl, expire_steps_of fun _ _ h => ?lift⟩,
    ⟨_, rfl, expire_steps_of fun _ _ h => weak ?tone⟩, ⟨_, rfl, expire_steps_of fun _ _ h => weak ?bell⟩,
    ⟨_, rfl, expire_steps_of fun _ _ h => weak ?lamp⟩,
    ⟨_, rfl, expire_steps_of fun _ due h => weak (h.eff (.callPoint _ _ (Cpi.setLamp_outLamp ..) fun _ hs =>
      hs.flashEnds (by simp [due]) _))⟩, by simp⟩
  case button =>
    unfold Cpi.buttonChange
    repeat' split
    all_goals rfl
  case buttonCall =>
    unfold Cpi.buttonChange
    repeat' split
    all_goals exact ⟨rfl, rfl⟩
  case hook =>
    unfold Cpi.hookChange
    repeat' split
    all_goals rfl
  case hookCall =>
    unfold Cpi.hookChange
    repeat' split
    all_goals exact ⟨rfl, rfl⟩
  case press =>
    split
    · exact weak (h.callPoint _ (by rfl)).takePress
    · exact weak (h.callPoint _ rfl)
    all_goals exact weak h
  case lift =>
    split
    · exact weak (h.callPoint _ (by rfl)).takeLift
    · exact (h.callPoint _ (by rfl)).takeReplacement
    all_goals exact weak h
  case tone =>
    split <;> rename_i hc
    · exact h.eff (.tone _ _ _ (by rw [hc]; simp))
    · exact h.eff (.tone _ _ _ (by rw [hc]; simp))
    · exact h
  case bell =>
    split
    · exact h.callPoint _ rfl
    · exact h.callPoint _ rfl
    · exact h
  case lamp =>
    split
    · exact h.callPoint _ rfl
    · exact h.callPoint _ rfl
    all_goals exact h

/-- A CREQ may add a carry. -/
def isCarryRequest : Instr → Bool
  | .creq .. => true
  | _ => false

/-- A command that is no reset is a sequence of effects with at most one log record beyond its carries; all but a CREQ and
an engine reset are calm. -/
theorem exec_steps {c : Instr} {s t : State} (hc : isResetCommand c = false) (hp : p = true → isCarryRequest c = false)
    (he : exec c s = .next t) : Steps p q 1 s t := by
  suffices ∃ u, exec c s = .next u ∧ Steps p q 1 s u by
    obtain ⟨u, hu, hs⟩ := this
    exact Host.Outcome.next.inj (hu.symm.trans he) ▸ hs
  have plain := exec_placement_steps p q s (.neighbour 0) .a 0
  have cadence := exec_callPoint_steps p q s true true 0
  have carryTimer (id : CarryId) (tr : Trunk) :=
    exec_carry_steps p q s ⟨0, 0, 0⟩ 0 0 0 0 0 .full .ringing .callerCleared id tr
  have carryFrame (h : Header) (callId n m partner ms : Nat) (cn : CnakReason) (st : CprgStage) (ce : CendCause) :=
    exec_carry_steps p q s h callId n m partner ms cn st ce ⟨0, 0⟩ .t1
  have lineTimer := exec_line_steps p q s ⟨0, 0, 0⟩ [] 0
  cases c with
  | coldReset | resetRelease | configReadComplete | configReadDeadline | supplySample => cases hc
  | rdy sl ms | nets sl is ms | dack sl ms | dnak sl r ms | drty sl ms | dialRepeat sl ms | ring sl ms | live sl ms
  | gone sl c ms | beat sl c l ms | callin sl ms | modemSignalDiscarded sl ms =>
    obtain ⟨h1, h2, h3, h4, h5, h6, h7, h8, h9, h10, h11, h12⟩ := exec_modem_steps p q sl ms s
    solve_by_elim
  | warmUpDeadlineExpiry sl | heartbeatWatchExpiry sl | scanDeadlineExpiry sl | dialDeadlineExpiry sl
  | slotRingLimitExpiry sl | clearDeadlineExpiry sl | idleTimerExpiry sl | scanTimerExpiry sl | restartTimerExpiry sl =>
    exact exec_slotTimer_steps p q sl s _ (by simp)
  | pauseTimerExpiry | answerTimerExpiry | requesterHoldRefresh | carrierSilenceExpiry | ringLimitExpiry
  | placementLimitExpiry | bellTimerExpiry | callbackWindowExpiry => exact plain _ (by simp)
  | qualityDecayExpiry counter => exact exec_placement_steps p q s counter .a 0 _ (by simp)
  | networkEntryRemoval sl code | barExpiry sl code => exact exec_placement_steps p q s (.neighbour 0) sl code _ (by simp)
  | neighbourStale addr | neighbourRemoval addr => exact exec_placement_steps p q s (.neighbour 0) .a addr _ (by simp)
  | queueTimerExpiry id | requesterSilenceExpiry id | holdRefresh id => exact carryTimer id .t1 _ (by simp)
  | guardTimerExpiry tr | holdTimerExpiry tr => exact carryTimer ⟨0, 0⟩ tr _ (by simp)
  | creq h callId code ms =>
    cases p with
    | true => cases hp rfl
    | false => exact exec_creq_steps s h callId code ms
  | cack h callId tr ms => exact carryFrame h callId tr 0 0 ms .full .ringing .callerCleared _ (by simp)
  | cnak h callId reason ms => exact carryFrame h callId 0 0 0 ms reason .ringing .callerCleared _ (by simp)
  | cprg h callId stage ms => exact carryFrame h callId 0 0 0 ms .full stage .callerCleared _ (by simp)
  | cend h callId cause ms => exact carryFrame h callId 0 0 0 ms .full .ringing cause _ (by simp)
  | thld h tr holder partner callId ms => exact carryFrame h callId tr holder partner ms .full .ringing .callerCleared _ (by simp)
  | tmov h callId old new ms => exact carryFrame h callId new old 0 ms .full .ringing .callerCleared _ (by simp)
  | tfre h tr ms => exact carryFrame h 0 tr 0 0 ms .full .ringing .callerCleared _ (by simp)
  | advertTimerExpiry | startWaitExpiry | earlyAdvertSpacingEnd | gapEnd | backoffTimerExpiry =>
    exact lineTimer 0 _ (by simp)
  | frameSent ms | collision ms => exact lineTimer ms _ (by simp)
  | reach h payload ms => exact exec_line_steps p q s h payload 0 ms _ (by simp)
  | receivedFrameDropped bytes ms => exact exec_line_steps p q s ⟨0, 0, 0⟩ bytes 0 ms _ (by simp)
  | sqry h ms | erst h ms => exact exec_line_steps p q s h [] 0 ms _ (by simp)
  | lqry h index ms => exact exec_line_steps p q s h [] index ms _ (by simp)
  | inputWatchEnd x y => exact exec_callPoint_steps p q s x y 0 _ (by simp)
  | buttonInputChange x ms | hookInputChange x ms => exact exec_callPoint_steps p q s x x ms _ (by simp)
  | uptimeTick | buttonTimerExpiry | hookTimerExpiry | toneCadence | bellCadence | lampCadence | fastFlashTimerExpiry =>
    exact cadence _ (by simp)

end Commands

end Sys2Proof.Machine
end

section
/-! The resets, the start-up and the supply sample, and with them what every step keeps of the slots, the tables, the
line, the configuration, the supply and the log. -/

namespace Sys2Proof.Machine

/-! ### The resets and the start-up -/

/-- What a reset command leaves, but for the effects of a sample (R171, R174, R181, R182). -/
inductive Restart : Instr → State → State → Prop
  | cold (s : State) : Restart .coldReset s s.coldReset
  | coldRead (s : State) (held : s.phase = .brownOutHeld) : Restart .resetRelease s s.coldReset.beginRead
  | read (c : Instr) (s : State) : Restart c s s.beginRead
  | brownOut (c : Instr) (s : State) (at_ : Nat) : Restart c s (s.advanceTo at_).brownOut
  | start (c : Instr) (s : State) (bytes : Option (List Byte)) (level : Nat) : Restart c s (s.startUp bytes level)

/-- R172, R173: a sample's debounce or settling keeps the supply record sound. -/
theorem Spm.sample_sound (p : Spm) (low level : Nat) :
    Spm.Sound (if p.settling then p.settle low level else p.debounce low level) := by
  split <;> rename_i hs
  · simp [Spm.Sound, Spm.settle]
  · have steady : p.settling = false := by simpa using hs
    unfold Spm.debounce
    split
    · simp [Spm.Sound, steady]
    · split <;> simp [Spm.Sound, steady]

theorem Steps.takeSample {p q : Bool} {k : Nat} {s t : State} (h : Steps p q k s t) (level : Nat) : Steps p q k s (t.takeSample level) := by
  have sampled := h.eff (.supply t _ fun _ => t.spm.sample_sound t.cfg.record.lowThreshold level)
  unfold State.takeSample
  extract_lets low s1 s2
  have changed : Steps p q k s s2 := by
    unfold s2
    split
    · exact sampled
    · exact (sampled.supplyChangedAt ..).supplyChangedAt ..
  exact changed.eff (.supply s2 _ fun hp => hp)

/-- A start-up that no brown-out abandons is effects on the blocks at their start. -/
theorem startUp_steps (p q : Bool) (s : State) (bytes : Option (List Byte)) {level : Nat} (enough : ¬ level < brownOutLevel) :
    Steps p q 0 (s.startBlocks bytes) (s.startUp bytes level) := by
  have scanOf {u v : State} (h : Steps p q 0 u v) (sl : Slot) : Steps p q 0 u (v.startScanOf sl) := by
    unfold State.startScanOf
    split <;> [exact h.placeClaim _ _ nofun; exact h]
  have advert {u v : State} (h : Steps p q 0 u v) : Steps p q 0 u v.startAdvert := by
    unfold State.startAdvert
    split <;> rename_i hown
    · exact h.eff (.advert _ _ fun hi => by simp [hi] at hown)
    · exact h
  simp only [State.startUp, enough, if_false]
  exact advert (scanOf (scanOf ((Steps.refl p q 0 _).eff
    (.supply _ { resetSpm _ with level := level } fun _ => by simp [Spm.Sound, resetSpm])) .a) .b)

/-- A reset command restarts the part or makes effects. -/
theorem exec_restart (p q : Bool) {c : Instr} {s t : State} (hc : isResetCommand c = true) (he : exec c s = .next t) :
    Restart c s t ∨ Steps p q 0 s t := by
  cases c with
  | coldReset =>
    cases he
    exact .inl (.cold s)
  | resetRelease =>
    cases he
    cases hp : s.phase with
    | resetHeld => exact .inl (.read ..)
    | brownOutHeld => exact .inl (.coldRead s hp)
    | readingConfig | running => exact .inr (.refl p q 0 s)
  | configReadComplete bytes level | configReadDeadline level =>
    cases he
    split
    · exact .inl (.start ..)
    · exact .inr (.refl p q 0 s)
  | supplySample level =>
    cases he
    cases hp : s.phase with
    | resetHeld | readingConfig => exact .inr (.refl p q 0 s)
    | brownOutHeld =>
      dsimp only
      split
      · exact .inl (.read ..)
      · exact .inr (.refl p q 0 s)
    | running =>
      dsimp only
      by_cases low : level < brownOutLevel
      · simp only [low, if_true, State.expire]
        split
        · split
          · exact .inl (.brownOut ..)
          · exact .inr (.refl p q 0 s)
        · exact .inr (.refl p q 0 s)
      · simp only [low, if_false]
        exact .inr (expire_steps_of fun _ _ h => h.takeSample level)
  | _ => cases hc

/-- What effects, resets and the blocks' start keep, every command keeps. -/
theorem exec_keeps {P : State → Prop} (effect : ∀ {p q k s t}, Effect p q k s t → P s → P t)
    (cold : ∀ s, P s → P s.coldReset) (read : ∀ s, P s → P s.beginRead) (held : ∀ s, P s → P s.brownOut)
    (start : ∀ s bytes, P s → P (s.startBlocks bytes)) {c : Instr} {s t : State} (he : exec c s = .next t) (hs : P s) :
    P t := by
  cases hc : isResetCommand c with
  | false => exact (exec_steps (p := false) (q := false) hc nofun he).keeps effect hs
  | true =>
    obtain hr | hr := exec_restart false false hc he
    · cases hr with
      | cold => exact cold s hs
      | coldRead => exact read _ (cold s hs)
      | read => exact read s hs
      | brownOut _ _ at_ =>
        have eq : (s.advanceTo at_).brownOut = s.brownOut := rfl
        exact eq ▸ held s hs
      | start _ _ bytes level =>
        by_cases low : level < brownOutLevel
        · simpa only [State.startUp, low, if_true] using held _ (start s bytes hs)
        · exact (startUp_steps false false s bytes low).keeps effect (start s bytes hs)
    · exact hr.keeps effect hs

/-- A step executes the front command on the state without it, or idles (log 1). -/
theorem step_cases {s t : State} (h : step s = .next t) :
    t = s ∨ ∃ c rest, s.pending = c :: rest ∧ exec c (s.withPending rest) = .next t := by
  unfold step at h
  split at h
  · exact .inr ⟨_, _, ‹_›, h⟩
  · exact .inl (Host.Outcome.next.inj h).symm

/-- `exec_keeps` for a step. -/
theorem step_keeps {P : State → Prop} (effect : ∀ {p q k s t}, Effect p q k s t → P s → P t)
    (cold : ∀ s, P s → P s.coldReset) (read : ∀ s, P s → P s.beginRead) (held : ∀ s, P s → P s.brownOut)
    (start : ∀ s bytes, P s → P (s.startBlocks bytes)) (queue : ∀ s rest, P s → P (s.withPending rest)) {s t : State}
    (h : step s = .next t) (hs : P s) : P t := by
  obtain rfl | ⟨c, rest, -, he⟩ := step_cases h
  · exact hs
  · exact exec_keeps effect cold read held start he (queue s rest hs)

/-! ### The slots, the tables, the line -/

theorem resetSlot_sound (st : SlotState) (sent : List ModemOut) (h : st = .off ∨ st = .absent) :
    (resetSlot st sent).Sound := by
  obtain rfl | rfl := h <;> simp [SlotRec.Sound, resetSlot, isPowered, isPastWarmUp, SlotRec.isUnused, runsDeadline, requestFits]

theorem startSlot_sound (fitted : Bool) (r : SlotRec) : (startSlot fitted r).Sound :=
  resetSlot_sound _ _ (by cases fitted <;> simp)

/-- Settles O4: every write of a slot leaves a record that fits its state, and settles its idle timer and the OUT lamp. -/
theorem stepKeepsSlotsSound : Obligations.StepKeepsSlotsSound := by
  unfold Obligations.StepKeepsSlotsSound
  intro s t hs ho h
  refine step_keeps (P := fun s => s.SlotsSound ∧ s.OutLampFollows) Effect.keeps_slots (fun s _ => ?_) (fun s h => ?_)
    (fun s _ => ?_) (fun s bytes _ => ?_) (fun _ _ h => h) h ⟨hs, ho⟩
  · exact ⟨⟨resetSlot_sound _ _ (.inl rfl), resetSlot_sound _ _ (.inl rfl)⟩, nofun⟩
  · exact ⟨h.1, nofun⟩
  · exact ⟨⟨resetSlot_sound _ _ (.inl rfl), resetSlot_sound _ _ (.inl rfl)⟩, nofun⟩
  · exact ⟨⟨startSlot_sound _ _, startSlot_sound _ _⟩, fun _ => rfl⟩

/-- Settles O5: the tables are written by the lemmas of R46 to R61 and R134 to R138, and every reset empties them. -/
theorem stepKeepsTablesSound : Obligations.StepKeepsTablesSound := by
  unfold Obligations.StepKeepsTablesSound
  have empty (s : State) (h : s.nbt = []) : s.NeighboursSound := by simp [State.NeighboursSound, h]
  refine ⟨fun s t hs h => ?_, fun s t hs h => ?_⟩
  · exact step_keeps Effect.keeps_networks (fun s _ => ⟨tableSound_nil, tableSound_nil⟩) (fun _ h => h)
      (fun s _ => ⟨tableSound_nil, tableSound_nil⟩) (fun s _ _ => ⟨tableSound_nil, tableSound_nil⟩) (fun _ _ h => h) h hs
  · exact step_keeps Effect.keeps_neighbours (fun s _ => empty _ rfl) (fun _ h => h) (fun s _ => empty _ rfl)
      (fun s _ _ => empty _ rfl) (fun _ _ h => h) h hs

theorem resetLnc_sound (sent : List (List Byte)) : (resetLnc sent).Sound := by simp [Lnc.Sound, resetLnc]

/-- R152: the seed of an address is never 0. -/
theorem rngSeed_ne_zero (address : Nat) : rngSeed address ≠ 0 := by
  unfold rngSeed
  split <;> rename_i h
  · decide
  · intro e
    have := congrArg BitVec.toNat e
    simp at this
    omega

theorem startBlocks_sound (s : State) (bytes : Option (List Byte)) : (s.startBlocks bytes).LineSound := by
  obtain ⟨h1, h2, h3, h4, h5, h6, h7, h8, h9, -⟩ := resetLnc_sound s.lnc.sent
  exact ⟨h1, h2, h3, h4, h5, h6, h7, h8, h9, rngSeed_ne_zero _⟩

/-- R149: no reset and no start-up puts a frame on the line. -/
theorem Restart.sent {c : Instr} {s t : State} (h : Restart c s t) : t.lnc.sent = s.lnc.sent := by
  have scanOf (u : State) (sl : Slot) : (u.startScanOf sl).lnc = u.lnc := by
    unfold State.startScanOf
    split <;> simp
  have advert (u : State) : u.startAdvert.lnc = u.lnc := by
    unfold State.startAdvert
    split <;> rfl
  cases h with
  | start _ _ bytes level =>
    unfold State.startUp
    split
    · rfl
    · simp only [advert, scanOf]
      rfl
  | _ => rfl

/-- Settles O6: a frame reaches the queue by `hand` alone, which an ISOLATED box answers with nothing (R147). -/
theorem lineStaysSoundAndIsolatedBoxSilent : Obligations.LineStaysSoundAndIsolatedBoxSilent := by
  unfold Obligations.LineStaysSoundAndIsolatedBoxSilent
  refine ⟨fun s t hs h => ?_, fun s t hs h => ⟨?_, fun isolated => ?_⟩⟩
  · exact step_keeps Effect.keeps_line (fun s _ => resetLnc_sound _) (fun _ h => h) (fun s _ => resetLnc_sound _)
      (fun s bytes _ => startBlocks_sound s bytes) (fun _ _ h => h) h hs
  · exact step_keeps (fun e hs => (e.keeps_quiet hs).1) (fun s _ _ => ⟨rfl, rfl, rfl, rfl, rfl⟩) (fun _ h => h)
      (fun s _ _ => ⟨rfl, rfl, rfl, rfl, rfl⟩) (fun s bytes _ _ => ⟨rfl, rfl, rfl, rfl, rfl⟩) (fun _ _ h => h) h hs
  · obtain rfl | ⟨c, rest, -, he⟩ := step_cases h
    · rfl
    cases hc : isResetCommand c with
    | false => exact ((exec_steps (p := false) (q := false) hc nofun he).keeps_quiet (s := s.withPending rest) hs).2 isolated
    | true =>
      obtain hr | hr := exec_restart false false hc he
      · exact hr.sent
      · exact (hr.keeps_quiet (s := s.withPending rest) hs).2 isolated

/-! ### The carries -/

/-- A CREQ that no check refuses makes a record on a trunk that is free (R91, R93). -/
theorem takeCreq_carriesSound {s : State} (h : s.CarriesSound) (src callId code : Nat) :
    (s.takeCreq src callId code).CarriesSound := by
  have answered (d : Nat) (b : Body) : (s.hand d b).CarriesSound :=
    (carriesSound_iff _).2 (((Steps.refl true false 0 s).hand d b).calm rfl |>.1 _ ((carriesSound_iff s).1 h))
  unfold State.takeCreq
  split
  · split <;> rename_i hf
    · exact answered ..
    · split_ifs with h1 h2 h3
      iterate 3 exact answered ..
      split
      · exact answered ..
      · split <;> rename_i ht
        · exact answered ..
        · exact acceptCarry_carriesSound h _ _ (findCarry_none hf) (by omega) (by simpa using List.find?_some ht)
  · exact h

theorem receive_keeps {P : State → Prop} {s : State} {h : Header} {b : Body} {ms : Nat} {f : State → State} (hs : P s)
    (effect : ∀ {u v : State}, Steps true false 0 u v → P u → P v) (take : ∀ u, P u → P (f u)) : P (s.receive h b ms f) := by
  have heard : Steps true false 0 s (s.frameHeard ms) := Steps.frameHeard (.refl true false 0 s) ms
  unfold State.receive State.whenRunning
  split
  · dsimp only
    split
    · split
      · exact take _ (effect heard hs)
      · exact effect heard hs
    · exact effect (heard.dropFrame _) hs
  · exact hs

theorem empty_carriesSound {s : State} (cye : s.cye = []) (trunks : s.tkm = resetTkm)
    (waits : ∀ k, (s.slot k).waitingCarry = []) (grant : ∀ k, (s.slot k).grant = .nobody) : s.CarriesSound := by
  refine ⟨by simp [State.QueueSound, cye], ⟨by simp [cye], fun tr id ho => ?_⟩, fun sl id => ?_⟩
  · rw [trunks] at ho
    cases tr <;> cases ho
  · simp [cye, waits, grant]

/-- Settles O8: every command but a CREQ is calm, and a CREQ's record comes with its trunk and its claim. -/
theorem stepKeepsCarriesInAgreement : Obligations.StepKeepsCarriesInAgreement := by
  unfold Obligations.StepKeepsCarriesInAgreement
  intro s t hs h
  obtain rfl | ⟨c, rest, -, he⟩ := step_cases h
  · exact hs
  have here : (s.withPending rest).CarriesSound := hs
  generalize s.withPending rest = v at he here
  have calm {u w : State} (e : Calm u w) (hu : u.CarriesSound) : w.CarriesSound :=
    (carriesSound_iff w).2 (e.1 _ ((carriesSound_iff u).1 hu))
  cases hc : isResetCommand c with
  | false =>
    cases hr : isCarryRequest c with
    | false => exact calm ((exec_steps (p := true) (q := false) hc (fun _ => hr) he).calm rfl) here
    | true =>
      cases c with
      | creq h callId code ms =>
        cases he
        refine receive_keeps here (fun e => calm (e.calm rfl)) fun u hu => ?_
        split
        · exact takeCreq_carriesSound hu ..
        · exact hu
      | _ => cases hr
  | true =>
    obtain hr | hr := exec_restart true false hc he
    · have cold (u : State) : u.coldReset.CarriesSound := empty_carriesSound rfl rfl (by rintro ⟨⟩ <;> rfl) (by rintro ⟨⟩ <;> rfl)
      have held (u : State) : u.brownOut.CarriesSound := empty_carriesSound rfl rfl (by rintro ⟨⟩ <;> rfl) (by rintro ⟨⟩ <;> rfl)
      cases hr with
      | cold => exact cold v
      | coldRead => exact cold v
      | read => exact here
      | brownOut => exact held _
      | start _ _ bytes level =>
        by_cases low : level < brownOutLevel
        · simpa only [State.startUp, low, if_true] using held _
        · exact calm ((startUp_steps true false v bytes low).calm rfl)
            (empty_carriesSound rfl rfl (by rintro ⟨⟩ <;> rfl) (by rintro ⟨⟩ <;> rfl))
    · exact calm (hr.calm rfl) here

/-! ### Supply, configuration, time and the log -/

theorem decodeFilters_length : ∀ (n : Nat) (bytes : List Byte), 4 * n ≤ bytes.length → (decodeFilters n bytes).length = n
  | 0, _, _ => by simp [decodeFilters]
  | n + 1, _ :: _ :: _ :: _ :: rest, h => by
    simp only [decodeFilters, List.length_cons]
    rw [decodeFilters_length n rest (by simp at h; omega)]
  | n + 1, [], h | n + 1, [_], h | n + 1, [_, _], h | n + 1, [_, _, _], h => by simp at h <;> omega

theorem resetCfg_sound : resetCfg.Sound := by
  refine ⟨by decide, by decide, by decide, by decide, by decide, by decide, by decide, by decide, fun n hn => ?_⟩
  cases hn

theorem clamp_bounds {lo hi : Nat} (h : lo ≤ hi) (n : Nat) : lo ≤ clamp lo hi n ∧ clamp lo hi n ≤ hi :=
  ⟨le_max_left .., max_le h (min_le_left ..)⟩

/-- R178, R179: what the read of a record leaves lies in its ranges. -/
theorem cfgOfRead_sound (bytes : Option (List Byte)) : (cfgOfRead bytes).Sound := by
  unfold cfgOfRead
  split
  · rename_i bs
    split
    · rename_i r hr
      have decoded : decodeRecord bs = some r := by
        split at hr
        · exact hr
        · cases hr
      unfold decodeRecord at decoded
      split at decoded
      · split at decoded
        · rename_i hl
          cases decoded
          refine ⟨(clamp_bounds (by decide) _).1, (clamp_bounds (by decide) _).2, (clamp_bounds (by decide) _).1,
            (clamp_bounds (by decide) _).2, (clamp_bounds (by decide) _).2, (clamp_bounds (by decide) _).1,
            (clamp_bounds (by decide) _).2, decodeFilters_length _ _ (by omega), fun n hn => ?_⟩
          dsimp only at hn
          split at hn <;> rename_i h62
          · cases hn
            exact ⟨h62.1, h62.2, rfl⟩
          · cases hn
        · cases decoded
      · cases decoded
    · exact resetCfg_sound
  · exact resetCfg_sound

theorem cfgOfRead_uptime (bytes : Option (List Byte)) : (cfgOfRead bytes).uptime = 0 := by
  unfold cfgOfRead
  split
  · split <;> rfl
  · rfl

/-- Settles O10: a write of the supply record keeps its debounce, a read decodes within the ranges, and between two
reads the record stands. -/
theorem stepKeepsSupplyConfigAndTime : Obligations.StepKeepsSupplyConfigAndTime := by
  unfold Obligations.StepKeepsSupplyConfigAndTime
  have supply (timer : Option Nat) : (resetSpm timer).Sound := by simp [Spm.Sound, resetSpm]
  refine ⟨fun s t hs hc ht h => ?_, fun c s t hc he => (exec_steps (p := false) (q := false) hc nofun he).keeps_config⟩
  have time {u : State} (hclock : u.clock = ⟨0, 0⟩) (hup : u.cfg.uptime = 0) : u.TimeSound := by
    simp [State.TimeSound, hclock, hup]
  refine step_keeps (P := fun s => s.SupplySound ∧ s.ConfigSound ∧ s.TimeSound) Effect.keeps_supplyConfigTime
    (fun s _ => ?_) (fun _ h => h) (fun s _ => ?_) (fun s bytes _ => ?_) (fun _ _ h => h) h ⟨hs, hc, ht⟩
  · exact ⟨supply _, resetCfg_sound, time rfl rfl⟩
  · exact ⟨supply _, resetCfg_sound, time rfl rfl⟩
  · exact ⟨supply _, cfgOfRead_sound bytes, time rfl (cfgOfRead_uptime bytes)⟩

theorem Restart.listsBounded {c : Instr} {s t : State} (h : Restart c s t) (hs : s.ListsBounded) :
    t.ListsBounded ∧ (c ≠ .coldReset → (c = .resetRelease → s.phase ≠ .brownOutHeld) → t.svc.log = s.svc.log) := by
  obtain ⟨hr, hl, hn⟩ := hs
  cases h with
  | cold => exact ⟨⟨Nat.zero_le _, Nat.zero_le _, Nat.zero_le _⟩, fun h => absurd rfl h⟩
  | coldRead _ held => exact ⟨⟨Nat.zero_le _, Nat.zero_le _, Nat.zero_le _⟩, fun _ h => absurd held (h rfl)⟩
  | read => exact ⟨⟨hr, hl, hn⟩, fun _ _ => rfl⟩
  | brownOut => exact ⟨⟨Nat.zero_le _, hl, hn⟩, fun _ _ => rfl⟩
  | start _ _ bytes level =>
    have scanOf (u : State) (sl : Slot) : (u.startScanOf sl).rsl = u.rsl ∧ (u.startScanOf sl).svc = u.svc := by
      unfold State.startScanOf
      split <;> simp
    have advert (u : State) : u.startAdvert.rsl = u.rsl ∧ u.startAdvert.svc = u.svc := by
      unfold State.startAdvert
      split <;> exact ⟨rfl, rfl⟩
    have stands : (s.startUp bytes level).rsl = [] ∧ (s.startUp bytes level).svc = s.svc := by
      unfold State.startUp
      split
      · exact ⟨rfl, rfl⟩
      · simp only [advert, scanOf]
        exact ⟨rfl, rfl⟩
    unfold State.ListsBounded
    rw [stands.1, stands.2]
    exact ⟨⟨Nat.zero_le _, hl, hn⟩, fun _ _ => rfl⟩

/-- Settles O11: a carry's record enters the log as the carry leaves the queue, and a command closes one call or accepts
one carry at most. -/
theorem callLogGrowsOnlyAtItsHead : Obligations.CallLogGrowsOnlyAtItsHead := by
  unfold Obligations.CallLogGrowsOnlyAtItsHead
  intro c s t hs he
  have grows {k : Nat} (hk : k ≤ 1) (h : Steps false false k s t) : t.ListsBounded ∧
      ∃ newer : List LogRecord, newer.length ≤ s.cye.length + 1 ∧ t.svc.log = (newer ++ s.svc.log).take 32 := by
    obtain ⟨ht, newer, hn, hl⟩ := h.logGrows hs
    exact ⟨ht, newer, by omega, hl⟩
  cases hc : isResetCommand c with
  | false =>
    have h := grows le_rfl (exec_steps (p := false) (q := false) hc nofun he)
    exact ⟨h.1, fun _ _ => h.2⟩
  | true =>
    obtain hr | hr := exec_restart false false hc he
    · have h := hr.listsBounded hs
      exact ⟨h.1, fun hcold hrel => ⟨[], Nat.zero_le _, by
        rw [h.2 hcold hrel, List.nil_append, List.take_of_length_le hs.2.1]⟩⟩
    · have h := grows (Nat.zero_le 1) hr
      exact ⟨h.1, fun _ _ => h.2⟩

end Sys2Proof.Machine
end

section
/-! The crosspoint: what a join and a break make of the connections (R167 to R169), and that every step keeps them sound. -/

namespace Sys2Proof.Machine

/-! ### Connections apart -/

theorem Join.has_eq_false {j : Join} {e : Endpoint} : j.has e = false ↔ j.x ≠ e ∧ j.y ≠ e := by
  simp [Join.has]

theorem Join.Apart.symm {j k : Join} (h : j.Apart k) : k.Apart j := by
  obtain ⟨ho, hx, hy⟩ := h
  rw [Join.has_eq_false] at hx hy
  exact ⟨ho.symm, Join.has_eq_false.2 ⟨hx.1.symm, hy.1.symm⟩, Join.has_eq_false.2 ⟨hx.2.symm, hy.2.symm⟩⟩

/-- Two connections apart do not both have an endpoint. -/
theorem Join.Apart.not_both {j k : Join} (h : j.Apart k) {e : Endpoint} (hj : j.has e = true) : k.has e = false := by
  obtain ⟨-, hx, hy⟩ := h
  simp only [Join.has, Bool.or_eq_true, beq_iff_eq] at hj
  obtain rfl | rfl := hj
  · exact hx
  · exact hy

theorem apart_of_mem {js : List Join} (h : js.Pairwise Join.Apart) {j k : Join} (hj : j ∈ js) (hk : k ∈ js) :
    j = k ∨ j.Apart k := by
  by_cases e : j = k
  · exact .inl e
  · have : Std.Symm Join.Apart := ⟨fun _ _ => Join.Apart.symm⟩
    exact .inr (h.forall hj hk e)

/-- R167 step 5: a join can be made where no other owner's connection has either endpoint. -/
theorem Xpt.canMake_iff (x : Xpt) (j : Join) :
    x.canMake j = true ↔ ∀ k ∈ x.joins, k.owner ≠ j.owner → k.has j.x = false ∧ k.has j.y = false := by
  simp only [Xpt.canMake, Xpt.isTaken, Bool.and_eq_true, Bool.not_eq_true', List.any_eq_false, bne_iff_ne]
  grind

theorem Xpt.canMake_congr {x y : Xpt} (h : y.joins = x.joins) (j : Join) : y.canMake j = x.canMake j := by
  simp [Xpt.canMake, Xpt.isTaken, h]

/-! ### Making joins -/

/-- `Xpt.Sound` without the tone, and without the clause that no waiting join can be made. -/
def Xpt.Wired (x : Xpt) : Prop :=
  x.joins.Pairwise Join.Apart ∧ (∀ j ∈ x.joins, isJoinable j.x j.y = true) ∧
  (x.waiting.map Join.owner).Nodup ∧ ∀ j ∈ x.waiting, isJoinable j.x j.y = true

theorem Xpt.Sound.wired {x : Xpt} (h : x.Sound) : x.Wired := by
  obtain ⟨h1, h2, h3, h4, -⟩ := h
  exact ⟨h1, h2, h3, fun j hj => (h4 j hj).1⟩

theorem nodup_owners_filter {js : List Join} (h : (js.map Join.owner).Nodup) (p : Join → Bool) :
    ((js.filter p).map Join.owner).Nodup := h.sublist (List.filter_sublist.map _)

/-- R167 step 4: a join that can be made. -/
theorem Xpt.Wired.make {x : Xpt} (h : x.Wired) {j : Join} (joins : isJoinable j.x j.y = true)
    (free : x.canMake j = true) : (x.make j).Wired := by
  obtain ⟨h1, h2, h3, h4⟩ := h
  refine ⟨?_, ?_, h3, h4⟩
  · refine List.pairwise_append.2 ⟨h1.filter _, by simp, fun k hk m hm => ?_⟩
    obtain ⟨stood, ho⟩ := List.mem_filter.1 hk
    obtain rfl := List.mem_singleton.1 hm
    have away := (Xpt.canMake_iff x m).1 free k stood (by simpa using ho)
    exact Join.Apart.symm ⟨(by simpa using ho : k.owner ≠ m.owner).symm, away⟩
  · intro k hk
    obtain hk | hk := List.mem_append.1 hk
    · exact h2 k (List.mem_filter.1 hk).1
    · exact List.mem_singleton.1 hk ▸ joins

/-! ### Serving the waiting joins (R168) -/

/-- What serving the waiting joins makes of the connections, from `x` to `y`. -/
structure Xpt.Serves (x y : Xpt) : Prop where
  wired : y.Wired
  blocked : ∀ w ∈ y.waiting, y.canMake w = false
  sublist : y.waiting.Sublist x.waiting
  accounted : ∀ w ∈ x.waiting, w ∈ y.waiting ∨ w ∈ y.joins
  kept : ∀ j ∈ x.joins, j ∈ y.joins ∨ ∃ w ∈ x.waiting, w.owner = j.owner ∧ w ∈ y.joins
  origin : ∀ j ∈ y.joins, j ∈ x.joins ∨ j ∈ x.waiting
  oldest : ∀ w, x.waiting.find? x.canMake = some w → w ∈ y.joins
  tone : y.cue = x.cue ∧ y.cadence = x.cadence

/-- One join is made, and the rest is served after it. -/
theorem Xpt.Serves.cons {x y : Xpt} {w : Join} (hx : x.Wired) (first : x.waiting.find? x.canMake = some w)
    (h : Xpt.Serves ({ x with waiting := x.waiting.filter fun k => k.owner != w.owner }.make w) y) : x.Serves y := by
  have waits := List.mem_of_find?_eq_some first
  have once : ∀ v ∈ x.waiting, v.owner = w.owner → v = w := fun v hv => List.inj_on_of_nodup_map hx.2.2.1 hv waits
  have made : w ∈ y.joins := by
    obtain hm | ⟨v, hv, ho, -⟩ := h.kept w (by simp [Xpt.make])
    · exact hm
    · exact absurd ho (by simpa using (List.mem_filter.1 hv).2)
  refine ⟨h.wired, h.blocked, h.sublist.trans List.filter_sublist, fun v hv => ?_, fun j hj => ?_, fun j hj => ?_,
    fun v hv => ?_, h.tone⟩
  · by_cases ho : v.owner = w.owner
    · exact .inr (once v hv ho ▸ made)
    · exact h.accounted v (List.mem_filter.2 ⟨hv, by simpa using ho⟩)
  · by_cases ho : j.owner = w.owner
    · exact .inr ⟨w, waits, ho.symm, made⟩
    · obtain hm | ⟨v, hv, hvo⟩ := h.kept j (List.mem_append_left _ (List.mem_filter.2 ⟨hj, by simpa using ho⟩))
      · exact .inl hm
      · exact .inr ⟨v, (List.mem_filter.1 hv).1, hvo⟩
  · obtain hj | hj := h.origin j hj
    · obtain hj | hj := List.mem_append.1 hj
      · exact .inl (List.mem_filter.1 hj).1
      · exact .inr (List.mem_singleton.1 hj ▸ waits)
    · exact .inr (List.mem_filter.1 hj).1
  · exact Option.some.inj (first.symm.trans hv) ▸ made

theorem Xpt.serves_self {x : Xpt} (h : x.Wired) (none : ∀ w ∈ x.waiting, x.canMake w = false) : x.Serves x :=
  ⟨h, none, .refl _, fun _ hw => .inl hw, fun _ hj => .inl hj, fun _ hj => .inl hj,
    fun w hw => absurd (List.find?_some hw) (by simp [none w (List.mem_of_find?_eq_some hw)]), rfl, rfl⟩

theorem Xpt.serveWaiting_serves (n : Nat) (x : Xpt) (h : x.Wired) (enough : x.waiting.length ≤ n) :
    x.Serves (x.serveWaiting n) := by
  induction n generalizing x with
  | zero => exact Xpt.serves_self h (by simp [List.length_eq_zero_iff.1 (Nat.le_zero.1 enough)])
  | succ n ih =>
    rw [Xpt.serveWaiting]
    split <;> rename_i hf
    · rename_i w
      have waits := List.mem_of_find?_eq_some hf
      have fewer : (x.waiting.filter fun k => k.owner != w.owner).length < x.waiting.length :=
        List.length_filter_lt_length_iff_exists.2 ⟨w, waits, by simp⟩
      have wired : Xpt.Wired { x with waiting := x.waiting.filter fun k => k.owner != w.owner } :=
        ⟨h.1, h.2.1, nodup_owners_filter h.2.2.1 _, fun j hj => h.2.2.2 j (List.mem_filter.1 hj).1⟩
      refine Xpt.Serves.cons h hf (ih _ (wired.make (h.2.2.2 w waits) (List.find?_some hf)) ?_)
      simp only [Xpt.make]
      omega
    · exact Xpt.serves_self h fun w hw => by simpa using List.find?_eq_none.1 hf w hw

/-! ### The tone (R169) -/

theorem Xpt.hasTone_iff (x : Xpt) : x.hasTone = true ↔ ∃ j ∈ x.joins, j.has .tone = true := by simp [Xpt.hasTone]

theorem Xpt.keepsTone_iff (x y : Xpt) :
    x.keepsTone y = true ↔ ∃ j ∈ x.joins, j.has .tone = true ∧ j ∈ y.joins := by simp [Xpt.keepsTone]

theorem Xpt.cueAfter_of_keeps {x y : Xpt} (h : x.keepsTone y = true) (now : Nat) : x.cueAfter y now = y := by
  obtain ⟨j, -, ht, hm⟩ := (x.keepsTone_iff y).1 h
  simp [Xpt.cueAfter, (y.hasTone_iff).2 ⟨j, hm, ht⟩, h]

theorem Xpt.cueAfter_of_starts {x y : Xpt} (hy : y.hasTone = true) (h : x.keepsTone y = false) (now : Nat) :
    x.cueAfter y now = { y with cue := .connecting true, cadence := some (now + toneOnMs) } := by
  simp [Xpt.cueAfter, hy, h]

theorem Xpt.cueAfter_of_silent {x y : Xpt} (hy : y.hasTone = false) (now : Nat) :
    x.cueAfter y now = { y with cue := .silent, cadence := none } := by simp [Xpt.cueAfter, hy]

/-- After `owner`'s connection is broken and `made` made, serving the waiting joins settles the crosspoint. -/
theorem Xpt.settles_of_serves {x cut y : Xpt} (hx : x.Sound) (owner : Owner) (made : List Join) (now : Nat)
    (joins : cut.joins = x.joins.filter (fun j => j.owner != owner) ++ made)
    (waiting : cut.waiting = x.waiting.filter fun j => j.owner != owner)
    (tone : cut.cue = x.cue ∧ cut.cadence = x.cadence) (own : ∀ j ∈ made, j.owner = owner) (h : cut.Serves y) :
    (x.cueAfter y now).Sound ∧ x.Settles (x.cueAfter y now) owner made now := by
  have sound {z : Xpt} (hj : z.joins = y.joins) (hw : z.waiting = y.waiting)
      (hcue : z.cue = .silent ↔ y.hasTone = false) (hcad : z.cadence.isSome = true ↔ z.cue ≠ .silent) : z.Sound := by
    obtain ⟨w1, w2, w3, w4⟩ := h.wired
    refine ⟨hj ▸ w1, hj ▸ w2, hw ▸ w3, fun j hm => ?_, ?_, hcad⟩
    · rw [hw] at hm
      exact ⟨w4 j hm, (Xpt.canMake_congr hj j).trans (h.blocked j hm)⟩
    · rw [hcue, Xpt.hasTone, Xpt.hasTone, hj]
  have only {j k : Join} (hj : j ∈ y.joins) (hk : k ∈ y.joins) (tj : j.has .tone = true) (tk : k.has .tone = true) :
      j = k := by
    obtain e | a := apart_of_mem h.wired.1 hj hk
    · exact e
    · simp [a.not_both tj] at tk
  have settled {z : Xpt} (hj : z.joins = y.joins) (hw : z.waiting = y.waiting)
      (runs : ∀ j ∈ x.joins, j.has .tone = true → j ∈ y.joins → z.cue = x.cue ∧ z.cadence = x.cadence)
      (starts : ∀ j ∈ y.joins, j.has .tone = true → j ∉ x.joins →
        z.cue = .connecting true ∧ z.cadence = some (now + 500))
      (ends : (∀ j ∈ y.joins, j.has .tone = false) → z.cue = .silent ∧ z.cadence = none) : x.Settles z owner made now := by
    unfold Xpt.Settles
    extract_lets stood waited free
    rw [hj, hw]
    refine ⟨(congrArg _ waiting).mp h.sublist, fun w hm => h.accounted w (waiting ▸ hm), fun j hm => ?_, fun j hm => ?_,
      fun j hm => ?_, fun xs w ys e blocked isFree => h.oldest w ?_, runs, starts, ends⟩
    · obtain hk | ⟨w, hw, ho, -⟩ := h.kept j (joins ▸ List.mem_append_right _ hm)
      · exact hk
      · rw [waiting] at hw
        exact absurd (ho.trans (own j hm)) (by simpa using (List.mem_filter.1 hw).2)
    · simpa only [waiting] using h.kept j (joins ▸ List.mem_append_left _ hm)
    · have := h.origin j hm
      rw [joins, waiting, List.mem_append] at this
      tauto
    · have free_iff (v : Join) : cut.canMake v = true ↔ free v := by rw [Xpt.canMake_iff, joins]
      rw [waiting, show x.waiting.filter _ = xs ++ w :: ys from e, List.find?_append, List.find?_eq_none.2, Option.none_or,
        List.find?_cons_of_pos ((free_iff w).2 isFree)]
      exact fun v hv => fun hc => blocked v hv ((free_iff v).1 hc)
  have cue : y.cue = x.cue ∧ y.cadence = x.cadence := ⟨h.tone.1.trans tone.1, h.tone.2.trans tone.2⟩
  obtain ⟨-, -, -, -, hsilent, hcadence⟩ := hx
  cases keeps : x.keepsTone y with
  | true =>
    rw [Xpt.cueAfter_of_keeps keeps]
    obtain ⟨j, hj, ht, hm⟩ := (x.keepsTone_iff y).1 keeps
    have had : x.hasTone = true := x.hasTone_iff.2 ⟨j, hj, ht⟩
    have has : y.hasTone = true := y.hasTone_iff.2 ⟨j, hm, ht⟩
    have sounds : y.cue ≠ .silent := by simp [cue.1, hsilent, had]
    refine ⟨sound rfl rfl (by simp [has, sounds]) (by rw [cue.1, cue.2, hcadence]), settled rfl rfl (fun _ _ _ _ => cue)
      (fun k hk tk new => absurd (only hm hk ht tk ▸ hj) new) fun silent => by simp [silent j hm] at ht⟩
  | false =>
    have none : ∀ j ∈ x.joins, j.has .tone = true → j ∉ y.joins := fun j hj ht hm => by
      simp [(x.keepsTone_iff y).2 ⟨j, hj, ht, hm⟩] at keeps
    cases has : y.hasTone with
    | true =>
      rw [Xpt.cueAfter_of_starts has keeps]
      exact ⟨sound rfl rfl (by simp [has]) (by simp), settled rfl rfl (fun j hj ht hm => absurd hm (none j hj ht))
        (fun _ _ _ _ => ⟨rfl, rfl⟩) fun silent => by simp [Xpt.hasTone] at has; grind⟩
    | false =>
      rw [Xpt.cueAfter_of_silent has]
      refine ⟨sound rfl rfl (by simp [has]) (by simp), settled rfl rfl (fun j hj ht hm => absurd hm (none j hj ht))
        (fun j hj ht => ?_) fun _ => ⟨rfl, rfl⟩⟩
      simp [y.hasTone_iff.2 ⟨j, hj, ht⟩] at has

/-! ### A request to join, a request to break -/

theorem Xpt.Sound.withWaiting {x : Xpt} (h : x.Sound) (owner : Owner) :
    Xpt.Sound { x with waiting := x.waiting.filter fun j => j.owner != owner } := by
  obtain ⟨h1, h2, h3, h4, h5, h6⟩ := h
  exact ⟨h1, h2, nodup_owners_filter h3 _, fun j hj => h4 j (List.mem_filter.1 hj).1, h5, h6⟩

section Join

variable {x : Xpt} {j : Join} {now : Nat}

theorem Xpt.join_never (h : isJoinable j.x j.y = false) : x.join j now = x := by simp [Xpt.join, h]

theorem Xpt.join_stands (can : isJoinable j.x j.y = true)
    (h : x.joins.any (fun k => k.owner == j.owner && k.samePair j) = true) :
    x.join j now = { x with waiting := x.waiting.filter fun k => k.owner != j.owner } := by
  simp only [Xpt.join, can, h, if_true]

theorem Xpt.join_waits (can : isJoinable j.x j.y = true)
    (stands : x.joins.any (fun k => k.owner == j.owner && k.samePair j) = false) (h : x.canMake j = false) :
    x.join j now = { x with waiting := (x.waiting.filter fun k => k.owner != j.owner) ++ [j] } := by
  simp only [Xpt.join, can, stands, if_true, Bool.false_eq_true, if_false,
    Xpt.canMake_congr (x := x) (y := { x with waiting := x.waiting.filter fun k => k.owner != j.owner }) rfl, h]

theorem Xpt.Sound.join_waits (hx : x.Sound) (can : isJoinable j.x j.y = true) (h : x.canMake j = false) :
    Xpt.Sound { x with waiting := (x.waiting.filter fun k => k.owner != j.owner) ++ [j] } := by
  obtain ⟨h1, h2, h3, h4, h5, h6⟩ := hx.withWaiting j.owner
  refine ⟨h1, h2, ?_, fun k hk => ?_, h5, h6⟩
  · rw [List.map_append, List.map_singleton, List.nodup_append]
    refine ⟨h3, by simp, fun o ho p hp => ?_⟩
    obtain ⟨k, hk, rfl⟩ := List.mem_map.1 ho
    rw [List.mem_singleton.1 hp]
    simpa using (List.mem_filter.1 hk).2
  · obtain hk | hk := List.mem_append.1 hk
    · exact h4 k hk
    · obtain rfl := List.mem_singleton.1 hk
      exact ⟨can, h⟩

/-- A join that can be made is made, and serves the waiting joins. -/
theorem Xpt.Sound.join_makes (hx : x.Sound) (can : isJoinable j.x j.y = true)
    (stands : x.joins.any (fun k => k.owner == j.owner && k.samePair j) = false) (free : x.canMake j = true) :
    (x.join j now).Sound ∧ x.Settles (x.join j now) j.owner [j] now ∧
      (∀ k ∈ (x.join j now).joins, k.owner = j.owner → k = j) ∧ ∀ k ∈ (x.join j now).waiting, k.owner ≠ j.owner := by
  let quiet : Xpt := { x with waiting := x.waiting.filter fun k => k.owner != j.owner }
  have quietFree : quiet.canMake j = true := (Xpt.canMake_congr rfl j).trans free
  have made : x.join j now = x.cueAfter ((quiet.make j).serveWaiting quiet.waiting.length) now := by
    simp only [Xpt.join, can, stands, if_true, Bool.false_eq_true, if_false, quiet, show Xpt.canMake _ j = true from quietFree]
  have serves := Xpt.serveWaiting_serves quiet.waiting.length (quiet.make j)
    ((hx.withWaiting j.owner).wired.make can quietFree) le_rfl
  obtain ⟨sound, settles⟩ := Xpt.settles_of_serves hx j.owner [j] now (cut := quiet.make j) rfl rfl ⟨rfl, rfl⟩
    (by simp) serves
  rw [← made] at sound settles
  refine ⟨sound, settles, fun k hk ho => ?_, fun k hk => ?_⟩
  · obtain e | a := apart_of_mem sound.1 hk (settles.2.2.1 j (by simp))
    · exact e
    · exact absurd ho a.1
  · simpa using (List.mem_filter.1 (settles.1.subset hk)).2

theorem Xpt.Sound.join (hx : x.Sound) (j : Join) (now : Nat) : (x.join j now).Sound := by
  cases can : isJoinable j.x j.y with
  | false => exact (Xpt.join_never can).symm ▸ hx
  | true =>
    cases stands : x.joins.any fun k => k.owner == j.owner && k.samePair j with
    | true => exact (Xpt.join_stands can stands).symm ▸ hx.withWaiting _
    | false =>
      cases free : x.canMake j with
      | false => exact (Xpt.join_waits can stands free).symm ▸ hx.join_waits can free
      | true => exact (hx.join_makes can stands free).1

theorem Xpt.break_none {owner : Owner} (h : ∀ j ∈ x.joins, j.owner ≠ owner) :
    x.break owner now = { x with waiting := x.waiting.filter fun j => j.owner != owner } := by
  have none : x.joins.any (fun k => k.owner == owner) = false := by simpa using h
  have all : x.joins.filter (fun k => k.owner != owner) = x.joins := by simpa [List.filter_eq_self] using h
  simp only [Xpt.break, none, Bool.false_eq_true, if_false, all]

/-- A connection that is broken serves the waiting joins. -/
theorem Xpt.Sound.break_serves (hx : x.Sound) {owner : Owner} (h : ∃ j ∈ x.joins, j.owner = owner) :
    (x.break owner now).Sound ∧ x.Settles (x.break owner now) owner [] now := by
  have some : x.joins.any (fun k => k.owner == owner) = true := by simpa using h
  obtain ⟨h1, h2, h3, h4⟩ := (hx.withWaiting owner).wired
  let cut : Xpt := { x with joins := x.joins.filter fun k => k.owner != owner,
                            waiting := x.waiting.filter fun k => k.owner != owner }
  have wired : cut.Wired := ⟨h1.filter _, fun j hj => h2 j (List.mem_filter.1 hj).1, h3, h4⟩
  have broken : x.break owner now = x.cueAfter (cut.serveWaiting cut.waiting.length) now := by
    simp only [Xpt.break, some, if_true, cut]
  rw [broken]
  exact Xpt.settles_of_serves hx owner [] now (cut := cut) (by simp [cut]) rfl ⟨rfl, rfl⟩ (by simp)
    (Xpt.serveWaiting_serves _ cut wired le_rfl)

theorem Xpt.Sound.afterBreak (hx : x.Sound) (owner : Owner) (now : Nat) : (x.break owner now).Sound := by
  by_cases h : ∃ j ∈ x.joins, j.owner = owner
  · exact (hx.break_serves h).1
  · exact (Xpt.break_none (by simpa using h)).symm ▸ hx.withWaiting owner

end Join

theorem resetXpt_sound : resetXpt.Sound := by simp [Xpt.Sound, resetXpt, Xpt.hasTone]

/-- R166 to R169: every effect keeps the connections sound. -/
theorem Effect.keeps_connections {p q : Bool} {k : Nat} {s t : State} (e : Effect p q k s t) (h : s.ConnectionsSound) :
    t.ConnectionsSound := by
  cases e
  case join o x y => exact Xpt.Sound.join h _ _
  case unjoin o => exact Xpt.Sound.afterBreak h _ _
  case tone burst at_ sounds =>
    obtain ⟨h1, h2, h3, h4, h5, -⟩ := h
    exact ⟨h1, h2, h3, h4, by simpa [Xpt.hasTone] using (not_congr h5).1 sounds, by simp⟩
  case engineReset => exact resetXpt_sound
  case slot sl f _ _ => simpa only [State.ConnectionsSound, State.setSlot_frame] using h
  case table sl es _ => cases sl <;> exact h
  all_goals exact h

theorem isJoinable_eq_false (x y : Endpoint) :
    isJoinable x y = false ↔ x = y ∨ x = .tone ∧ y ≠ .handset ∨ y = .tone ∧ x ≠ .handset := by
  simp only [isJoinable, Bool.and_eq_false_iff, Bool.or_eq_false_iff, bne_eq_false_iff_eq, beq_eq_false_iff_ne]
  tauto

theorem stands_iff (js : List Join) (owner : Owner) (x y : Endpoint) :
    (js.any fun k => k.owner == owner && k.samePair { x := x, y := y, owner := owner }) = true ↔
      ∃ j ∈ js, j.owner = owner ∧ (j.x = x ∧ j.y = y ∨ j.x = y ∧ j.y = x) := by
  simp [Join.samePair]

theorem canMake_eq_false (v : Xpt) (owner : Owner) (x y : Endpoint) :
    v.canMake { x := x, y := y, owner := owner } = false ↔
      ∃ j ∈ v.joins, j.owner ≠ owner ∧ (j.x = x ∨ j.x = y ∨ j.y = x ∨ j.y = y) := by
  rw [← Bool.not_eq_true, Xpt.canMake_iff]
  simp only [Join.has_eq_false]
  push Not
  grind

/-- Settles O7: serving the waiting joins accounts for every join, and the cue follows the connection to TONE. -/
theorem stepKeepsConnectionsSound : Obligations.StepKeepsConnectionsSound := by
  unfold Obligations.StepKeepsConnectionsSound
  refine ⟨fun s t hs h => ?_, fun s owner x y hs => ?_, fun s owner hs => ?_⟩
  · exact step_keeps Effect.keeps_connections (fun _ _ => resetXpt_sound) (fun _ h => h) (fun _ _ => resetXpt_sound)
      (fun _ _ _ => resetXpt_sound) (fun _ _ h => h) h hs
  · intro t new others never stands taken
    have hnever : isJoinable x y = false ↔ never := isJoinable_eq_false x y
    have hstands := stands_iff s.xpt.joins owner x y
    have htaken := canMake_eq_false s.xpt owner x y
    have can (h : ¬ never) : isJoinable new.x new.y = true := by simpa using mt hnever.1 h
    have fresh (h : ¬ stands) := Bool.eq_false_iff.2 (mt hstands.1 h)
    refine ⟨rfl, Xpt.Sound.join hs _ _, fun h => ?_, fun h1 h2 => ?_, fun h1 h2 h3 => ?_, fun h1 h2 h3 => ?_⟩
    · exact congrArg s.withXpt (Xpt.join_never (hnever.2 h))
    · exact Xpt.join_stands (can h1) (hstands.2 h2)
    · exact Xpt.join_waits (can h1) (fresh h2) (htaken.2 h3)
    · obtain ⟨-, settles, only, waits⟩ := Xpt.Sound.join_makes (now := s.clock.now) hs (can h1) (fresh h2)
        (by simpa using mt htaken.1 h3)
      exact ⟨settles.2.2.1 new (by simp), only, waits, settles⟩
  · intro t
    obtain ⟨hj, hw⟩ := xptBreak_owner s owner
    refine ⟨rfl, Xpt.Sound.afterBreak hs _ _, hj, hw, fun h => Xpt.break_none h, fun h1 h2 => ?_,
      fun h => (Xpt.Sound.break_serves hs h).2⟩
    refine congrArg s.withXpt ((Xpt.break_none h1).trans ?_)
    rw [List.filter_eq_self.2 (by simpa using h2)]

end Sys2Proof.Machine
end

section
/-! What every step keeps of the call record. -/

namespace Sys2Proof.Machine

/-- R182: every block that a reset clears holds an IDLE record and a dark CALL lamp. -/
theorem Restart.callSound {c : Instr} {s t : State} (h : Restart c s t) (hs : s.CallSound) : t.CallSound := by
  have cleared {u : State} (ple : u.ple = resetPle) (lamp : u.cpi.lamp = .off) (flash : u.cpi.fastFlash = none) :
      u.CallSound :=
    callSound_of_reset none ple ⟨fun _ => by simp [ple, lamp, resetPle, lampOf], fun e => by simp [flash] at e⟩
  cases h with
  | cold => exact cleared rfl rfl rfl
  | coldRead => exact cleared rfl rfl rfl
  | read => exact hs
  | brownOut => exact cleared rfl rfl rfl
  | start _ _ bytes level =>
    by_cases low : level < brownOutLevel
    · simpa only [State.startUp, low, if_true] using cleared (u := (s.startBlocks bytes).brownOut) rfl rfl rfl
    · exact (startUp_steps false true s bytes low).callSound rfl (cleared rfl rfl rfl)

/-- Settles O9: every effect on the record keeps its timers, counts and lamp, or is part of a close or of a new attempt,
which brings them to their places. -/
theorem stepKeepsTheCallRecordSound : Obligations.StepKeepsTheCallRecordSound := by
  unfold Obligations.StepKeepsTheCallRecordSound
  intro s t hs h
  obtain rfl | ⟨c, rest, -, he⟩ := step_cases h
  · exact hs
  have here : (s.withPending rest).CallSound := hs
  cases hc : isResetCommand c with
  | false => exact (exec_steps (p := false) (q := true) hc nofun he).callSound rfl here
  | true =>
    obtain hr | hr := exec_restart false true hc he
    · exact hr.callSound here
    · exact hr.callSound rfl here

end Sys2Proof.Machine
end

section
/-! The reset state, the step, and what a held part ignores. -/

namespace Sys2Proof.Machine

/-! ### The step and the reset state -/

/-- Settles O1, which is the definition of the step. -/
theorem stepTakesTheFrontCommand : Obligations.StepTakesTheFrontCommand := by
  unfold Obligations.StepTakesTheFrontCommand
  exact ⟨fun s c rest h => by simp only [step, h], fun s h => by simp only [step, h]⟩

theorem reset_slot (sl : Slot) : State.reset.slot sl = resetSlot .off [] := by cases sl <;> rfl

theorem reset_trunk (t : Trunk) : State.reset.trunk t = .free := by cases t <;> rfl

/-- Settles O2 by reading the reset state's fields. -/
theorem resetHoldsTheColdValues : Obligations.ResetHoldsTheColdValues := by
  unfold Obligations.ResetHoldsTheColdValues
  simp only [reset_slot, reset_trunk]
  refine ⟨rfl, rfl, rfl, rfl, rfl, rfl, rfl, rfl, rfl, rfl, rfl, rfl, rfl, rfl, rfl, rfl, rfl, rfl, rfl, rfl, rfl, rfl,
    rfl, rfl, rfl, rfl, fun _ => ⟨rfl, rfl, ⟨rfl, rfl, rfl⟩, rfl, rfl, rfl, rfl, rfl, rfl, rfl, rfl⟩, fun _ => trivial, ?_⟩
  decide

/-- Settles O3: every block's reset value is sound. -/
theorem resetIsSound : Obligations.ResetIsSound := by
  unfold Obligations.ResetIsSound
  have cleared (k : Slot) : (State.reset.slot k).waitingCarry = [] ∧ (State.reset.slot k).grant = .nobody := by
    simp only [reset_slot]
    exact ⟨rfl, rfl⟩
  exact ⟨⟨resetSlot_sound _ _ (.inl rfl), resetSlot_sound _ _ (.inl rfl)⟩, nofun, ⟨tableSound_nil, tableSound_nil⟩,
    ⟨Nat.zero_le _, List.nodup_nil, nofun⟩, resetLnc_sound _, fun _ => ⟨rfl, rfl, rfl, rfl, rfl⟩, resetXpt_sound,
    empty_carriesSound rfl rfl (fun k => (cleared k).1) (fun k => (cleared k).2),
    callSound_of_reset none rfl ⟨fun _ => rfl, nofun⟩, ⟨Nat.zero_le _, Nat.zero_le _, Nat.zero_le _⟩, resetCfg_sound,
    ⟨Nat.zero_le _, ⟨nofun, nofun⟩, fun _ => ⟨rfl, rfl⟩⟩, ⟨Nat.zero_le _, by decide, rfl, rfl⟩⟩

/-- Settles O20: the reset and the read's beginning by definition. -/
theorem coldResetAndReleaseLeaveTheColdState : Obligations.ColdResetAndReleaseLeaveTheColdState := by
  unfold Obligations.ColdResetAndReleaseLeaveTheColdState
  refine ⟨fun s => rfl, fun s held => ?_, fun s held => ⟨s.coldReset.beginRead, ?_, ?_⟩⟩
  · simp [exec, execResetRelease, held, State.beginRead]
  · simp [exec, execResetRelease, held]
  · exact ⟨rfl, rfl, rfl, rfl, rfl, rfl, rfl, rfl, rfl⟩

/-! ### A part that is held or reads its record (R174, R177, R181) -/

section Held

variable {s : State} (held : s.phase ≠ .running)
include held

theorem whenRunning_held (f : State → State) : s.whenRunning f = s := if_neg held

theorem hear_held (sl : Slot) (ms : Nat) (f : State → State) : s.hear sl ms f = s := whenRunning_held held _

theorem receive_held (h : Header) (b : Body) (ms : Nat) (f : State → State) : s.receive h b ms f = s :=
  whenRunning_held held _

end Held

/-- Settles O12: each of the commands begins with `whenRunning`, `hear` or `receive`. -/
theorem heldPartTakesNoOutsideEvent : Obligations.HeldPartTakesNoOutsideEvent := by
  unfold Obligations.HeldPartTakesNoOutsideEvent
  intro c s held outside
  cases c
  case nets sl items ms =>
    by_cases few : items.length ≤ 8
    · simp only [exec, execNets, few, if_true, hear_held held]
    · simp only [exec, execNets, few, if_false, whenRunning_held held]
  case uptimeTick | buttonInputChange | hookInputChange | rdy | dialRepeat | modemSignalDiscarded | frameSent |
      collision | receivedFrameDropped => exact congrArg _ (whenRunning_held held _)
  case dack | dnak | drty | ring | live | gone | beat | callin => exact congrArg _ (hear_held held _ _ _)
  case creq | cack | cnak | cprg | cend | thld | tmov | tfre | reach | sqry | lqry | erst =>
    exact congrArg _ (receive_held held _ _ _ _)
  all_goals cases outside

end Sys2Proof.Machine
end

section
/-! The bytes of frames and of REACH payloads read back (R129, R135, R143, R144, R154 to R156). -/

namespace Sys2Proof.Machine

/-! ### Bytes -/

theorem byteOf_toNat (n : Nat) : (byteOf n).toNat = n % 256 := by simp [byteOf]

theorem byteOf_toNat_of_lt {n : Nat} (h : n < 256) : (byteOf n).toNat = n := by rw [byteOf_toNat, Nat.mod_eq_of_lt h]

theorem num3_bytes3 {n : Nat} (h : n < 16777216) :
    num3 (byteOf (n / 65536)) (byteOf (n / 256)) (byteOf n) = n := by
  simp only [num3, byteOf_toNat]
  omega

/-! ### Frames (R143, R144, R154 to R156) -/

/-- R154 to R156: bytes of a fitting length are damaged where the check bytes are not theirs, and else meet the header's
checks and the fifth. -/
theorem frameFate_frameBytes (seg : Nat) (own : Option Nat) (h : Header) (k : Nat) {p x : List Byte}
    (hp : p.length ≤ 40) (hx : x.length = 2) :
    frameFate seg own (frameBytes h k p ++ x) =
      if x = checkBytes (frameBytes h k p) then
        headerFate seg own ⟨h.seg % 256, h.dst % 256, h.src % 256⟩ (parseBody (k % 256) p)
      else .damaged := by
  have length : (byteOf p.length).toNat = p.length := byteOf_toNat_of_lt (by omega)
  simp only [frameBytes, List.cons_append, frameFate, length, byteOf_toNat, List.take_left, List.drop_left,
    List.length_cons, List.length_append, hx, hp, and_true]
  rw [if_pos (by omega)]
  exact if_congr .rfl rfl rfl

theorem header_mod_eq {h : Header} (fits : h.wf = true) : Header.mk (h.seg % 256) (h.dst % 256) (h.src % 256) = h := by
  simp only [Header.wf, wfByte, Bool.and_eq_true, decide_eq_true_eq] at fits
  obtain ⟨⟨hseg, hdst⟩, hsrc⟩ := fits
  rw [Nat.mod_eq_of_lt hseg, Nat.mod_eq_of_lt hdst, Nat.mod_eq_of_lt hsrc]

theorem cnakOfCode_cnakCode (r : CnakReason) : cnakOfCode (byteOf (cnakCode r)).toNat = some r := by cases r <;> rfl

theorem stageOfCodes_stageCode (st : CprgStage) :
    stageOfCodes (byteOf (stageCode st)).toNat (byteOf (stageReasonCode st)).toNat = some st := by
  cases st with
  | ringing | talking => rfl
  | failed r => cases r <;> rfl

theorem cendOfCode_cendCode (c : CendCause) : cendOfCode (byteOf (cendCode c)).toNat = some c := by cases c <;> rfl

theorem bodyPayload_length_le {b : Body} (fits : b.Fits) : (bodyPayload b).length ≤ 40 := by
  cases b <;> simp only [Body.Fits] at fits <;> simp [bodyPayload, bytes3] <;> omega

theorem parseBody_bodyPayload {b : Body} (fits : b.Fits) : parseBody (bodyKind b % 256) (bodyPayload b) = some b := by
  cases b <;> simp only [Body.Fits] at fits
  case creq callId code =>
    simp [bodyKind, bodyPayload, parseBody, bytes3, num3_bytes3 fits.2, byteOf_toNat_of_lt fits.1]
  case cnak callId r => simp [bodyKind, bodyPayload, parseBody, cnakOfCode_cnakCode, byteOf_toNat_of_lt fits]
  case cprg callId st => simp [bodyKind, bodyPayload, parseBody, stageOfCodes_stageCode, byteOf_toNat_of_lt fits]
  case cend callId c => simp [bodyKind, bodyPayload, parseBody, cendOfCode_cendCode, byteOf_toNat_of_lt fits]
  all_goals simp [bodyKind, bodyPayload, parseBody, byteOf_toNat_of_lt, fits]

/-- Settles O13: the length and the check are those of the frame's own bytes, and the payload of each kind is parsed
back. -/
theorem frameBytesReadBack : Obligations.FrameBytesReadBack := by
  unfold Obligations.FrameBytesReadBack
  intro h b own hw fits hown
  have whole := frameFate_frameBytes h.seg own h (bodyKind b) (bodyPayload_length_le fits)
    (x := checkBytes (frameBytes h (bodyKind b) (bodyPayload b))) rfl
  rw [encodeFrame, whole, if_pos rfl, header_mod_eq hw, parseBody_bodyPayload fits]
  simp [headerFate, hown]

/-! ### REACH payloads (R129, R135, R144) -/

/-- R135: an item of a received REACH made good. -/
def RawItem.good (i : RawItem) : ReachItem :=
  { code := i.code, radio := radioOfCode i.radio.toNat, level := min i.level.toNat 31, q := min i.q.toNat 15 }

/-- R135: the items of a payload that agrees with its count: those of a network code, made good. -/
theorem readItems_bytes (items : List RawItem) (h : ∀ i ∈ items, i.code < 16777216) :
    readItems items.length (items.flatMap RawItem.bytes) =
      some ((items.filter fun i => isNetworkCode i.code).map RawItem.good) := by
  induction items with
  | nil => rfl
  | cons i items ih =>
    obtain ⟨hi, hrest⟩ := List.forall_mem_cons.1 h
    simp only [List.flatMap_cons, RawItem.bytes, bytes3, List.cons_append, List.nil_append, List.length_cons, readItems,
      ih hrest, num3_bytes3 hi, Option.map_some]
    by_cases network : isNetworkCode i.code = true <;> simp [network, RawItem.good]

/-- R135: a payload of at most four items whose bytes agree with the count. -/
theorem readReach_bytes (seq capacity flags : Byte) {items : List RawItem} (few : items.length ≤ 4)
    (h : ∀ i ∈ items, i.code < 16777216) :
    readReach (seq :: capacity :: flags :: byteOf items.length :: items.flatMap RawItem.bytes) =
      some { seq := seq.toNat, capacity := min capacity.toNat 3, supply := supplyOfFlag (flags.toNat % 4),
             localCall := flags.getLsbD 2, items := (items.filter fun i => isNetworkCode i.code).map RawItem.good } := by
  have count : (byteOf items.length).toNat = items.length := byteOf_toNat_of_lt (by omega)
  simp only [readReach, count, few, if_true, readItems_bytes items h, Option.map_some]

/-- R144: an item as it is sent. -/
def ReachItem.raw (i : ReachItem) : RawItem :=
  { code := i.code, radio := byteOf ((i.radio.map radioCode).getD 0), level := byteOf i.level, q := byteOf i.q }

theorem reachPayload_eq (r : ReachAdvert) : reachPayload r =
    byteOf r.seq :: byteOf r.capacity :: byteOf (reachFlags r.supply r.localCall) ::
      byteOf (r.items.map ReachItem.raw).length :: (r.items.map ReachItem.raw).flatMap RawItem.bytes := by
  have bytes : itemBytes = fun i => i.raw.bytes := rfl
  rw [reachPayload, List.flatMap_map, List.length_map, bytes]

theorem ReachItem.good_raw {i : ReachItem} (level : i.level ≤ 31) (q : i.q ≤ 15) : i.raw.good = i := by
  have radio : radioOfCode (byteOf ((i.radio.map radioCode).getD 0)).toNat = i.radio := by
    cases i.radio with
    | none => rfl
    | some t => cases t <;> rfl
  simp [RawItem.good, ReachItem.raw, radio, byteOf_toNat_of_lt (show i.level < 256 by omega),
    byteOf_toNat_of_lt (show i.q < 256 by omega), level, q]

theorem supply_of_reachFlags (s : Supply) (l : Bool) :
    supplyOfFlag ((byteOf (reachFlags s l)).toNat % 4) = s ∧ (byteOf (reachFlags s l)).getLsbD 2 = l := by
  cases s <;> cases l <;> decide

theorem code_lt_of_network {n : Nat} (h : isNetworkCode n = true) : n < 16777216 := by
  simp only [isNetworkCode, Bool.and_eq_true, decide_eq_true_eq] at h
  omega

theorem readReach_reachPayload {r : ReachAdvert} (fits : r.Fits) : readReach (reachPayload r) = some r := by
  obtain ⟨seq, capacity, few, items⟩ := fits
  have codes : ∀ i ∈ r.items.map ReachItem.raw, i.code < 16777216 := by
    rintro _ hraw
    obtain ⟨i, hi, rfl⟩ := List.mem_map.1 hraw
    exact code_lt_of_network (items i hi).1
  have kept : ((r.items.map ReachItem.raw).filter fun i => isNetworkCode i.code) = r.items.map ReachItem.raw := by
    refine List.filter_eq_self.2 fun _ hraw => ?_
    obtain ⟨i, hi, rfl⟩ := List.mem_map.1 hraw
    exact (items i hi).1
  have good : (r.items.map ReachItem.raw).map RawItem.good = r.items := by
    rw [List.map_map]
    exact (List.map_congr_left fun i hi => ReachItem.good_raw (items i hi).2.1 (items i hi).2.2).trans (List.map_id _)
  obtain ⟨supply, localCall⟩ := supply_of_reachFlags r.supply r.localCall
  rw [reachPayload_eq, readReach_bytes _ _ _ (by simpa using few) codes, kept, good, supply, localCall,
    byteOf_toNat_of_lt (show r.seq < 256 by omega), byteOf_toNat_of_lt (show r.capacity < 256 by omega),
    Nat.min_eq_left capacity]

/-- Settles O14: a REACH is sent item by item as the raw items that are made good to themselves. -/
theorem reachPayloadReadsBack : Obligations.ReachPayloadReadsBack := fun _ fits => readReach_reachPayload fits

/-! ### Peer filters (R159) -/

/-- Two masked values agree exactly where the bits under the mask do. -/
theorem and_eq_and_iff (x y m : Nat) : x &&& m = y &&& m ↔ ∀ k, m.testBit k = true → x.testBit k = y.testBit k := by
  constructor
  · intro h k hk
    simpa [hk] using congrArg (fun n => n.testBit k) h
  · intro h
    refine Nat.eq_of_testBit_eq fun k => ?_
    rw [Nat.testBit_and, Nat.testBit_and]
    cases hk : m.testBit k with
    | false => simp
    | true => rw [h k hk]

theorem lt_of_testBit {n k b : Nat} (hn : n < 2 ^ b) (h : n.testBit k = true) : k < b := by
  by_contra hk
  exact absurd (Nat.ge_two_pow_of_testBit h) (Nat.not_le.2 (lt_of_lt_of_le hn (Nat.pow_le_pow_right (by decide) (by omega))))

/-- Settles O17: the first match is `find?`'s, and a mask of six bits has no bit past its sixth. -/
theorem peerFilterGivesTheFirstMatch : Obligations.PeerFilterGivesTheFirstMatch := by
  unfold Obligations.PeerFilterGivesTheFirstMatch
  intro f fs src _ _ hb
  refine ⟨rfl, ?_, ?_⟩
  · cases hm : filterMatches f src <;> simp [filterAction, hm]
  · unfold filterMatches
    cases ht : f.type with
    | off => simp
    | range => simp
    | pair => simp
    | mask =>
      simp only [beq_iff_eq, and_eq_and_iff, reduceCtorEq, false_and, true_and, false_or]
      exact ⟨fun h k _ hk => h k hk, fun h k hk => h k (lt_of_testBit (b := 6) hb hk) hk⟩

end Sys2Proof.Machine
end

section
/-! The quality counters (R43, R44): what a report and a decay leave, and that a decay that has come due is not lost. -/

namespace Sys2Proof.Machine

/-! ### A value given to a counter -/

/-- R43: the value that a report gives. -/
def Quality.target (q : Quality) : Report → Nat
  | .failure => min 15 (q.value + 2)
  | .credit => q.value - 3
  | .noChange => q.value

/-- R44: a counter whose decay timer starts at `now`, or stops at 0. -/
def Quality.restarted (now value : Nat) : Quality := ⟨value, if value = 0 then none else some (now + 600000)⟩

theorem Quality.change_eq (q : Quality) (now value : Nat) :
    q.change now value = if value = q.value then q else .restarted now value := rfl

@[simp] theorem Quality.change_value (q : Quality) (now value : Nat) : (q.change now value).value = value := by
  rw [change_eq]
  split
  · exact Eq.symm ‹_›
  · rfl

@[simp] theorem Quality.reported_value (q : Quality) (now value : Nat) : (q.reported now value).value = value := by
  unfold reported
  split
  · rfl
  · exact q.change_value ..

theorem Quality.reported_same (q : Quality) (now : Nat) : q.reported now q.value = q := by
  unfold reported
  split
  · rfl
  · rw [change_eq, if_pos rfl]

/-- R43: each report gives its value; NO_CHANGE gives the value that stands. -/
theorem Quality.report_eq (q : Quality) (now : Nat) (r : Report) : q.report now r = q.reported now (q.target r) := by
  cases r with
  | failure | credit => rfl
  | noChange => exact (q.reported_same now).symm

theorem Quality.reported_notDue {q : Quality} {now value : Nat} (notDue : ∀ at_, q.decay = some at_ → now < at_) :
    q.reported now value = if value = q.value then q else .restarted now value := by
  unfold reported
  rw [if_neg, change_eq]
  rintro ⟨due, -⟩
  cases hq : q.decay with
  | none => simp [isDue, hq] at due
  | some at_ =>
    have := notDue at_ hq
    simp [isDue, hq] at due
    omega

/-- R44: a report on a counter whose decay has come due leaves the timer, but for a value of 0. -/
theorem Quality.reported_due {q : Quality} {now at_ value : Nat} (sound : q.Sound) (hq : q.decay = some at_)
    (due : at_ ≤ now) : q.reported now value = ⟨value, if value = 0 then none else some at_⟩ := by
  have above : q.value ≠ 0 := sound.2.1 (by rw [hq]; rfl)
  unfold reported
  by_cases hv : value = 0
  · subst hv
    rw [if_neg (fun h => h.2 rfl), change_eq, if_neg (Ne.symm above)]
    rfl
  · rw [if_pos ⟨by simpa [isDue, hq] using due, hv⟩, if_neg hv, hq]

/-! ### A decay that has come due beside a report (log 35) -/

theorem Quality.decayed_eq_restarted (now at_ value : Nat) :
    (Quality.mk value (if value = 0 then none else some at_)).decayed now = .restarted now (value - 1) := by
  rcases Nat.eq_zero_or_pos value with rfl | above
  · rfl
  · exact (Quality.change_eq ..).trans (if_neg (by dsimp only; omega))

theorem Quality.report_restarted (now value : Nat) (r : Report) :
    (Quality.restarted now value).report now r = .restarted now ((Quality.restarted now value).target r) := by
  rw [report_eq, reported_notDue fun at_ hq => ?_]
  · split <;> rename_i h
    · rw [h]
      rfl
    · rfl
  · unfold restarted at hq
    split at hq
    · cases hq
    · have := Option.some.inj hq
      omega

theorem Quality.report_decayed_comm {q : Quality} {now at_ : Nat} (sound : q.Sound) (hq : q.decay = some at_)
    (due : at_ ≤ now) {r : Report} (room : r = .failure → q.value ≤ 13) :
    (q.report now r).decayed now = (q.decayed now).report now r := by
  have above : q.value ≠ 0 := sound.2.1 (by rw [hq]; rfl)
  have decays : q.decayed now = .restarted now (q.value - 1) := by
    rw [decayed, change_eq, if_neg (by omega)]
  have target : (Quality.restarted now (q.value - 1)).target r = q.target r - 1 := by
    cases r <;> simp only [Quality.target, restarted]
    · have := room rfl
      omega
    · omega
  rw [decays, report_restarted, target, report_eq, reported_due sound hq due, decayed_eq_restarted]

/-- Settles O18: a report gives its value, and the timer follows by whether its end has come. -/
theorem qualityCounterFollowsReportsAndDecay : Obligations.QualityCounterFollowsReportsAndDecay := by
  unfold Obligations.QualityCounterFollowsReportsAndDecay
  intro q now sound
  refine ⟨?_, ?_, rfl, q.change_value .., sound.decayed now, fun same => ?_, fun moved => ?_, fun r =>
    ⟨sound.report now r, fun same => ?_, fun notDue moved => ?_, fun at_ hq due => ⟨?_, ?_⟩⟩⟩
  · rw [Quality.report_eq, Quality.reported_value]
    rfl
  · rw [Quality.report_eq, Quality.reported_value]
    rfl
  · exact if_pos ((q.change_value ..).symm.trans same)
  · have value : q.value - 1 ≠ q.value := fun e => moved ((q.change_value ..).trans e)
    simp only [Quality.decayed, Quality.change_eq, value, if_false]
    rfl
  · rw [Quality.report_eq, Quality.reported_value] at same
    rw [Quality.report_eq, same, Quality.reported_same]
  · rw [Quality.report_eq, Quality.reported_value] at moved
    rw [Quality.report_eq, Quality.reported_notDue notDue, if_neg moved]
    rfl
  · rw [Quality.report_eq, Quality.reported_due sound hq due]
  · exact fun room => Quality.report_decayed_comm sound hq due room

end Sys2Proof.Machine
end

section
/-! Supply samples, the brown-out hold and the second's tick (R170 to R175, R180). -/

namespace Sys2Proof.Machine

/-! ### Slot records under the idle timer -/

/-- Beside `settleIdle_fields`: what else settling the idle timer leaves of a slot record. -/
@[simp] theorem settleIdle_rest (r : SlotRec) (n : Nat) :
    (r.settleIdle n).waitingCarry = r.waitingCarry ∧ (r.settleIdle n).waitingScan = r.waitingScan ∧
    (r.settleIdle n).heartbeat = r.heartbeat ∧ (r.settleIdle n).scanTimer = r.scanTimer ∧
    (r.settleIdle n).repeats = r.repeats ∧ (r.settleIdle n).repeatsDue = r.repeatsDue ∧
    (r.settleIdle n).rung = r.rung ∧ (r.settleIdle n).faultTimes = r.faultTimes := by
  rw [settleIdle_eq]
  exact ⟨rfl, rfl, rfl, rfl, rfl, rfl, rfl, rfl⟩

/-! ### A supply sample (R171 to R173, R175) -/

/-- R171: the sample of a running part whose timer is due. -/
theorem exec_supplySample_due {s : State} {at_ level : Nat} (running : s.phase = .running) (due : s.Due s.spm.timer at_) :
    exec (.supplySample level) s =
      .next (if level < 95 then (s.advanceTo at_).brownOut else (s.advanceTo at_).takeSample level) := by
  simp only [exec, execSupplySample, running, expire_due _ due, brownOutLevel]
  rfl

/-- R72: what a change of the supply state makes of a slot record. -/
def SlotRec.supplyChanged (r : SlotRec) (old new : Supply) (scan : Option Nat) (now : Nat) : SlotRec :=
  if isOut r.state then r
  else match old, new with
    | _, .critical => { r with scanTimer := none, waitingScan := false }.settleIdle now
    | .critical, .low => { r with scanTimer := scan }.settleIdle now
    | _, _ => r

theorem supplyChangedAt_slot (s : State) (old : Supply) (sl : Slot) : (s.supplyChangedAt old sl).slot sl =
    (s.slot sl).supplyChanged old s.spm.supply (s.scanLength.map (s.clock.now + ·)) s.clock.now := by
  unfold State.supplyChangedAt SlotRec.supplyChanged
  split
  · rfl
  · cases s.spm.supply <;> cases old <;> simp [State.startScanTimer]

theorem supplyChangedAt_other (s : State) (old : Supply) {sl k : Slot} (h : k ≠ sl) :
    (s.supplyChangedAt old sl).slot k = s.slot k := by
  unfold State.supplyChangedAt State.startScanTimer
  split
  · rfl
  · split
    · exact setSlot_slot_of_ne _ _ h
    · exact setSlot_slot_of_ne _ _ h
    · rfl

theorem supplyChanged_slot (s : State) (old : Supply) (sl : Slot) : (s.supplyChanged old).slot sl =
    (s.slot sl).supplyChanged old s.spm.supply (s.scanLength.map (s.clock.now + ·)) s.clock.now := by
  cases sl with
  | a => exact (supplyChangedAt_other _ old (by decide)).trans (supplyChangedAt_slot ..)
  | b =>
    have scan : (s.supplyChangedAt old .a).scanLength = s.scanLength := by simp [State.scanLength]
    rw [State.supplyChanged, supplyChangedAt_slot, supplyChangedAt_other s old (by decide), scan]
    simp

/-- R172, R173: the supply record that a sample gives, its timer apart. -/
def Spm.sampled (p : Spm) (low level : Nat) : Spm := if p.settling then p.settle low level else p.debounce low level

theorem Spm.sampled_level (p : Spm) (low level : Nat) :
    (p.sampled low level).level = level ∧ (p.sampled low level).settling = false := by
  unfold Spm.sampled
  split <;> rename_i h
  · exact ⟨rfl, rfl⟩
  · unfold Spm.debounce
    split
    · exact ⟨rfl, by simpa using h⟩
    · split <;> exact ⟨rfl, by simpa using h⟩

/-- R171, R175: the state after a sample: the slots told of a changed supply state, and the next sample's timer. -/
theorem takeSample_eq (s : State) (level : Nat) :
    s.takeSample level =
      let p := s.spm.sampled s.cfg.record.lowThreshold level
      let u := if p.supply = s.spm.supply then s.withSpm p else (s.withSpm p).supplyChanged s.spm.supply
      u.withSpm { p with timer := some (s.clock.now + if s.ple.state ≠ .idle ∨ s.cye ≠ [] then 10000 else 60000) } := by
  have settled := (s.spm.sampled_level s.cfg.record.lowThreshold level).2
  unfold State.takeSample
  simp only [← Spm.sampled.eq_def]
  split <;> rename_i h <;> simp only [State.withSpm_spm] at h <;>
    simp [h, State.sampleLength, State.isBusy, settled, sampleFastMs, sampleSlowMs]

/-- R172: the state that a sample points to, and the debounce of two samples. -/
theorem Spm.sampled_debounced {p : Spm} (steady : p.settling = false) (low level : Nat) :
    (pointsTo low p.supply level = none → (p.sampled low level).supply = p.supply ∧
      (p.sampled low level).pendingSupply = none ∧ (p.sampled low level).count = 0) ∧
    ∀ st, pointsTo low p.supply level = some st →
      (p.pendingSupply = some st ∧ p.count = 1 → (p.sampled low level).supply = st ∧
        (p.sampled low level).pendingSupply = none ∧ (p.sampled low level).count = 0) ∧
      (¬ (p.pendingSupply = some st ∧ p.count = 1) → (p.sampled low level).supply = p.supply ∧
        (p.sampled low level).pendingSupply = some st ∧ (p.sampled low level).count = 1) := by
  simp only [Spm.sampled, steady, Bool.false_eq_true, if_false, Spm.debounce]
  refine ⟨fun h => by simp [h], fun st h => ⟨fun hp => by simp [h, hp], fun hp => ?_⟩⟩
  simp only [h, hp, if_false]
  exact ⟨trivial, trivial, trivial⟩

theorem SlotRec.supplyChanged_steady (r : SlotRec) {old new : Supply} (h : old ≠ .critical) (h' : new ≠ .critical)
    (scan : Option Nat) (now : Nat) : r.supplyChanged old new scan now = r := by
  unfold SlotRec.supplyChanged
  cases old <;> cases new <;> simp at h h' ⊢

theorem SlotRec.supplyChanged_critical {r : SlotRec} (within : isOut r.state = false) (old : Supply) (scan : Option Nat)
    (now : Nat) : r.supplyChanged old .critical scan now =
      { r with scanTimer := none, waitingScan := false }.settleIdle now := by
  cases old <;> simp [SlotRec.supplyChanged, within]

theorem SlotRec.supplyChanged_recovered {r : SlotRec} (within : isOut r.state = false) (scan : Option Nat) (now : Nat) :
    r.supplyChanged .critical .low scan now = { r with scanTimer := scan }.settleIdle now := by
  simp [SlotRec.supplyChanged, within]

/-- Settles O22: the supply record is `Spm.sampled`'s, and a changed supply state reaches each slot by itself. -/
theorem supplySampleSettlesAndDebounces : Obligations.SupplySampleSettlesAndDebounces := by
  unfold Obligations.SupplySampleSettlesAndDebounces
  intro s at_ level running due enough
  refine ⟨_, (exec_supplySample_due running due).trans (by rw [if_neg (by omega)]), ?_⟩
  have table (u : State) (sl : Slot) (p : Spm) : (u.withSpm p).slot sl = u.slot sl := slot_of_slc (by simp) sl
  rw [takeSample_eq]
  extract_lets low points p u
  obtain ⟨hlevel, hsettling⟩ := s.spm.sampled_level low level
  have hp : p = s.spm.sampled low level := by simp [p, low]
  have slots (changed : p.supply ≠ s.spm.supply) (sl : Slot) : u.slot sl =
      (s.slot sl).supplyChanged s.spm.supply p.supply
        ((((s.advanceTo at_).withSpm p).scanLength).map (max s.clock.now at_ + ·)) (max s.clock.now at_) := by
    have adv : (s.advanceTo at_).spm.supply = s.spm.supply := by simp
    simp only [u, adv, changed, if_false, supplyChanged_slot, table]
    simp
  have frame : u.ple = s.ple ∧ u.cye = s.cye ∧ u.lnc = s.lnc ∧ u.adv = s.adv ∧ u.nwt = s.nwt ∧ u.nbt = s.nbt ∧
      u.tkm = s.tkm ∧ u.xpt = s.xpt ∧ u.svc = s.svc ∧ u.cfg = s.cfg := by
    simp only [u]
    split <;> simp
  refine ⟨by simp [hp, hlevel], by simp [hp, hsettling], fun settling => ?_, fun steady => ?_, by simp, fun same => ?_,
    fun critical before sl within => ?_, fun isLow was sl within => ?_, fun notNow before => ?_, by simpa using frame⟩
  · simp only [State.withSpm_spm, hp, Spm.sampled, settling, if_true, Spm.settle, settledSupply]
    exact ⟨if_congr and_comm rfl (if_congr and_comm rfl rfl), trivial, trivial⟩
  · have debounced := Spm.sampled_debounced steady low level
    rw [← hp] at debounced
    exact debounced
  · have same' : p.supply = (s.advanceTo at_).spm.supply := by simpa using same
    simp [u, same']
  · have changed := slots (by simp at critical; simp [critical, before.symm]) sl
    simp only [State.withSpm_spm] at critical
    rw [table, changed, critical, SlotRec.supplyChanged_critical within]
    simp
  · simp only [State.withSpm_spm] at isLow
    have changed := slots (by simp [isLow, was]) sl
    rw [table, changed, isLow, was, SlotRec.supplyChanged_recovered within]
    simp [State.scanLength, isLow, settleIdle_fields]
  · simp only [State.withSpm_spm] at notNow
    by_cases same : p.supply = s.spm.supply
    · have same' : p.supply = (s.advanceTo at_).spm.supply := by simpa using same
      simp [u, same']
    · refine slc_of_slot fun sl => ?_
      rw [table, slots same sl, SlotRec.supplyChanged_steady _ before notNow]

end Sys2Proof.Machine
end

section
/-! The adverts (R129 to R133): when an early advert is due, what a build leaves, and what a watched event does. -/

namespace Sys2Proof.Machine

/-- R132: the comparison with the last advertised best. -/
theorem isEarlyDue_iff (s : State) (items : List ReachItem) :
    isEarlyDue s.adv.lastBest (bestOf items) = true ↔ s.EarlyAdvertDue items := by
  unfold State.EarlyAdvertDue
  cases s.adv.lastBest with
  | notYet => simp [isEarlyDue]
  | noItem => cases items <;> simp [isEarlyDue, bestOf]
  | item k l =>
    cases items with
    | nil => simp [isEarlyDue, bestOf]
    | cons i is =>
      simp only [isEarlyDue, bestOf, Bool.or_eq_true, bne_iff_ne, decide_eq_true_eq, ne_comm (a := k)]
      omega

/-- What the items of a REACH read (R130). -/
theorem advertItems_congr {s t : State} (hs : t.slc = s.slc) (hw : t.nwt = s.nwt) (hc : t.cfg = s.cfg) :
    advertItems t = advertItems s := by
  simp only [advertItems, eligible, slot_of_slc hs, table_of_nwt hw, hc]

/-- R147, R132: a watched event with no early advert due leaves the advert generator and the line. -/
theorem watchAdvert_notDue {s : State} (h : s.own = none ∨ ¬ s.EarlyAdvertDue (advertItems s)) : s.watchAdvert = s := by
  unfold State.watchAdvert
  refine if_neg fun due => ?_
  obtain ⟨own, early⟩ := Bool.and_eq_true_iff.1 due
  obtain h | h := h
  · simp [h] at own
  · exact h ((isEarlyDue_iff ..).1 early)

theorem watchAdvert_due {s : State} (own : s.own ≠ none) (due : s.EarlyAdvertDue (advertItems s)) :
    s.watchAdvert = if s.spacingPassed then s.buildReach else s.withAdv { s.adv with early := true } := by
  unfold State.watchAdvert
  exact if_pos (Bool.and_eq_true_iff.2 ⟨Option.isSome_iff_ne_none.2 own, (isEarlyDue_iff ..).2 due⟩)

@[simp] theorem watchAdvert_items (s : State) : advertItems s.watchAdvert = advertItems s :=
  advertItems_congr (by simp) (by simp) (by simp)

end Sys2Proof.Machine
end

section
/-! The brown-out hold and the second's tick (R174, R180). -/

namespace Sys2Proof.Machine

/-- R174, R177: the level of a read decides between the start-up and the hold. -/
theorem startUp_low (s : State) (bytes : Option (List Byte)) {level : Nat} (low : level < 95) :
    s.startUp bytes level = (s.startBlocks bytes).brownOut := if_pos low

/-- Settles O23: a sample below 95 is the brown-out reset, whose fields are read off. -/
theorem brownOutHoldsThePartAndKeepsTheLog : Obligations.BrownOutHoldsThePartAndKeepsTheLog := by
  unfold Obligations.BrownOutHoldsThePartAndKeepsTheLog
  refine ⟨fun s at_ level running due low => ?_, fun s level held enough => ?_, fun s level held low => ?_,
    fun s bytes level reading length low c hc => ?_⟩
  · refine ⟨(s.advanceTo at_).brownOut, (exec_supplySample_due running due).trans (by rw [if_pos low]), rfl, rfl, rfl, rfl, rfl, rfl, rfl, rfl, rfl,
      fun sl => ?_, rfl, rfl, rfl⟩
    cases sl <;> rfl
  · simp only [exec, execSupplySample, held, recoveryLevel, enough, if_true, State.beginRead]
  · simp only [exec, execSupplySample, held, recoveryLevel, Nat.not_le.2 low, if_false]
  · have powerless (b : Option (List Byte)) (sl : Slot) : ((s.startBlocks b).brownOut.slot sl).power = false := by
      cases sl <;> rfl
    rcases List.mem_pair.1 hc with rfl | rfl
    · refine ⟨(s.startBlocks none).brownOut, ?_, rfl, rfl, powerless _⟩
      simp only [exec, execConfigReadDeadline, reading, if_true, startUp_low _ _ low]
    · refine ⟨(s.startBlocks (some bytes)).brownOut, ?_, rfl, rfl, powerless _⟩
      simp only [exec, execConfigReadComplete, reading, length, and_self, if_true, startUp_low _ _ low]

/-- R180: the tick of a running part. -/
theorem exec_uptimeTick {s : State} (running : s.phase = .running) :
    exec .uptimeTick s = .next s.countSecond.watchAdvert := by
  simp only [exec, execUptimeTick, whenRunning_running _ running]

/-- Settles O24: the second is counted by `countSecond`, and the early advert it may make due touches the advert
generator and the line alone. -/
theorem uptimeTickCountsOneSecond : Obligations.UptimeTickCountsOneSecond := by
  unfold Obligations.UptimeTickCountsOneSecond
  intro s running
  have own : s.countSecond.own = s.own := rfl
  obtain ⟨-, clock, cpi, xpt, slc, nwt, nbt, rsl, ple, cye, tkm, spm, cfg, svc, -⟩ := s.countSecond.watchAdvert_frame
  refine ⟨_, exec_uptimeTick running, cfg, clock, fun sl => ?_, nbt, ple, cye, slc, tkm, xpt, cpi, rsl, spm, svc,
    fun isolated => ?_, fun notDue => ?_⟩
  · rw [table_of_nwt nwt]
    cases sl <;> rfl
  · rw [watchAdvert_notDue (.inl (own.trans isolated))]
    exact ⟨rfl, rfl⟩
  · rw [watchAdvert_items] at notDue
    rw [watchAdvert_notDue (.inr notDue)]
    exact ⟨rfl, rfl⟩

end Sys2Proof.Machine
end

section
/-! The start-up (R159, R177 to R182): the record's fields as its bytes give them, and what the blocks hold. -/

namespace Sys2Proof.Machine

/-! ### Writes of slot records -/

/-- Nothing but slot records differs, and the OUT lamp that follows them. -/
def State.OnlySlots (s t : State) : Prop := t = { s with slc := t.slc, cpi := { s.cpi with outLamp := t.cpi.outLamp } }

/-- What a field holds after a write of slot records. -/
theorem State.OnlySlots.read {β : Type} {s t : State} (h : s.OnlySlots t) (g : State → β) :
    g t = g { s with slc := t.slc, cpi := { s.cpi with outLamp := t.cpi.outLamp } } := congrArg g h

theorem State.OnlySlots.refl (s : State) : s.OnlySlots s := rfl

theorem State.OnlySlots.setSlot (s : State) (sl : Slot) (f : SlotRec → SlotRec) : s.OnlySlots (s.setSlot sl f) := by
  cases sl <;> rfl

theorem State.OnlySlots.trans {s t u : State} (h : s.OnlySlots t) (g : t.OnlySlots u) : s.OnlySlots u := by
  unfold State.OnlySlots at *
  rw [g, h]

/-! ### A claim on an OFF slot (R64, R68) -/

/-- R68: a claim on an OFF slot that waits for no restart warms it. -/
theorem placeClaim_off {s : State} {sl : Slot} (off : (s.slot sl).state = .off) (stopped : (s.slot sl).restartTimer = none)
    (c : Claim) : s.placeClaim sl c = (s.setSlot sl (SlotRec.addClaim c)).setSlot sl (SlotRec.warm s.clock.now) := by
  simp [State.placeClaim, off, stopped]

theorem addClaim_state (c : Claim) (r : SlotRec) : (r.addClaim c).state = r.state := by cases c <;> rfl

theorem warm_settleIdle (r : SlotRec) (now m n : Nat) :
    ((r.settleIdle m).warm now).settleIdle n = { r.warm now with idleTimer := none } := by
  rw [settleIdle_not_idle _ _ (by simp [SlotRec.warm, SlotRec.settled]), settleIdle_eq]
  rfl

theorem placeClaim_off_slot {s : State} {sl : Slot} (off : (s.slot sl).state = .off)
    (stopped : (s.slot sl).restartTimer = none) (c : Claim) :
    (s.placeClaim sl c).slot sl = { ((s.slot sl).addClaim c).warm s.clock.now with idleTimer := none } := by
  rw [placeClaim_off off stopped, State.setSlot_slot, State.setSlot_slot, warm_settleIdle]

/-- R182 step 5: the periodic claim of a fitted slot at the start warms it. -/
theorem startScanOf_off {u : State} {sl : Slot}
    (h : u.cfg.record.fitted sl = true → (u.slot sl).state = .off ∧ (u.slot sl).restartTimer = none) :
    u.OnlySlots (u.startScanOf sl) ∧
    (u.startScanOf sl).slot sl = (if u.cfg.record.fitted sl then
      { ((u.slot sl).addClaim .scan).warm u.clock.now with idleTimer := none } else u.slot sl) ∧
    (u.startScanOf sl).slot (otherSlot sl) = u.slot (otherSlot sl) := by
  unfold State.startScanOf
  split <;> rename_i fits
  · obtain ⟨off, stopped⟩ := h fits
    refine ⟨?_, placeClaim_off_slot off stopped _, ?_⟩
    · rw [placeClaim_off off stopped]
      exact .trans (.setSlot ..) (.setSlot ..)
    · simp [placeClaim_off off stopped]
  · exact ⟨.refl u, rfl, rfl⟩

/-! ### What the start-up leaves (R182) -/

/-- R182: the parts of a started box, of which `r` is the record read. -/
structure State.Started (s t : State) (c : Cfg) (level : Nat) : Prop where
  phase : t.phase = .running
  clock : t.clock = ⟨0, 0⟩
  cfg : t.cfg = c
  slots : ∀ sl, t.slot sl = if c.record.fitted sl then
    { ((resetSlot .off (s.slot sl).sent).addClaim .scan).warm 0 with idleTimer := none }
    else resetSlot .absent (s.slot sl).sent
  lnc : t.lnc = { resetLnc s.lnc.sent with
    heard := Config.otherBytes s.choices
    rng := rngSeed (match c.address with
      | .assigned n => n
      | .isolated => 0) }
  adv : t.adv = if t.own.isSome then { resetAdv with timer := .startWait 45000 } else resetAdv
  spm : t.spm = { resetSpm (some 10000) with level := level }
  watches : t.cpi.buttonWatch = some 50 ∧ t.cpi.hookWatch = some 50
  tables : t.nwt = State.reset.nwt ∧ t.nbt = [] ∧ t.rsl = []
  calls : t.ple = State.reset.ple ∧ t.cye = [] ∧ t.tkm = State.reset.tkm ∧ t.xpt = State.reset.xpt
  svc : t.svc = s.svc
  choices : t.choices = s.choices + 1

theorem startUp_started (s : State) (bytes : Option (List Byte)) {level : Nat} (enough : 95 ≤ level) :
    s.Started (s.startUp bytes level) (cfgOfRead bytes) level := by
  let u := (s.startBlocks bytes).withSpm { resetSpm (some 10000) with level := level }
  have start : s.startUp bytes level = ((u.startScanOf .a).startScanOf .b).startAdvert := by
    have now : (s.startBlocks bytes).clock.now = 0 := rfl
    simp only [State.startUp, brownOutLevel, Nat.not_lt.2 enough, if_false, now, sampleFastMs, Nat.zero_add]
    rfl
  have cfg : u.cfg = cfgOfRead bytes := rfl
  have blocks (sl : Slot) : u.slot sl =
      resetSlot (if (cfgOfRead bytes).record.fitted sl then .off else .absent) (s.slot sl).sent := by cases sl <;> rfl
  have off (sl : Slot) (fits : (cfgOfRead bytes).record.fitted sl = true) :
      (u.slot sl).state = .off ∧ (u.slot sl).restartTimer = none := by
    rw [blocks, fits]
    exact ⟨rfl, rfl⟩
  obtain ⟨onlyA, scanA, otherA⟩ := startScanOf_off (u := u) (sl := .a) (off .a)
  have cfgA : (u.startScanOf .a).cfg = u.cfg := onlyA.read State.cfg
  have clockA : (u.startScanOf .a).clock = u.clock := onlyA.read State.clock
  have slotB : (u.startScanOf .a).slot .b = u.slot .b := otherA
  obtain ⟨onlyB, scanB, otherB⟩ := startScanOf_off (sl := .b) (u := u.startScanOf .a)
    (fun fits => by rw [slotB]; exact off .b (by rwa [cfgA] at fits))
  have slotA : ((u.startScanOf .a).startScanOf .b).slot .a = (u.startScanOf .a).slot .a := otherB
  rw [slotB, cfgA, clockA] at scanB
  rw [scanA] at slotA
  have only := onlyA.trans onlyB
  rw [start]
  generalize (u.startScanOf .a).startScanOf .b = v at only scanB slotA
  obtain ⟨adv, hadv⟩ : ∃ adv, v.startAdvert = v.withAdv adv ∧
      adv = if v.own.isSome then { v.adv with timer := .startWait (v.clock.now + 45000) } else v.adv := by
    unfold State.startAdvert
    split <;> exact ⟨_, rfl, rfl⟩
  obtain ⟨heq, hadv⟩ := hadv
  rw [heq]
  have slots (sl : Slot) : v.slot sl = if (cfgOfRead bytes).record.fitted sl then
      { ((u.slot sl).addClaim .scan).warm 0 with idleTimer := none } else u.slot sl := by
    cases sl with
    | a => exact slotA
    | b => exact scanB
  have own : (v.withAdv adv).own = v.own := rfl
  constructor
  · exact only.read State.phase
  · exact only.read State.clock
  · exact only.read State.cfg
  · intro sl
    refine (slots sl).trans ?_
    rw [blocks]
    split <;> rfl
  · exact only.read State.lnc
  · rw [own, State.withAdv_adv, hadv, show v.clock = ⟨0, 0⟩ from only.read State.clock,
      show v.adv = resetAdv from only.read State.adv]
  · exact only.read State.spm
  · have cpi : v.cpi = { u.cpi with outLamp := v.cpi.outLamp } := only.read State.cpi
    exact ⟨congrArg Cpi.buttonWatch cpi, congrArg Cpi.hookWatch cpi⟩
  · exact ⟨only.read State.nwt, only.read State.nbt, only.read State.rsl⟩
  · exact ⟨only.read State.ple, only.read State.cye, only.read State.tkm, only.read State.xpt⟩
  · exact only.read State.svc
  · exact only.read State.choices

end Sys2Proof.Machine
end

section
/-! The configuration record as its bytes give it (R159, R177 to R179), and the resets and the start-up. -/

namespace Sys2Proof.Machine

/-- The value of one byte of a record. -/
def byteAt (bytes : List Byte) (k : Nat) : Nat := (bytes.getD k 0).toNat

/-- R178: the fields of 32 bytes. -/
theorem decodeRecord_eq {bytes : List Byte} (length : bytes.length = 32) :
    decodeRecord bytes = some
      { boxAddress := byteAt bytes 0
        segment := byteAt bytes 1
        fittedA := byteAt bytes 2 ≠ 0 ∧ byteAt bytes 2 ≠ 2
        fittedB := byteAt bytes 2 ≠ 0 ∧ byteAt bytes 2 ≠ 1
        advertInterval := clamp 10 120 (byteAt bytes 3)
        scanInterval := clamp 300 3600 (byteAt bytes 4 * 256 + byteAt bytes 5)
        relayPenalty := clamp 0 63 (byteAt bytes 6)
        policy := decodePolicy (byteAt bytes 7)
        lowThreshold := clamp 100 140 (byteAt bytes 8)
        carrying := byteAt bytes 9 ≠ 0
        filters := decodeFilters 4 (bytes.drop 10) } := by
  iterate 10
    obtain _ | ⟨_, bytes⟩ := bytes
    · simp at length
  exact if_pos (by simpa using length)

/-- R178: four bytes an entry, in order. -/
theorem decodeFilters_get : ∀ (n : Nat) (bytes : List Byte) (k : Nat), k < n → 4 * n ≤ bytes.length →
    (decodeFilters n bytes)[k]? = some (decodeFilter (bytes.getD (4 * k) 0) (bytes.getD (4 * k + 1) 0)
      (bytes.getD (4 * k + 2) 0) (bytes.getD (4 * k + 3) 0))
  | n + 1, t :: a :: b :: x :: rest, 0, _, _ => rfl
  | n + 1, t :: a :: b :: x :: rest, k + 1, hk, h => by
    simpa [decodeFilters, Nat.mul_succ] using decodeFilters_get n rest k (by omega) (by simp at h; omega)
  | n + 1, [], _, _, h | n + 1, [_], _, _, h | n + 1, [_, _], _, _, h | n + 1, [_, _, _], _, _, h => by
    simp at h <;> omega

/-- R178: an entry of a listed type and action reads as written, its values clamped. -/
theorem decodeFilter_listed (t a b x : Byte) {ty : FilterType} {act : FilterAction}
    (ht : (t.toNat, ty) ∈ [(1, FilterType.range), (2, .pair), (3, .mask)])
    (hx : (x.toNat, act) ∈ [(0, FilterAction.ignore), (1, .prefer)]) :
    decodeFilter t a b x = { type := ty, a := min 63 a.toNat, b := min 63 b.toNat, action := act } := by
  simp only [List.mem_cons, Prod.mk.injEq, List.not_mem_nil, or_false] at ht hx
  unfold decodeFilter
  obtain ⟨ht, rfl⟩ | ⟨ht, rfl⟩ | ⟨ht, rfl⟩ := ht <;> obtain ⟨hx, rfl⟩ | ⟨hx, rfl⟩ := hx <;>
    simp [ht, hx, min_comm]

/-- R178: any other entry is OFF. -/
theorem decodeFilter_off (t a b x : Byte) (h : t.toNat = 0 ∨ 3 < t.toNat ∨ 1 < x.toNat) :
    (decodeFilter t a b x).type = .off := by
  unfold decodeFilter
  dsimp only
  generalize t.toNat = n at h
  generalize x.toNat = m at h
  split
  · rename_i ty act hty hact
    obtain rfl | h | h := h
    · exact (Option.some.inj hty).symm
    · split at hty <;> simp at hty <;> omega
    · split at hact <;> simp at hact <;> omega
  · rfl

/-- R177: a record whose sum is not 0, and one that is not read, leave the defaults. -/
theorem cfgOfRead_invalid {bytes : Option (List Byte)}
    (h : ∀ bs, bytes = some bs → (bs.map BitVec.toNat).sum % 256 ≠ 0) : cfgOfRead bytes = resetCfg := by
  unfold cfgOfRead
  split
  · have bad : sumIsZero ‹_› = false := by simpa [sumIsZero] using h _ rfl
    simp [bad]
  · rfl

/-- The record of 32 bytes (R178). -/
def recordOf (bytes : List Byte) : ConfigRecord :=
  { boxAddress := byteAt bytes 0
    segment := byteAt bytes 1
    fittedA := byteAt bytes 2 ≠ 0 ∧ byteAt bytes 2 ≠ 2
    fittedB := byteAt bytes 2 ≠ 0 ∧ byteAt bytes 2 ≠ 1
    advertInterval := clamp 10 120 (byteAt bytes 3)
    scanInterval := clamp 300 3600 (byteAt bytes 4 * 256 + byteAt bytes 5)
    relayPenalty := clamp 0 63 (byteAt bytes 6)
    policy := decodePolicy (byteAt bytes 7)
    lowThreshold := clamp 100 140 (byteAt bytes 8)
    carrying := byteAt bytes 9 ≠ 0
    filters := decodeFilters 4 (bytes.drop 10) }

/-- R177 to R179: what the read of a valid record leaves. -/
theorem cfgOfRead_valid {bytes : List Byte} (length : bytes.length = 32)
    (sum : (bytes.map BitVec.toNat).sum % 256 = 0) :
    cfgOfRead (some bytes) =
      { record := recordOf bytes, load := .valid, uptime := 0
        address := if 1 ≤ byteAt bytes 0 ∧ byteAt bytes 0 ≤ 62 then .assigned (byteAt bytes 0) else .isolated } := by
  have good : sumIsZero bytes = true := by simp [sumIsZero, sum]
  simp only [cfgOfRead, good, if_true, decodeRecord_eq length]
  rfl

theorem decodePolicy_eq (n : Nat) : decodePolicy n = if n = 0 then .none else if n = 2 then .both else .one := by
  unfold decodePolicy
  split
  · rfl
  · rfl
  · rename_i h0 h2
    rw [if_neg (fun e => h0 e), if_neg (fun e => h2 e)]

theorem recordOf_fitted (bytes : List Byte) (sl : Slot) : (recordOf bytes).fitted sl = true ↔
    byteAt bytes 2 ≠ 0 ∧ byteAt bytes 2 ≠ (if sl = .a then 2 else 1) := by
  cases sl <;> simp [recordOf, ConfigRecord.fitted]

/-- R152: the seed of an address in its range. -/
theorem rngSeed_toNat {n : Nat} (low : 1 ≤ n) (high : n ≤ 62) : (rngSeed n).toNat = n * 1021 := by
  unfold rngSeed
  rw [if_neg (by omega), BitVec.toNat_ofNat]
  omega

/-! ### What a started box holds, in the statement's order -/

/-- R182: a fitted slot warms for its first scan, and no other has power. -/
theorem State.Started.slot_fitted {s t : State} {c : Cfg} {level : Nat} (h : s.Started t c level) {sl : Slot}
    (fits : c.record.fitted sl = true) : (t.slot sl).state = .warming ∧ (t.slot sl).power = true ∧
    (t.slot sl).waitingScan = true ∧ (t.slot sl).deadline = some 20000 := by
  rw [h.slots, if_pos fits]
  exact ⟨rfl, rfl, rfl, rfl⟩

theorem State.Started.slot_unfitted {s t : State} {c : Cfg} {level : Nat} (h : s.Started t c level) {sl : Slot}
    (fits : ¬ c.record.fitted sl = true) : (t.slot sl).state = .absent ∧ (t.slot sl).power = false ∧
    (t.slot sl).waitingScan = false := by
  rw [h.slots, if_neg fits]
  exact ⟨rfl, rfl, rfl⟩

/-- R133, R152: what a box with an address starts with, and one without. -/
theorem State.Started.assigned {s t : State} {c : Cfg} {level n : Nat} (h : s.Started t c level)
    (own : c.address = .assigned n) :
    t.own = some n ∧ t.lnc.rng = rngSeed n ∧ t.adv.timer = .startWait 45000 := by
  have owned : t.own = some n := by simp [State.own, h.cfg, own]
  refine ⟨owned, by rw [h.lnc, own], ?_⟩
  rw [h.adv, owned]
  rfl

theorem State.Started.isolated {s t : State} {c : Cfg} {level : Nat} (h : s.Started t c level)
    (own : c.address = .isolated) : t.own = none ∧ t.lnc.rng = 1 ∧ t.adv.timer = .stopped := by
  have owned : t.own = none := by simp [State.own, h.cfg, own]
  refine ⟨owned, by rw [h.lnc, own]; rfl, ?_⟩
  rw [h.adv, owned]
  rfl

/-- R178: the filters of a record, one by one. -/
theorem recordOf_filter {bytes : List Byte} (length : bytes.length = 32) {k : Nat} (hk : k < 4) :
    (recordOf bytes).filters[k]? = some (decodeFilter (bytes.getD (10 + 4 * k) 0) (bytes.getD (11 + 4 * k) 0)
      (bytes.getD (12 + 4 * k) 0) (bytes.getD (13 + 4 * k) 0)) := by
  have drop (i : Nat) : (bytes.drop 10).getD i 0 = bytes.getD (10 + i) 0 := by simp
  refine (decodeFilters_get 4 (bytes.drop 10) k hk (by simp [length])).trans ?_
  simp only [drop, ← Nat.add_assoc, Nat.add_right_comm 10]

/-- Settles O21: the four clauses are the cold reset, its release, and the start-up of a record that is read and of one
that is not. -/
theorem startUpFollowsTheRecord : Obligations.StartUpFollowsTheRecord := by
  unfold Obligations.StartUpFollowsTheRecord
  refine ⟨fun s => ⟨s.coldReset, rfl, rfl, rfl, rfl, rfl, rfl, fun sl => ?_⟩, fun s held => ?_,
    fun s bytes level reading length sum enough => ?_, fun s bytes level reading enough length sum c hc => ?_⟩
  · cases sl <;> exact ⟨rfl, ⟨rfl, rfl, rfl⟩, rfl⟩
  · obtain held | held := held
    · exact ⟨s.beginRead, by simp [exec, execResetRelease, held], rfl, rfl, rfl, by simp [held, State.beginRead]⟩
    · exact ⟨s.coldReset.beginRead, by simp [exec, execResetRelease, held], rfl, rfl, rfl, by simp [held]; rfl⟩
  · have start := startUp_started s (some bytes) enough
    have done : exec (.configReadComplete bytes level) s = .next (s.startUp (some bytes) level) := by
      simp [exec, execConfigReadComplete, reading, length]
    have filters := decodeFilters_length 4 (bytes.drop 10) (by simp [length])
    rw [cfgOfRead_valid length sum] at start
    generalize s.startUp (some bytes) level = t at start done
    intro b fits
    refine ⟨t, done, start.phase, start.clock, ?_⟩
    simp only [start.cfg]
    refine ⟨trivial, trivial, rfl, rfl, rfl, max_eq_right (Nat.zero_le _), decodePolicy_eq _, rfl,
      by simp [recordOf, b, byteAt], fun assigned => ?_, fun isolated => start.isolated (if_neg isolated),
      fun sl h => start.slot_fitted ((recordOf_fitted bytes sl).2 h),
      fun sl h => start.slot_unfitted (mt (recordOf_fitted bytes sl).1 h), start.spm, by rw [start.lnc], start.choices,
      start.watches.1, start.watches.2, start.svc, start.tables.1, start.tables.2.1, start.calls.1, start.calls.2.1,
      start.calls.2.2.1, start.calls.2.2.2, start.tables.2.2, filters, fun k hk => ⟨_, recordOf_filter length hk,
        fun ty hty act hact => decodeFilter_listed _ _ _ _ hty hact, fun h => decodeFilter_off _ _ _ _ h⟩⟩
    obtain ⟨own, rng, timer⟩ := start.assigned (if_pos assigned)
    exact ⟨own, rng ▸ rngSeed_toNat assigned.1 assigned.2, timer⟩
  · have defaults : ∃ read, exec c s = .next (s.startUp read level) ∧ cfgOfRead read = resetCfg := by
      simp only [List.mem_cons, List.not_mem_nil, or_false] at hc
      obtain rfl | rfl := hc
      · exact ⟨none, by simp [exec, execConfigReadDeadline, reading], rfl⟩
      · exact ⟨some bytes, by simp [exec, execConfigReadComplete, reading, length],
          cfgOfRead_invalid fun bs e => Option.some.inj e ▸ sum⟩
    obtain ⟨read, done, cfg⟩ := defaults
    have start := startUp_started s read enough
    rw [cfg] at start
    generalize s.startUp read level = t at start done
    obtain ⟨own, rng, timer⟩ := start.isolated rfl
    have fitted (sl : Slot) : resetCfg.record.fitted sl = true := by cases sl <;> rfl
    refine ⟨t, done, start.phase, by rw [start.cfg]; rfl, own, by rw [start.cfg]; rfl, ?_⟩
    simp only [start.cfg, start.spm]
    refine ⟨rfl, rfl, rfl, rfl, rfl, rfl, rfl, by decide, rng, by rw [start.lnc], start.choices, timer, trivial, rfl,
      rfl, fun sl => ?_, start.svc⟩
    obtain ⟨state, -, waiting, deadline⟩ := start.slot_fitted (fitted sl)
    exact ⟨state, waiting, deadline⟩

end Sys2Proof.Machine
end

section
/-! The call point's inputs and cadences (R160 to R164, R169). -/

namespace Sys2Proof.Machine

theorem watchEnd_both {c : Cpi} {at_ : Nat} (button : c.buttonWatch = some at_) (hook : c.hookWatch = some at_) :
    c.watchEnd = some at_ := by simp [Cpi.watchEnd, button, hook]

theorem watchEnd_button {c : Cpi} {at_ now : Nat} (button : c.buttonWatch = some at_) (reached : at_ ≤ now)
    (later : ∀ x, c.hookWatch = some x → now < x) : c.watchEnd = some at_ := by
  cases hook : c.hookWatch with
  | none => simp [Cpi.watchEnd, button, hook]
  | some x =>
    have := later x hook
    simp [Cpi.watchEnd, button, hook, min_eq_left (by omega : at_ ≤ x)]

theorem watchEnd_hook {c : Cpi} {at_ now : Nat} (hook : c.hookWatch = some at_) (reached : at_ ≤ now)
    (later : ∀ x, c.buttonWatch = some x → now < x) : c.watchEnd = some at_ := by
  cases button : c.buttonWatch with
  | none => simp [Cpi.watchEnd, button, hook]
  | some x =>
    have := later x button
    simp [Cpi.watchEnd, button, hook, min_eq_right (by omega : at_ ≤ x)]

/-- R160: the button alone takes its level where its watch ends first. -/
theorem endWatch_button {c : Cpi} {at_ now : Nat} (button : c.buttonWatch = some at_) (reached : at_ ≤ now)
    (later : ∀ x, c.hookWatch = some x → now < x) (down lifted : Bool) :
    c.endWatch now down lifted = { c with button := if down then .pressed else .released, buttonWatch := none } := by
  cases hook : c.hookWatch with
  | none => simp [Cpi.endWatch, button, hook, reached]
  | some x =>
    have : ¬ x ≤ now := Nat.not_le.2 (later x hook)
    simp [Cpi.endWatch, button, hook, reached, this]

/-- R160: the hook switch alone takes its level where its watch ends first. -/
theorem endWatch_hook {c : Cpi} {at_ now : Nat} (hook : c.hookWatch = some at_) (reached : at_ ≤ now)
    (later : ∀ x, c.buttonWatch = some x → now < x) (down lifted : Bool) :
    c.endWatch now down lifted = { c with hook := if lifted then .lifted else .onHook, hookWatch := none } := by
  cases button : c.buttonWatch with
  | none => simp [Cpi.endWatch, button, hook, reached]
  | some x =>
    have : ¬ x ≤ now := Nat.not_le.2 (later x button)
    simp [Cpi.endWatch, button, hook, reached, this]

theorem exec_inputWatchEnd {s : State} {at_ : Nat} (down lifted : Bool) (h : s.Due s.cpi.watchEnd at_) :
    exec (.inputWatchEnd down lifted) s =
      .next ((s.advanceTo at_).withCpi (s.cpi.endWatch (max s.clock.now at_) down lifted)) :=
  congrArg Host.Outcome.next (expire_due _ h)

theorem exec_buttonInputChange {s : State} (down : Bool) (ms : Nat) (running : s.phase = .running) :
    exec (.buttonInputChange down ms) s =
      .next ((s.arrive ms).withCpi (s.cpi.buttonChange down (s.arrive ms).clock.now)) :=
  congrArg Host.Outcome.next (whenRunning_running _ running)

theorem exec_hookInputChange {s : State} (lifted : Bool) (ms : Nat) (running : s.phase = .running) :
    exec (.hookInputChange lifted ms) s =
      .next ((s.arrive ms).withCpi (s.cpi.hookChange lifted (s.arrive ms).clock.now)) :=
  congrArg Host.Outcome.next (whenRunning_running _ running)

/-- Settles O25: a change by the state of the input, a watch's end by which of the two ends. -/
theorem switchesAreDebouncedWithoutEvents : Obligations.SwitchesAreDebouncedWithoutEvents := by
  unfold Obligations.SwitchesAreDebouncedWithoutEvents
  refine ⟨fun s ms running free => ?_, fun s ms running free => ?_, fun s ms at_ level running watched => ?_,
    fun s ms at_ level running watched => ?_, fun s at_ down lifted due hook => ?_,
    fun s at_ down lifted due later => ?_, fun s at_ down lifted due later => ?_, fun s at_ due state => ?_⟩
  · refine ⟨fun h => ?_, fun h => ?_, fun h => ?_, fun h => ?_⟩ <;>
      simp [exec_buttonInputChange _ ms running, Cpi.buttonChange, free, h, debounceMs]
  · refine ⟨fun h => ?_, fun h => ?_, fun h => ?_, fun h => ?_⟩ <;>
      simp [exec_hookInputChange _ ms running, Cpi.hookChange, free, h, debounceMs]
  · simp [exec_buttonInputChange _ ms running, Cpi.buttonChange, watched, debounceMs]
  · simp [exec_hookInputChange _ ms running, Cpi.hookChange, watched, debounceMs]
  · rw [exec_inputWatchEnd _ _ ⟨watchEnd_both due.1 hook, due.2⟩]
    simp [Cpi.endWatch, due.1, hook]
  · rw [exec_inputWatchEnd _ _ ⟨watchEnd_button due.1 (le_max_right ..) later, due.2⟩,
      endWatch_button due.1 (le_max_right ..) later]
  · rw [exec_inputWatchEnd _ _ ⟨watchEnd_hook due.1 (le_max_right ..) later, due.2⟩,
      endWatch_hook due.1 (le_max_right ..) later]
  · simp [exec, execButtonTimerExpiry, expire_due _ due, state]

/-- Settles O28: each cadence by the phase that ends. -/
theorem cadencesAlternateTheirPhases : Obligations.CadencesAlternateTheirPhases := by
  unfold Obligations.CadencesAlternateTheirPhases
  refine ⟨fun s at_ driven due h => ?_, fun s at_ due h => ?_, fun s at_ burst due h => ?_, fun s at_ due h => ?_⟩
  · cases driven <;> simp [exec, execBellCadence, expire_due _ due, h, bellOnMs, bellOffMs]
  · obtain h | h := h <;> simp [exec, execLampCadence, expire_due _ due, h, lampSlowMs, lampFastMs]
  · cases burst <;> simp [exec, execToneCadence, expire_due _ due, h, toneOnMs, toneOffMs]
  · simp [exec, execFastFlashTimerExpiry, expire_due _ due, Cpi.setLamp, h]

end Sys2Proof.Machine
end

section
/-! The timers of the tables (R29, R44, R54, R57, R138) and the checks of a CREQ (R91). -/

namespace Sys2Proof.Machine

/-! ### One entry of a sound table -/

/-- In a list whose keys do not repeat, an entry is the first of its key. -/
theorem find_key_of_mem {α : Type} (key : α → Nat) {l : List α} (distinct : (l.map key).Nodup) {x : α} (hx : x ∈ l) :
    (l.find? fun y => key y == key x) = some x := by
  induction l with
  | nil => cases hx
  | cons y ys ih =>
    obtain ⟨fresh, distinct⟩ := List.nodup_cons.1 distinct
    obtain rfl | hx := List.mem_cons.1 hx
    · exact List.find?_cons_of_pos (by simp)
    · have ne : ¬ (fun y => key y == key x) y = true := fun e => fresh (by simpa [beq_iff_eq.1 e] using ⟨x, hx, rfl⟩)
      exact (List.find?_cons_of_neg (p := fun y => key y == key x) ne).trans (ih distinct hx)

theorem tableSound.find {es : List NetEntry} (h : tableSound es) {e : NetEntry} (he : e ∈ es) :
    findEntry es e.code = some e :=
  find_key_of_mem NetEntry.code h.2.1 he

theorem State.NeighboursSound.find {s : State} (h : s.NeighboursSound) {n : NeighbourEntry} (hn : n ∈ s.nbt) :
    (s.nbt.find? fun m => m.addr == n.addr) = some n :=
  find_key_of_mem NeighbourEntry.addr h.2.1 hn

/-- Two neighbours of one address are one entry. -/
theorem State.NeighboursSound.unique {s : State} (h : s.NeighboursSound) {m n : NeighbourEntry} (hm : m ∈ s.nbt)
    (hn : n ∈ s.nbt) (addr : m.addr = n.addr) : m = n :=
  Option.some.inj ((h.find hm).symm.trans (addr ▸ h.find hn))

/-! ### Commands of the tables -/

/-- R44: a network entry's decay is an event of its table. -/
theorem exec_decay_network {s : State} {sl : Slot} {at_ : Nat} {e : NetEntry} (sound : tableSound (s.table sl))
    (he : e ∈ s.table sl) (due : s.Due e.quality.decay at_) :
    exec (.qualityDecayExpiry (.network sl e.code)) s = .next ((s.advanceTo at_).tableEvent sl
      (updateEntry e.code fun d => { d with quality := d.quality.decayed (max s.clock.now at_) })) := by
  have timer : s.decayTimer (.network sl e.code) = e.quality.decay := by simp [State.decayTimer, sound.find he]
  simp [exec, execQualityDecayExpiry, timer, expire_due _ due]

theorem exec_decay_neighbour {s : State} {at_ : Nat} {n : NeighbourEntry} (sound : s.NeighboursSound)
    (hn : n ∈ s.nbt) (due : s.Due n.quality.decay at_) :
    exec (.qualityDecayExpiry (.neighbour n.addr)) s = .next ((s.advanceTo at_).withNbt
      (updateNeighbour n.addr (fun m => { m with quality := m.quality.decayed (max s.clock.now at_) }) s.nbt)) := by
  have timer : s.decayTimer (.neighbour n.addr) = n.quality.decay := by simp [State.decayTimer, sound.find hn]
  simp [exec, execQualityDecayExpiry, timer, expire_due _ due]

theorem exec_networkEntryRemoval {s : State} {sl : Slot} {e : NetEntry} (sound : tableSound (s.table sl))
    (he : e ∈ s.table sl) (age : 3600 ≤ e.age) :
    exec (.networkEntryRemoval sl e.code) s = .next (s.tableEvent sl (List.filter fun d => d.code != e.code)) := by
  simp [exec, execNetworkEntryRemoval, sound.find he, removalSeconds, age]

theorem exec_barExpiry {s : State} {sl : Slot} {e : NetEntry} {u : Nat} (sound : tableSound (s.table sl))
    (he : e ∈ s.table sl) (bar : e.barredUntil = some u) (reached : u ≤ s.cfg.uptime) :
    exec (.barExpiry sl e.code) s =
      .next (s.tableEvent sl (updateEntry e.code fun d => { d with barredUntil := none })) := by
  simp [exec, execBarExpiry, sound.find he, bar, reached]

/-- Settles O33: each command by the entry it finds. -/
theorem tableAgesAndTimersAct : Obligations.TableAgesAndTimersAct := by
  unfold Obligations.TableAgesAndTimersAct
  refine ⟨⟨fun s closed => ?_, ?_, ?_, ?_, ?_⟩, ?_, ?_⟩
  · exact congrArg Host.Outcome.next (if_pos closed)
  · rintro s sl _ at_ e sound he rfl due
    exact ⟨_, exec_decay_network sound he due, by simp [tableEvent_table, updateEntry], by simp [tableEvent_other],
      by simp⟩
  · rintro s _ at_ n sound hn rfl due
    exact exec_decay_neighbour sound hn due
  · rintro s sl _ e sound he rfl age
    exact ⟨_, exec_networkEntryRemoval sound he age, by simp [tableEvent_table], by simp [tableEvent_other], by simp⟩
  · rintro s sl _ u e sound he rfl bar reached
    exact ⟨_, exec_barExpiry sound he bar reached, by simp [tableEvent_table, updateEntry], by simp [tableEvent_other],
      by simp⟩
  · rintro s _ n sound hn rfl state age
    refine congrArg (fun ns => Host.Outcome.next (s.withNbt ns)) (List.map_congr_left fun m hm => ?_)
    by_cases addr : m.addr = n.addr
    · obtain rfl := sound.unique hm hn addr
      simp [state, age]
    · simp [addr]
  · rintro s _ n sound hn rfl state age
    refine congrArg (fun ns => Host.Outcome.next (s.withNbt ns)) (List.filter_congr fun m hm => ?_)
    by_cases addr : m.addr = n.addr
    · obtain rfl := sound.unique hm hn addr
      simp [state, age]
    · simp [bne, beq_eq_false_iff_ne.2 addr]

/-! ### The checks of a CREQ (R91) -/

/-- R157: a CREQ for this box reaches the carry engine. -/
theorem exec_creq_mine {s : State} {h : Header} (callId code ms : Nat) (hears : s.Hears h) (mine : s.own = some h.dst) :
    exec (.creq h callId code ms) s = .next ((s.frameHeard ms).takeCreq h.src callId code) := by
  simp [exec, execCreq, receive_hears _ _ _ hears, frameHeard_isMine, mine]

/-- What the binding of a CREQ reads (R92, R93). -/
theorem boundSlot_congr {s t : State} (slots : t.slc = s.slc) (tables : t.nwt = s.nwt) (cfg : t.cfg = s.cfg) (code : Nat) :
    boundSlot t code = boundSlot s code := by
  simp only [boundSlot, qualifyingEntry, slot_of_slc slots, table_of_nwt tables, cfg]

/-- R91, R94: a CREQ of a record that stands is answered with its CACK. -/
theorem takeCreq_repeated {s : State} {c : CarryRec} {src callId : Nat} (box : 1 ≤ src ∧ src ≤ 62) (sound : s.QueueSound)
    (hc : c ∈ s.cye) (id : c.id = ⟨src, callId⟩) (code : Nat) :
    s.takeCreq src callId code = s.hand src (.cack callId (trunkNum c.trunk)) := by
  simp only [State.takeCreq, box, and_self, if_true, ← id, findCarry_mem sound hc]

/-- R91: the checks of a CREQ whose record does not stand, in their order. -/
theorem takeCreq_fresh {s : State} {src callId : Nat} (box : 1 ≤ src ∧ src ≤ 62)
    (fresh : ∀ c ∈ s.cye, c.id ≠ ⟨src, callId⟩) (code : Nat) :
    s.takeCreq src callId code =
      if s.cfg.record.carrying = false then s.hand src (.cnak callId .notCarrying)
      else if s.spm.supply = .critical then s.hand src (.cnak callId .supply)
      else if 3 ≤ s.cye.length then s.hand src (.cnak callId .full)
      else match boundSlot s code, s.tkm.lowestFree with
        | none, _ => s.hand src (.cnak callId .noNetwork)
        | some _, none => s.hand src (.cnak callId .noTrunk)
        | some sl, some t => s.acceptCarry ⟨src, callId⟩ code sl t := by
  have none : findCarry s.cye ⟨src, callId⟩ = none := List.find?_eq_none.2 fun c hc => by simpa using fresh c hc
  simp only [State.takeCreq, box, and_self, if_true, none, Bool.not_eq_true']
  congr 3
  cases boundSlot s code <;> cases s.tkm.lowestFree <;> rfl

/-- Settles O47: the checks in the order of `takeCreq_fresh`. -/
theorem carryRequestIsAnsweredByTheFirstCheck : Obligations.CarryRequestIsAnsweredByTheFirstCheck := by
  unfold Obligations.CarryRequestIsAnsweredByTheFirstCheck
  intro s h callId code ms hears tool u
  obtain ⟨-, -, -, slots, tables, -, -, -, -, cye, trunks, supply, cfg, -⟩ := State.frameHeard_frame s ms
  have box : 1 ≤ h.src ∧ h.src ≤ 62 := by
    have := hears.2.2.2
    omega
  refine ⟨fun mine => ?_, fun other => ?_⟩
  · rw [exec_creq_mine callId code ms hears mine]
    refine ⟨fun c hc sound id => ?_, fun fresh => ?_⟩
    · rw [takeCreq_repeated box (by rwa [State.QueueSound, cye]) (by rwa [cye]) id]
    · rw [takeCreq_fresh box (by rwa [cye]), cfg, supply, cye, trunks, boundSlot_congr slots tables cfg]
      refine ⟨fun off => by rw [if_pos off], fun on low => ?_, fun on ok full => ?_, fun on ok room none => ?_,
        fun on ok room some none => ?_⟩ <;> rw [if_neg (by simp [on])]
      · rw [if_pos low]
      · rw [if_neg ok, if_pos full]
      · rw [if_neg ok, if_neg (by omega), none]
      · obtain ⟨sl, bound⟩ := Option.ne_none_iff_exists'.1 some
        rw [if_neg ok, if_neg (by omega), bound, none]
  · simp [exec, execCreq, receive_hears _ _ _ hears, frameHeard_isMine, other, u]

end Sys2Proof.Machine
end

section
/-! Dropped frames (R154 to R156) and the service responder (R146, R185 to R188). -/

namespace Sys2Proof.Machine

/-! ### Dropped frames -/

/-- R154: a frame is damaged where its length does not fit. -/
theorem frameFate_length {seg : Nat} {own : Option Nat} {bytes : List Byte}
    (h : bytes.length < 7 ∨ ∃ n ∈ bytes[4]?, 40 < n.toNat ∨ bytes.length ≠ 7 + n.toNat) :
    frameFate seg own bytes = .damaged := by
  unfold frameFate
  split
  · rename_i g d s k n rest
    refine if_neg fun fits => ?_
    obtain short | ⟨m, hm, bad⟩ := h
    · omega
    · obtain rfl : n = m := by simpa using hm
      omega
  · rfl

theorem exec_receivedFrameDropped {s : State} (bytes : List Byte) (ms : Nat) (running : s.phase = .running) :
    exec (.receivedFrameDropped bytes ms) s =
      .next ((s.frameHeard ms).dropFrame (frameFate s.cfg.record.segment s.own bytes)) := by
  simp [exec, execReceivedFrameDropped, whenRunning_running _ running]

theorem frameHeard_errors (s : State) (ms : Nat) : (s.frameHeard ms).lnc.errors = s.lnc.errors := rfl

/-- Settles O58: by the check that the frame fails. -/
theorem droppedFramesCountOrFlag : Obligations.DroppedFramesCountOrFlag := by
  unfold Obligations.DroppedFramesCountOrFlag
  intro s bytes ms running u
  rw [exec_receivedFrameDropped bytes ms running]
  refine ⟨fun length => ?_, ?_, ?_⟩
  · rw [frameFate_length length]
    rfl
  · rintro h k p x hp hx wrong rfl
    rw [frameFate_frameBytes _ _ _ _ hp hx, if_neg wrong]
    rfl
  · rintro h k p fits hp rfl
    rw [frameFate_frameBytes _ _ _ _ hp rfl, if_pos rfl, header_mod_eq fits]
    refine ⟨fun seg => ?_, fun seg own => ?_, fun seg own unreadable => ?_⟩
    · simp [headerFate, seg, State.dropFrame, u]
    · simp [headerFate, seg, own, State.dropFrame, u]
    · simp [headerFate, seg, own, unreadable, State.dropFrame, u]

/-! ### The tool's frames -/

/-- R158: the tool's frames that this box answers. -/
theorem hearsTool_iff (s : State) (h : Header) (ms : Nat) : (s.frameHeard ms).hearsTool h = true ↔
    h.src = 63 ∧ s.own ≠ none ∧ (h.dst = 0 ∨ s.own = some h.dst) := by
  have own : (s.frameHeard ms).own = s.own := own_of_cfg (by simp)
  simp [State.hearsTool, State.isMineOrAll, State.isMine, own, toolAddress, Option.isSome_iff_ne_none]
  tauto

section
variable {s : State} {h : Header} (ms : Nat) (hears : s.Hears h)
include hears

theorem exec_sqry : exec (.sqry h ms) s =
    .next (if (s.frameHeard ms).hearsTool h then (s.frameHeard ms).handStatus false else s.frameHeard ms) :=
  congrArg Host.Outcome.next (receive_hears _ _ _ hears)

theorem exec_lqry (index : Nat) : exec (.lqry h index ms) s =
    .next (if (s.frameHeard ms).hearsTool h ∧ index ≤ 31 then
      (s.frameHeard ms).hand 63 (.lrep ((s.frameHeard ms).logReport index)) else s.frameHeard ms) :=
  congrArg Host.Outcome.next (receive_hears _ _ _ hears)

theorem exec_erst : exec (.erst h ms) s =
    .next (if (s.frameHeard ms).hearsTool h then
      (if s.ple.state ≠ .idle ∨ s.cye ≠ [] then (s.frameHeard ms).handStatus true
        else (s.frameHeard ms).engineReset.handStatus false)
      else s.frameHeard ms) := by
  simp only [exec, execErst, receive_hears _ _ _ hears, (State.frameHeard_frame s ms)]

end

/-- Settles O59: the reports are read field by field from the state as the frame is heard. -/
theorem toolQueriesAreAnsweredFromTheState : Obligations.ToolQueriesAreAnsweredFromTheState := by
  unfold Obligations.ToolQueriesAreAnsweredFromTheState
  intro s h ms index hears u heard flag
  have tool : u.hearsTool h = true ↔ heard := hearsTool_iff s h ms
  have log : u.svc = s.svc := by simp [u]
  refine ⟨fun yes => ?_, fun yes low => ⟨fun r hr => ?_, fun none => ?_⟩, fun no => ⟨?_, ?_, ?_⟩, fun high => ?_⟩
  · have address : u.own = s.own := own_of_cfg (by simp [u])
    have assigned : s.own.isNone = false := Option.isNone_eq_false_iff.2 (Option.isSome_iff_ne_none.2 yes.2.1)
    have flags : u.statusFlags false = flag (s.cfg.load == .defaulted) 2 + flag s.lnc.clash 4 := by
      simp [State.statusFlags, address, assigned, flag, u, beq_iff_eq]
      rfl
    rw [exec_sqry ms hears, if_pos (tool.2 yes), State.handStatus, State.statusReport, flags, List.countP_eq_length_filter]
    simp [toolAddress, u]
    rfl
  · rw [exec_lqry ms hears, if_pos ⟨tool.2 yes, low⟩]
    simp [State.logReport, hr, recordBytes, u]
    rfl
  · rw [exec_lqry ms hears, if_pos ⟨tool.2 yes, low⟩]
    simp [State.logReport, List.getElem?_eq_none none, u]
    rfl
  · rw [exec_sqry ms hears, if_neg (mt tool.1 no)]
  · rw [exec_lqry ms hears, if_neg (mt (fun h => tool.1 h.1) no)]
  · rw [exec_erst ms hears, if_neg (mt tool.1 no)]
  · rw [exec_lqry ms hears, if_neg (by omega)]

/-! ### The line idle time (R142, R153) -/

/-- The last byte of a list up to a moment, and not before a first one. -/
theorem foldl_last (now : Nat) (l : List Nat) (a : Nat) :
    let r := l.foldl (fun last b => if b ≤ now then max last b else last) a
    (r = a ∨ r ∈ l ∧ r ≤ now) ∧ a ≤ r ∧ ∀ x ∈ l, x ≤ now → x ≤ r := by
  induction l generalizing a with
  | nil => simp
  | cons b l ih =>
    obtain ⟨from_, above, bounds⟩ := ih (if b ≤ now then max a b else a)
    dsimp only [List.foldl_cons]
    generalize l.foldl _ _ = r at from_ above bounds
    have step : a ≤ (if b ≤ now then max a b else a) := by split <;> omega
    refine ⟨?_, step.trans above, fun x hx le => ?_⟩
    · obtain rfl | ⟨hm, le⟩ := from_
      · by_cases hb : b ≤ now
        · obtain h | h := le_total a b
          · simp [hb, h]
          · simp [hb, h]
        · simp [hb]
      · exact .inr ⟨List.mem_cons_of_mem _ hm, le⟩
    · obtain rfl | hx := List.mem_cons.1 hx
      · rw [if_pos le] at above
        omega
      · exact bounds x hx le

theorem lastByte_isLast (s : State) : s.IsLastByte s.clock.now s.lastByte := foldl_last _ _ _

/-- The last byte up to a moment is one. -/
theorem IsLastByte.unique {s : State} {at_ b c : Nat} (hb : s.IsLastByte at_ b) (hc : s.IsLastByte at_ c) : b = c := by
  obtain ⟨fromB, lowB, boundB⟩ := hb
  obtain ⟨fromC, lowC, boundC⟩ := hc
  have bc : b ≤ c := by
    obtain rfl | ⟨hm, le⟩ := fromB
    · exact lowC
    · exact boundC b hm le
  have cb : c ≤ b := by
    obtain rfl | ⟨hm, le⟩ := fromC
    · exact lowB
    · exact boundB c hm le
  exact le_antisymm bc cb

/-- R153: as a frame is heard, the line has been idle for less than 2 ms. -/
theorem frameHeard_lineIdle (s : State) (ms : Nat) : (s.frameHeard ms).lineIdle < 2 := by
  have last := (lastByte_isLast (s.frameHeard ms)).2.1
  have active : (s.frameHeard ms).lnc.lastActive = max s.lnc.lastActive ((s.frameHeard ms).clock.now - 1) := rfl
  unfold State.lineIdle
  split <;> omega

/-! ### The engine reset (R187, R188) -/

/-- R142: what the line idle time of a box that does not send reads. -/
theorem lineIdle_congr {s t : State} (active : t.lnc.lastActive = s.lnc.lastActive) (heard : t.lnc.heard = s.lnc.heard)
    (now : t.clock.now = s.clock.now) (quiet : s.lnc.tx ≠ .sending) (quiet' : t.lnc.tx ≠ .sending) :
    t.lineIdle = s.lineIdle := by
  simp only [State.lineIdle, quiet, quiet', if_false, State.lastByte, active, heard, now]

/-- R147, R148: the one frame of the queue is the next, and no turn is counted. -/
theorem enqueue_empty {f : TxFrame} (sent : f.frameClass ≠ .unsent) : enqueue [] f = [f] := by
  unfold enqueue
  cases h : f.frameClass <;> simp_all

theorem takeFrame_single {l : Lnc} {f : TxFrame} (idle : l.tx = .idle) (queue : l.queue = [f])
    (sent : f.frameClass ≠ .unsent) :
    l.takeFrame = { l with tx := .gap, inHand := some f, queue := [], collisions := 0, turn := 0 } := by
  have next : nextClass [f] l.turn = some f.frameClass := by
    cases h : f.frameClass <;> simp_all [nextClass, isClass]
  have turn : turnAfter [f] l.turn f.frameClass = 0 := by
    cases h : f.frameClass <;> simp_all [turnAfter, isClass]
  simp [Lnc.takeFrame, idle, queue, next, turn, isClass, dropFirst]

/-- R147 to R149: a frame handed to an IDLE transmitter with an empty queue. -/
theorem hand_idle_empty {s : State} {d : Nat} {b : Body} (own : s.own ≠ none) (idle : s.lnc.tx = .idle)
    (empty : s.lnc.queue = []) (sent : (⟨d, b⟩ : TxFrame).frameClass ≠ .unsent) :
    (s.hand d b).lnc = { s.lnc with
      inHand := some ⟨d, b⟩, collisions := 0, turn := 0
      tx := if 2 ≤ s.lineIdle then .sending else .gap
      lastActive := if 2 ≤ s.lineIdle then s.clock.now else s.lnc.lastActive } := by
  obtain ⟨n, own⟩ := Option.ne_none_iff_exists'.1 own
  have taken := takeFrame_single (l := { s.lnc with queue := [⟨d, b⟩] }) idle rfl sent
  rw [hand_lnc, own, empty, enqueue_empty sent]
  dsimp only
  rw [if_pos idle, taken, State.sendIfQuiet_lnc]
  have quiet (l : Lnc) (hl : l.lastActive = s.lnc.lastActive ∧ l.heard = s.lnc.heard ∧ l.tx = .gap) :
      (s.withLnc l).lineIdle = s.lineIdle :=
    lineIdle_congr hl.1 hl.2.1 rfl (by simp [idle]) (by simp [hl.2.2])
  rw [quiet]
  · by_cases h : 2 ≤ s.lineIdle <;> simp [h, empty]
  · exact ⟨rfl, rfl, rfl⟩

/-- R147: a frame handed to a busy transmitter with an empty queue. -/
theorem hand_busy_empty {s : State} {d : Nat} {b : Body} (own : s.own ≠ none) (busy : s.lnc.tx ≠ .idle)
    (empty : s.lnc.queue = []) (sent : (⟨d, b⟩ : TxFrame).frameClass ≠ .unsent) :
    (s.hand d b).lnc = { s.lnc with queue := [⟨d, b⟩] } := by
  obtain ⟨n, own⟩ := Option.ne_none_iff_exists'.1 own
  rw [hand_lnc, own, empty, enqueue_empty sent]
  exact if_neg busy

/-! ### The engine reset (R187, R188) -/

/-- What an SREP reads of the state. -/
theorem statusReport_congr {s t : State} (cfg : t.cfg = s.cfg) (spm : t.spm = s.spm) (slc : t.slc = s.slc)
    (ple : t.ple = s.ple) (cye : t.cye = s.cye) (tkm : t.tkm = s.tkm) (nbt : t.nbt = s.nbt) (svc : t.svc = s.svc)
    (errors : t.lnc.errors = s.lnc.errors) (clash : t.lnc.clash = s.lnc.clash) (refused : Bool) :
    t.statusReport refused = s.statusReport refused := by
  simp only [State.statusReport, State.statusFlags, own_of_cfg cfg, cfg, spm, slc, ple, cye, tkm, nbt, svc, errors, clash]

@[simp] theorem engineReset_slot (s : State) (sl : Slot) :
    s.engineReset.slot sl = (s.slot sl).engineReset s.clock.now := by cases sl <;> rfl

theorem engineReset_absent {r : SlotRec} (absent : r.state = .absent) (now : Nat) : r.engineReset now = r := if_pos absent

theorem engineReset_present {r : SlotRec} (present : r.state ≠ .absent) (now : Nat) :
    (r.engineReset now).state = .off ∧ (r.engineReset now).power = false ∧ (r.engineReset now).faultTimes = [] ∧
    (r.engineReset now).restartTimer = some (now + 2000) ∧ (r.engineReset now).scanTimer = none ∧
    (r.engineReset now).idleTimer = none ∧ (r.engineReset now).heartbeat = none := by
  rw [SlotRec.engineReset, if_neg present]
  exact ⟨rfl, rfl, rfl, rfl, rfl, rfl, rfl⟩

/-- R165, R188: after the reset a slot is out where it is ABSENT. -/
theorem isOut_engineReset (r : SlotRec) (now : Nat) : isOut (r.engineReset now).state = (r.state == .absent) := by
  by_cases h : r.state = .absent
  · rw [engineReset_absent h, h]
    rfl
  · rw [(engineReset_present h now).1, beq_eq_false_iff_ne.2 h]
    rfl

theorem engineReset_lamp (c : Cpi) (now : Nat) :
    (c.engineReset now).button = c.button ∧ (c.engineReset now).hook = c.hook ∧ (c.engineReset now).bell = .silent ∧
    (c.engineReset now).lamp = .off ∧ (c.engineReset now).fastFlash = none := by
  unfold Cpi.engineReset Cpi.setLamp Cpi.stopBell
  split <;> simp_all

/-- R142, R187: the report of a reset waits on the line: a transmitter that was not sending takes it, and one that was
keeps its frame, marked. -/
theorem handStatus_engineReset {u : State} (own : u.own ≠ none) (active : u.lineIdle < 2) (refused : Bool) :
    (u.engineReset.handStatus refused).lnc.errors = u.lnc.errors ∧
    (u.engineReset.handStatus refused).lnc.clash = u.lnc.clash ∧
    (u.engineReset.handStatus refused).lnc.rng = u.lnc.rng ∧
    (u.lnc.tx ≠ .sending → (u.engineReset.handStatus refused).lnc.inHand =
        some ⟨63, .srep (u.engineReset.statusReport refused)⟩ ∧
      (u.engineReset.handStatus refused).lnc.queue = [] ∧ (u.engineReset.handStatus refused).lnc.tx = .gap) ∧
    (u.lnc.tx = .sending → (u.engineReset.handStatus refused).lnc.inHand = u.lnc.inHand ∧
      (u.engineReset.handStatus refused).lnc.dropAfter = true ∧
      (u.engineReset.handStatus refused).lnc.queue = [⟨63, .srep (u.engineReset.statusReport refused)⟩]) := by
  have lnc : u.engineReset.lnc = u.lnc.engineReset := rfl
  have assigned : u.engineReset.own ≠ none := own
  unfold State.handStatus toolAddress
  by_cases h : u.lnc.tx = .sending
  · rw [hand_busy_empty assigned (by simp [lnc, Lnc.engineReset, h]) rfl (by simp [TxFrame.frameClass, bodyClass]), lnc]
    simp [Lnc.engineReset, h]
  · have idle : u.engineReset.lineIdle = u.lineIdle :=
      lineIdle_congr rfl rfl rfl h (by simp [lnc, Lnc.engineReset, h])
    rw [hand_idle_empty assigned (by simp [lnc, Lnc.engineReset, h]) rfl (by simp [TxFrame.frameClass, bodyClass]), lnc,
      idle, if_neg (by omega)]
    simp [Lnc.engineReset, h]

/-- Settles O60: refused where a call or a carry stands, and else the state after the reset, field by field. -/
theorem engineResetIsRefusedOrPerformed : Obligations.EngineResetIsRefusedOrPerformed := by
  unfold Obligations.EngineResetIsRefusedOrPerformed
  intro s h ms hears tool own mine u
  have heard : u.hearsTool h = true := (hearsTool_iff s h ms).2 ⟨tool, own, mine⟩
  have address : u.own = s.own := own_of_cfg (by simp [u])
  have assigned : u.own ≠ none := by rwa [address]
  have slots : u.slc = s.slc := by simp [u]
  have inputs : u.cpi = s.cpi := by simp [u]
  rw [exec_erst ms hears, if_pos heard]
  refine ⟨fun busy => by rw [if_pos busy]; rfl, fun idle none => ?_⟩
  rw [if_neg (by simp [idle, none])]
  obtain ⟨errors, clash, rng, quiet, sending⟩ := handStatus_engineReset assigned (frameHeard_lineIdle s ms) false
  obtain ⟨button, hook, bell, lamp, flash⟩ := engineReset_lamp u.cpi u.clock.now
  obtain ⟨-, -, cpi, xpt, slc, nwt, nbt, adv, rsl, ple, cye, tkm, spm, cfg, svc, -⟩ :=
    State.hand_frame u.engineReset 63 (.srep (u.engineReset.statusReport false))
  have done : u.engineReset.handStatus false = u.engineReset.hand 63 (.srep (u.engineReset.statusReport false)) := rfl
  rw [← done] at cpi xpt slc nwt nbt adv rsl ple cye tkm spm cfg svc
  have report : (u.engineReset.handStatus false).statusReport false = u.engineReset.statusReport false :=
    statusReport_congr cfg spm slc ple cye tkm nbt svc errors clash false
  have slot (sl : Slot) : (u.engineReset.handStatus false).slot sl = (s.slot sl).engineReset u.clock.now := by
    rw [slot_of_slc slc, engineReset_slot, slot_of_slc slots]
  have start : u.engineReset.adv = { State.reset.adv with seq := s.adv.seq, timer := .startWait (u.clock.now + 45000) } := by
    have isSome : u.own.isSome = true := Option.isSome_iff_ne_none.2 assigned
    simp only [State.engineReset, isSome, if_true]
    rfl
  have out : u.engineReset.cpi.outLamp = (s.slc.a.state == .absent && s.slc.b.state == .absent) := by
    rw [← isOut_engineReset s.slc.a u.clock.now, ← isOut_engineReset s.slc.b u.clock.now]
    rfl
  refine ⟨u.engineReset.handStatus false, rfl, ple, cye, rsl, nwt, nbt, tkm, xpt, spm, cfg, svc, adv.trans start,
    fun sl present => ?_, fun sl absent => ?_, ?_⟩
  · rw [slot]
    exact engineReset_present present _
  · rw [slot, engineReset_absent absent]
  · rw [report, cpi]
    exact ⟨button, hook, bell, lamp, flash, out, errors, clash, rng, quiet, sending⟩

end Sys2Proof.Machine
end

section
/-! The transmitter: the wait for quiet, sending, and the backoff after a collision (R149 to R151). -/

namespace Sys2Proof.Machine

/-! ### The bytes after which quiet follows (R149) -/

theorem isQuietAfter_iff {l : Lnc} {b : Nat} : l.isQuietAfter b = true ↔ ∀ x ∈ l.heard, x ≤ b ∨ b + 2 < x := by
  simp only [Lnc.isQuietAfter, List.all_eq_true, Bool.or_eq_true, decide_eq_true_eq]
  rfl

/-- R149: the bytes looked at are the last one and those to come; quiet follows the ones that GAP waits for. -/
theorem quietFollows_iff {s : State} {b : Nat} : s.QuietFollows b ↔
    b ∈ (s.lastByte :: s.lnc.heard.filter (s.lastByte ≤ ·)).filter s.lnc.isQuietAfter := by
  obtain ⟨from_, low, bound⟩ := lastByte_isLast s
  simp only [State.QuietFollows, List.mem_filter, isQuietAfter_iff, List.mem_cons, decide_eq_true_eq]
  refine ⟨fun ⟨mem, above, last, quiet⟩ => ⟨?_, quiet⟩, fun ⟨mem, quiet⟩ => ?_⟩
  · obtain rfl | mem := mem
    · refine .inl ?_
      obtain e | ⟨mem, le⟩ := from_
      · exact e.symm
      · exact le_antisymm low (last _ mem le)
    · refine .inr ⟨mem, ?_⟩
      obtain e | ⟨mem', le⟩ := from_
      · omega
      · exact last _ mem' le
  · obtain rfl | ⟨mem, above⟩ := mem
    · exact ⟨from_.imp_right And.left, low, bound, quiet⟩
    · exact ⟨.inr mem, low.trans above, fun x hx le => (bound x hx le).trans above, quiet⟩

/-- R149: GAP ends 2 ms after the first byte that quiet follows. -/
theorem gapEnd_eq {s : State} (gap : s.lnc.tx = .gap) {b : Nat} (quiet : s.QuietFollows b)
    (first : ∀ y, s.QuietFollows y → b ≤ y) : s.gapEnd = some (b + 2) := by
  have least : ((s.lastByte :: s.lnc.heard.filter (s.lastByte ≤ ·)).filter s.lnc.isQuietAfter).min? = some b :=
    List.min?_eq_some_iff.2 ⟨quietFollows_iff.1 quiet, fun y hy => first y (quietFollows_iff.2 hy)⟩
  rw [State.gapEnd, if_pos gap, least]
  rfl

theorem gapEnd_some {s : State} {at_ : Nat} (h : s.gapEnd = some at_) : ∃ b, s.QuietFollows b ∧ at_ = b + 2 := by
  rw [State.gapEnd, if_pos (gapEnd_gap h)] at h
  obtain ⟨b, least, rfl⟩ := Option.map_eq_some_iff.1 h
  exact ⟨b, quietFollows_iff.2 (List.min?_mem least), rfl⟩

/-! ### Sending and backing off (R149 to R151) -/

/-- R149: a frame sent whole. -/
theorem exec_frameSent {s : State} {f : TxFrame} (ms : Nat) (running : s.phase = .running) (sending : s.lnc.tx = .sending)
    (inHand : s.lnc.inHand = some f) :
    exec (.frameSent ms) s = .next ((s.arrive ms).withLnc (Lnc.takeFrame { s.lnc with
      tx := .idle, inHand := none, collisions := 0, dropAfter := false, lastActive := (s.arrive ms).clock.now,
      sent := s.lnc.sent ++ [encodeFrame { seg := s.cfg.record.segment, dst := f.dst, src := s.ownNum } f.body] })) := by
  have trace : (s.arrive ms).lineActive.traceSent = (s.arrive ms).withLnc { s.lnc with
      inHand := some f, lastActive := (s.arrive ms).clock.now, sent := s.lnc.sent ++ [s.lineBytes f] } := by
    have hand : (s.arrive ms).lineActive.lnc.inHand = some f := inHand
    simp only [State.traceSent, hand]
    rfl
  refine congrArg Host.Outcome.next ((whenRunning_running _ running).trans ?_)
  refine (if_pos sending).trans ?_
  rw [trace]
  rfl

/-- R150, R151: a collision in SENDING drops the frame or backs off. -/
theorem exec_collision {s : State} (ms : Nat) (running : s.phase = .running) (sending : s.lnc.tx = .sending) :
    exec (.collision ms) s = .next (if s.lnc.dropAfter ∨ 7 ≤ s.lnc.collisions then
      (s.arrive ms).lineActive.withLnc (s.arrive ms).lineActive.lnc.finishFrame else (s.arrive ms).lineActive.backOff) := by
  refine congrArg Host.Outcome.next ((whenRunning_running _ running).trans ?_)
  exact if_pos sending

theorem exec_backoffTimerExpiry {s : State} {at_ : Nat} (due : s.Due s.lnc.backoff at_) :
    exec .backoffTimerExpiry s =
      .next ((s.advanceTo at_).withLnc { s.lnc with tx := .gap, backoff := none }).sendIfQuiet :=
  congrArg Host.Outcome.next (expire_due _ due)

/-- R149: a transmitter that enters GAP, by the last byte on the line. -/
theorem sendIfQuiet_gap {s : State} {b : Nat} (gap : s.lnc.tx = .gap) (last : s.IsLastByte s.clock.now b) :
    s.sendIfQuiet = s.withLnc { s.lnc with
      tx := if b + 2 ≤ s.clock.now then .sending else .gap
      lastActive := if b + 2 ≤ s.clock.now then s.clock.now else s.lnc.lastActive } := by
  have idle : s.lineIdle = s.clock.now - b := by
    rw [State.lineIdle, if_neg (by simp [gap]), IsLastByte.unique (lastByte_isLast s) last]
  unfold State.sendIfQuiet lineGapMs
  rw [idle]
  by_cases h : b + 2 ≤ s.clock.now
  · rw [if_pos ⟨gap, by omega⟩, if_pos h, if_pos h]
    rfl
  · rw [if_neg (by omega), if_neg h, if_neg h, ← gap]
    rfl

/-- Settles O57: each command of the transmitter by its state. -/
theorem transmitterSendsAndBacksOff : Obligations.TransmitterSendsAndBacksOff := by
  unfold Obligations.TransmitterSendsAndBacksOff
  refine ⟨fun s b last => ?_, fun s b gap quiet first due => ?_, fun s undue => ?_,
    fun s d f own idle empty sent => hand_idle_empty own idle empty sent, fun s ms f running sending inHand => ?_,
    fun s ms running sending kept few => ?_, fun s ms running sending dropped => ?_, ?_⟩
  · rw [State.lineIdle, IsLastByte.unique (lastByte_isLast s) last]
  · have ends := expire_due State.beginSending ⟨gapEnd_eq gap quiet first, due⟩
    exact (congrArg Host.Outcome.next ends).trans rfl
  · refine congrArg Host.Outcome.next ?_
    cases h : s.gapEnd with
    | none => rfl
    | some at_ =>
      obtain ⟨b, quiet, rfl⟩ := gapEnd_some h
      have late := (undue.resolve_left fun e => e (gapEnd_gap h)) b quiet
      exact if_neg (by simp [State.isDue]; omega)
  · exact ⟨_, exec_frameSent ms running sending inHand, rfl, by simp⟩
  · rw [exec_collision ms running sending, if_neg (not_or.2 ⟨by simp [kept], by omega⟩)]
    rfl
  · rw [exec_collision ms running sending, if_pos (dropped.symm.imp_right Eq.ge)]
    rfl
  · intro s at_ due now b last
    rw [exec_backoffTimerExpiry due, sendIfQuiet_gap rfl (b := b) last]
    rfl

end Sys2Proof.Machine
end

section
/-! A REACH at the neighbour table (R135 to R137). -/

namespace Sys2Proof.Machine

/-! ### The payload (R135) -/

theorem readItems_length {n : Nat} {bytes : List Byte} (h : readItems n bytes ≠ none) : bytes.length = 6 * n := by
  induction n, bytes using readItems.induct with
  | case1 => rfl
  | case2 n x y z t l q rest ih =>
    have := ih (by simpa [readItems] using h)
    simp only [List.length_cons]
    omega
  | case3 => simp_all [readItems]

/-- R135: a payload whose item count is above 4, or does not agree with its length, is not read. -/
theorem readReach_badShape {payload : List Byte}
    (bad : payload.length < 4 ∨ ∃ n ∈ payload[3]?, 4 < n.toNat ∨ payload.length ≠ 4 + 6 * n.toNat) :
    readReach payload = none := by
  unfold readReach
  split
  · rename_i x c f n rest
    have bad : 4 < n.toNat ∨ rest.length ≠ 6 * n.toNat := by
      obtain short | ⟨m, hm, bad⟩ := bad
      · simp only [List.length_cons] at short
        omega
      · obtain rfl : n = m := by simpa using hm
        simp only [List.length_cons] at bad
        omega
    split
    · rw [Option.map_eq_none_iff]
      by_contra read
      have := readItems_length read
      omega
    · rfl
  · rfl

/-- R135: the values that a payload of a good shape gives, with the local-call flag as it stands or not. -/
theorem readReach_madeGood (seq capacity flags : Byte) {items : List RawItem} (few : items.length ≤ 4)
    (codes : ∀ i ∈ items, i.code < 16777216) :
    ∃ r, readReach (seq :: capacity :: flags :: byteOf items.length :: items.flatMap RawItem.bytes) = some r ∧ r.Fits ∧
      { r with localCall := false } =
        { seq := seq.toNat
          capacity := min 3 capacity.toNat
          supply := if flags.toNat % 4 = 0 then .ok else if flags.toNat % 4 = 1 then .low else .critical
          localCall := false
          items := (items.filter fun i => decide (10000 ≤ i.code ∧ i.code ≤ 999999)).map fun i =>
            { code := i.code
              radio := radioOfCode i.radio.toNat
              level := min 31 i.level.toNat
              q := min 15 i.q.toNat } } := by
  have read := readReach_bytes seq capacity flags few codes
  refine ⟨_, read, readReach_fits read, ?_⟩
  have network (i : RawItem) : isNetworkCode i.code = decide (10000 ≤ i.code ∧ i.code ≤ 999999) := by
    rw [isNetworkCode, Bool.decide_and]
  have supply (n : Nat) : supplyOfFlag n = if n = 0 then .ok else if n = 1 then .low else .critical := by
    unfold supplyOfFlag
    split <;> simp_all
  have good : RawItem.good = fun i =>
      { code := i.code
        radio := radioOfCode i.radio.toNat
        level := min 31 i.level.toNat
        q := min 15 i.q.toNat } := by
    funext i
    simp [RawItem.good, min_comm]
  simp only [network, supply, good, min_comm capacity.toNat]

/-! ### The table after a REACH (R136, R137) -/

/-- The action a source's entry takes from the peer filters (R141, R159). -/
def peerAction (action : Option FilterAction) : PeerAction := if action = some .prefer then .prefer else .normal

/-- R135: a frame of another box that the filters do not ignore reaches the table, if it can be read. -/
theorem takeReachFrame_eq {s : State} {src : Nat} {payload : List Byte} {r : ReachAdvert} (box : 1 ≤ src ∧ src ≤ 62)
    (taken : filterAction s.cfg.record.filters src ≠ some .ignore) (read : readReach payload = some r) :
    s.takeReachFrame src payload =
      s.withNbt (neighboursAfter s.nbt src (peerAction (filterAction s.cfg.record.filters src)) r) := by
  unfold State.takeReachFrame peerAction
  rw [if_pos box]
  cases h : filterAction s.cfg.record.filters src with
  | none => simp [read]
  | some a => cases a <;> simp_all

theorem takeReachFrame_ignored {s : State} {src : Nat} (payload : List Byte)
    (ignored : ¬ (1 ≤ src ∧ src ≤ 62) ∨ filterAction s.cfg.record.filters src = some .ignore) :
    s.takeReachFrame src payload = s := by
  unfold State.takeReachFrame
  split <;> simp_all

theorem takeReachFrame_unread {s : State} {payload : List Byte} (src : Nat) (unread : readReach payload = none) :
    s.takeReachFrame src payload = s := by
  unfold State.takeReachFrame
  split
  · split <;> simp [unread]
  · rfl

/-- R135: the local-call flag of a REACH is not kept. -/
theorem takeReachFrame_localCall {s : State} {payload payload' : List Byte} {r r' : ReachAdvert} (src : Nat)
    (read : readReach payload = some r) (read' : readReach payload' = some r')
    (same : { r with localCall := false } = { r' with localCall := false }) :
    s.takeReachFrame src payload = s.takeReachFrame src payload' := by
  have after (a : PeerAction) : neighboursAfter s.nbt src a r = neighboursAfter s.nbt src a r' :=
    by
    obtain ⟨q, c, u, l, is⟩ := r
    obtain ⟨q', c', u', l', is'⟩ := r'
    cases same
    rfl
  by_cases taken : (1 ≤ src ∧ src ≤ 62) ∧ filterAction s.cfg.record.filters src ≠ some .ignore
  · rw [takeReachFrame_eq taken.1 taken.2 read, takeReachFrame_eq taken.1 taken.2 read', after]
  · have ignored : ¬ (1 ≤ src ∧ src ≤ 62) ∨ filterAction s.cfg.record.filters src = some .ignore := by tauto
    rw [takeReachFrame_ignored _ ignored, takeReachFrame_ignored _ ignored]

theorem neighboursAfter_known {ns : List NeighbourEntry} {src : Nat} (known : ∃ n ∈ ns, n.addr = src) (a : PeerAction)
    (r : ReachAdvert) : neighboursAfter ns src a r = updateNeighbour src (takeReach r) ns :=
  if_pos (by simpa using known)

theorem neighboursAfter_room {ns : List NeighbourEntry} {src : Nat} (new : ∀ n ∈ ns, n.addr ≠ src)
    (room : ns.length < 16) (a : PeerAction) (r : ReachAdvert) :
    neighboursAfter ns src a r = ns ++ [neighbourOf src a r] := by
  unfold neighboursAfter
  rw [if_neg (by simpa using new), if_pos room]

theorem neighboursAfter_full {ns : List NeighbourEntry} {src : Nat} (new : ∀ n ∈ ns, n.addr ≠ src)
    (full : 16 ≤ ns.length) (a : PeerAction) (r : ReachAdvert) :
    neighboursAfter ns src a r = match replacedNeighbour ns with
      | some d => ns.filter (fun n => n.addr != d.addr) ++ [neighbourOf src a r]
      | none => ns :=
  (if_neg (by simpa using new)).trans (if_neg (by omega))

theorem oldestIn_eq_none {st : NeighbourState} {ns : List NeighbourEntry} (h : oldestIn st ns = none) :
    ∀ n ∈ ns, n.state ≠ st := by
  induction ns with
  | nil => simp
  | cons n ns ih =>
    rw [oldestIn] at h
    split at h <;> rename_i rest <;> split at h <;> rename_i hn <;> cases h
    exact List.forall_mem_cons.2 ⟨hn, ih rest⟩

/-- R136: the entry found is the oldest of its state, of the lower address at equal ages. -/
theorem oldestIn_oldest {st : NeighbourState} {ns : List NeighbourEntry} {d : NeighbourEntry}
    (h : oldestIn st ns = some d) : ∀ n ∈ ns, n.state = st → n.age < d.age ∨ n.age = d.age ∧ d.addr ≤ n.addr := by
  induction ns generalizing d with
  | nil => simp
  | cons n ns ih =>
    rw [oldestIn] at h
    refine List.forall_mem_cons.2 ?_
    split at h <;> rename_i rest <;> split at h <;> rename_i hn <;> cases h
    · refine ⟨fun _ => .inr ⟨rfl, le_rfl⟩, fun m hm state => ?_⟩
      have := ih rest m hm state
      omega
    · refine ⟨fun state => ?_, fun m hm state => ih rest m hm state⟩
      have : ¬ (_ ∨ _) := fun h => hn ⟨state, h⟩
      omega
    · exact ⟨fun _ => .inr ⟨rfl, le_rfl⟩, fun m hm state => absurd state (oldestIn_eq_none rest m hm)⟩

/-- R136: of two entries of one state, each no younger than the other, the addresses are one. -/
theorem oldestIn_addr {st : NeighbourState} {ns : List NeighbourEntry} {d : NeighbourEntry} (hd : d ∈ ns)
    (state : d.state = st)
    (oldest : ∀ n ∈ ns, n.state = d.state → n.addr ≠ d.addr → n.age < d.age ∨ n.age = d.age ∧ d.addr < n.addr) :
    ∃ e, oldestIn st ns = some e ∧ e.addr = d.addr := by
  cases h : oldestIn st ns with
  | none => exact absurd state (oldestIn_eq_none h d hd)
  | some e =>
    obtain ⟨he, es⟩ := oldestIn_mem h
    refine ⟨e, rfl, by_contra fun ne => ?_⟩
    have first := oldestIn_oldest h d hd state
    have second := oldest e he (es.trans state.symm) ne
    omega

/-- R136: the entry that gives its place up: the oldest STALE one, else the oldest NEW one. -/
theorem replacedNeighbour_addr {ns : List NeighbourEntry} {d : NeighbourEntry} (hd : d ∈ ns)
    (state : d.state = .stale ∨ d.state = .fresh ∧ ∀ n ∈ ns, n.state ≠ .stale)
    (oldest : ∀ n ∈ ns, n.state = d.state → n.addr ≠ d.addr → n.age < d.age ∨ n.age = d.age ∧ d.addr < n.addr) :
    ∃ e, replacedNeighbour ns = some e ∧ e.addr = d.addr := by
  unfold replacedNeighbour
  obtain stale | ⟨fresh, none⟩ := state
  · obtain ⟨e, he, addr⟩ := oldestIn_addr hd stale oldest
    exact ⟨e, by rw [he], addr⟩
  · have stale : oldestIn .stale ns = .none := by
      cases h : oldestIn .stale ns with
      | none => rfl
      | some e => exact absurd (oldestIn_mem h).2 (none e (oldestIn_mem h).1)
    obtain ⟨e, he, addr⟩ := oldestIn_addr hd fresh oldest
    exact ⟨e, by rw [stale, he], addr⟩

theorem replacedNeighbour_usable {ns : List NeighbourEntry} (usable : ∀ n ∈ ns, n.state = .usable) :
    replacedNeighbour ns = none := by
  cases h : replacedNeighbour ns with
  | none => rfl
  | some d =>
    have state : d.state = .stale ∨ d.state = .fresh := by
      unfold replacedNeighbour at h
      split at h <;> rename_i found
      · cases h
        exact .inl (oldestIn_mem found).2
      · exact .inr (oldestIn_mem h).2
    have := usable d (replacedNeighbour_mem h)
    simp_all

/-- R157: a REACH heard reaches the table where it is for this box or for all. -/
theorem exec_reach {s : State} {h : Header} (payload : List Byte) (ms : Nat) (hears : s.Hears h) :
    exec (.reach h payload ms) s = .next (if h.dst = 0 ∨ s.own = some h.dst then
      (s.frameHeard ms).takeReachFrame h.src payload else s.frameHeard ms) := by
  refine congrArg Host.Outcome.next ((receive_hears _ _ _ hears).trans (if_congr ?_ rfl rfl))
  rw [State.isMineOrAll, frameHeard_isMine, Bool.or_eq_true, beq_iff_eq, beq_iff_eq, or_comm]

/-- Settles O55: shape, values and table in turn. -/
theorem reachMakesAndUpdatesItsNeighbour : Obligations.ReachMakesAndUpdatesItsNeighbour := by
  unfold Obligations.ReachMakesAndUpdatesItsNeighbour
  refine ⟨fun s h payload ms hears bad => ?_, fun s h seq capacity flags items ms hears few codes => ?_,
    fun s h r ms hears mine fits => ?_⟩
  · rw [exec_reach _ _ hears, takeReachFrame_unread _ (readReach_badShape bad), ite_self]
  · obtain ⟨r, read, fits, same⟩ := readReach_madeGood seq capacity flags few codes
    have kept : ({ r with localCall := false } : ReachAdvert).Fits := fits
    rw [same] at kept
    rw [exec_reach _ _ hears, takeReachFrame_localCall h.src read (readReach_reachPayload kept) same, ← exec_reach _ _ hears]
    rfl
  · intro u action
    have nbt : u.nbt = s.nbt := by simp [u]
    have filters : u.cfg.record.filters = s.cfg.record.filters := by simp [u]
    have taken (box : h.src ≠ 63) (kept : action ≠ some .ignore) : exec (.reach h (reachPayload r) ms) s =
        .next (u.withNbt (neighboursAfter s.nbt h.src (peerAction action) r)) := by
      have source : 1 ≤ h.src ∧ h.src ≤ 62 := by
        have := hears.2.2.2
        omega
      rw [exec_reach _ _ hears, if_pos mine, takeReachFrame_eq source (by rwa [filters]) (readReach_reachPayload fits), nbt,
        filters]
    refine ⟨fun ignored => ?_, fun box kept new room => ?_, fun box kept new full => ⟨fun d hd state oldest => ?_,
      fun usable => ?_⟩, fun box kept known => ?_⟩
    · rw [exec_reach _ _ hears, if_pos mine, takeReachFrame_ignored]
      refine ignored.imp (fun tool => by omega) fun ignored => by rwa [filters]
    · rw [taken box kept, neighboursAfter_room new room]
      rfl
    · obtain ⟨e, replaced, addr⟩ := replacedNeighbour_addr hd state oldest
      rw [taken box kept, neighboursAfter_full new full, replaced, ← addr]
      rfl
    · rw [taken box kept, neighboursAfter_full new full, replacedNeighbour_usable usable, ← nbt]
      rfl
    · rw [taken box kept, neighboursAfter_known known]
      refine congrArg (fun ns => Host.Outcome.next (u.withNbt ns)) (List.map_congr_left fun n hn => ?_)
      split
      · cases h : n.state <;> simp [takeReach, stateAfterReach, h]
      · rfl

end Sys2Proof.Machine
end

section
/-! The items and the capacity of a REACH (R111, R130), and the build of one (R129 to R133). -/

namespace Sys2Proof.Machine

/-! ### Lists put in order by insertion -/

section Insertion

variable {α : Type} {r : α → α → Prop} [DecidableRel r]

/-- An element goes into an ordered list with no element of which it ties. -/
theorem orderedInsert_pairwise (trans : ∀ a b c, r a b → r b c → r a c) {a : α} {l : List α} (ordered : l.Pairwise r)
    (apart : ∀ b ∈ l, r a b ∨ r b a) : (l.orderedInsert r a).Pairwise r := by
  induction l with
  | nil => simp
  | cons b l ih =>
    obtain ⟨first, rest⟩ := List.pairwise_cons.1 ordered
    rw [List.orderedInsert_cons]
    split <;> rename_i hab
    · exact List.pairwise_cons.2 ⟨List.forall_mem_cons.2 ⟨hab, fun c hc => trans a b c hab (first c hc)⟩, ordered⟩
    · refine List.pairwise_cons.2 ⟨fun c hc => ?_, ih rest fun c hc => apart c (List.mem_cons_of_mem _ hc)⟩
      obtain rfl | hc := (List.mem_orderedInsert r).1 hc
      · exact (apart b (List.mem_cons_self ..)).resolve_left hab
      · exact first c hc

/-- A list with no ties is put in order. -/
theorem insertionSort_pairwise (trans : ∀ a b c, r a b → r b c → r a c) {l : List α}
    (apart : l.Pairwise fun a b => r a b ∨ r b a) : (l.insertionSort r).Pairwise r := by
  induction l with
  | nil => simp
  | cons a l ih =>
    obtain ⟨first, rest⟩ := List.pairwise_cons.1 apart
    exact orderedInsert_pairwise trans (ih rest) fun b hb => first b ((List.mem_insertionSort r).1 hb)

end Insertion

/-- An element of an ordered list is among its first `n`, or every one of these stands before it. -/
theorem mem_take_or_before {α : Type} {r : α → α → Prop} {l : List α} (ordered : l.Pairwise r) {n : Nat} {x : α}
    (hx : x ∈ l) : x ∈ l.take n ∨ (l.take n).length = n ∧ ∀ y ∈ l.take n, r y x := by
  rw [← List.take_append_drop n l, List.pairwise_append] at ordered
  rw [← List.take_append_drop n l] at hx
  refine (List.mem_append.1 hx).imp_right fun hx => ⟨?_, fun y hy => ordered.2.2 y hy x hx⟩
  have : l.drop n ≠ [] := List.ne_nil_of_mem hx
  rw [List.length_take, min_eq_left (by rw [ne_eq, List.drop_eq_nil_iff] at this; omega)]

/-! ### Eligible entries and their order (R37, R130) -/

/-- R36, R37: the own score as the clause writes it out. -/
theorem ownScore_eq_ownWorth (e : NetEntry) : (ownScore e : Int) = e.ownWorth := by
  rw [ownScore, routeScore_eq_max_rawScore, rawScore, NetEntry.ownWorth]
  have level : (scoreLevel e.level : Int) = match e.level with
      | some l => (l : Int)
      | none => 8 := by cases h : e.level <;> simp [scoreLevel]
  have bonus : (typeBonus (some e.radio) : Int) = match e.radio with
      | .g2 => 0
      | .g3 => 2
      | .g4 => 4
      | .g5 => 6 := by cases e.radio <;> rfl
  rw [level, bonus, agePenalty]
  cases e.level <;> cases e.radio <;> simp

theorem ownScore_lt_iff {x y : NetEntry} : ownScore x < ownScore y ↔ x.ownWorth < y.ownWorth := by
  rw [← ownScore_eq_ownWorth, ← ownScore_eq_ownWorth, Int.ofNat_lt]

theorem ownScore_eq_iff {x y : NetEntry} : ownScore x = ownScore y ↔ x.ownWorth = y.ownWorth := by
  rw [← ownScore_eq_ownWorth, ← ownScore_eq_ownWorth, Int.ofNat_inj]

theorem isServing_iff {uptime : Nat} {e : NetEntry} :
    isServing uptime e = true ↔ e.permitted = true ∧ ∀ u ∈ e.barredUntil, u ≤ uptime := by
  cases h : e.barredUntil <;> simp [isServing, isBarred, h, and_comm]

theorem isOut_iff {st : SlotState} : isOut st = true ↔ st = .absent ∨ st = .disabled := by cases st <;> simp [isOut]

/-- R130 step 1. -/
theorem mem_eligible_iff {s : State} {sl : Slot} {e : NetEntry} : e ∈ eligible s sl ↔ s.Eligible sl e := by
  unfold eligible State.Eligible State.Serves
  split <;> rename_i out
  · rw [isOut_iff] at out
    simp only [List.not_mem_nil, false_iff]
    tauto
  · rw [isOut_iff, not_or] at out
    rw [List.mem_filter, isServing_iff]
    tauto

theorem eligible_codes {s : State} (sound : s.NetworksSound) (sl : Slot) : ((eligible s sl).map NetEntry.code).Nodup := by
  have table : tableSound (s.table sl) := by
    cases sl
    · exact sound.1
    · exact sound.2
  unfold eligible
  split
  · exact List.nodup_nil
  · exact (List.filter_sublist.map _).nodup table.2.1

/-- R130 step 3, for the entries that `advertBefore` compares. -/
theorem advertBefore_iff {x y : NetEntry} : advertBefore x y = true ↔ x.AdvertisedBefore y := by
  unfold advertBefore NetEntry.AdvertisedBefore
  rw [← ownScore_lt_iff, ← ownScore_eq_iff]
  split_ifs <;> simp only [decide_eq_true_eq] <;> omega

theorem NetEntry.AdvertisedBefore.trans {x y z : NetEntry} (h : x.AdvertisedBefore y) (g : y.AdvertisedBefore z) :
    x.AdvertisedBefore z := by
  unfold NetEntry.AdvertisedBefore at *
  omega

theorem NetEntry.AdvertisedBefore.total {x y : NetEntry} (code : x.code ≠ y.code) : x.AdvertisedBefore y ∨ y.AdvertisedBefore x := by
  unfold NetEntry.AdvertisedBefore
  omega

/-- R130 step 2: of two entries of one network, SLOT_A's is kept. -/
theorem keepsA_iff {x y : NetEntry} : keepsA x y = true ↔
    levelRank y.level < levelRank x.level ∨ levelRank y.level = levelRank x.level ∧ ownScore y ≤ ownScore x := by
  unfold keepsA
  split <;> simp only [decide_eq_true_eq] <;> omega

/-- R130 step 2: the entry kept, whatever numbers put the levels in their order. -/
theorem keeps_iff_of_rank (s : State) (sl : Slot) (e : NetEntry) {rank : NetEntry → Int}
    (order : ∀ d, rank d = levelRank d.level - 1) :
    (s.Eligible sl e ∧ ∀ d ∈ s.table (otherSlot sl), s.Eligible (otherSlot sl) d → d.code = e.code →
      rank d < rank e ∨ rank d = rank e ∧ (d.ownWorth < e.ownWorth ∨ d.ownWorth = e.ownWorth ∧ sl = .a)) ↔
    s.Eligible sl e ∧ ∀ d ∈ eligible s (otherSlot sl), d.code = e.code →
      if sl = .a then keepsA e d = true else keepsA d e = false := by
  simp only [order, ← ownScore_lt_iff, ← ownScore_eq_iff]
  refine and_congr_right fun _ => ⟨fun h d hd code => ?_, fun h d _ hd code => ?_⟩
  · have := h d (mem_eligible_iff.1 hd).1.1 (mem_eligible_iff.1 hd) code
    cases sl
    · rw [if_pos rfl, keepsA_iff]
      omega
    · rw [if_neg (by simp), ← Bool.not_eq_true, keepsA_iff]
      simp only [reduceCtorEq, and_false, or_false] at this
      omega
  · have := h d (mem_eligible_iff.2 hd) code
    cases sl
    · rw [if_pos rfl, keepsA_iff] at this
      simp only [and_true]
      omega
    · rw [if_neg (by simp), ← Bool.not_eq_true, keepsA_iff] at this
      simp only [reduceCtorEq, and_false, or_false]
      omega

theorem keeps_iff (s : State) (sl : Slot) (e : NetEntry) : s.Keeps sl e ↔ s.Eligible sl e ∧
    ∀ d ∈ eligible s (otherSlot sl), d.code = e.code → if sl = .a then keepsA e d = true else keepsA d e = false :=
  keeps_iff_of_rank s sl e fun d => by cases h : d.level <;> simp [levelRank]

/-- R130 step 2: a match on the entry of a code that a list may hold. -/
theorem find_code_all {es : List NetEntry} (distinct : (es.map NetEntry.code).Nodup) {code : Nat} {p : NetEntry → Bool} :
    (match findEntry es code with
      | some d => p d
      | none => true) = true ↔ ∀ d ∈ es, d.code = code → p d = true := by
  cases h : findEntry es code with
  | none => simpa using fun d hd e => absurd e (findEntry_eq_none.1 h d hd)
  | some e =>
    obtain ⟨he, code⟩ : e ∈ es ∧ e.code = code :=
      ⟨List.mem_of_find?_eq_some h, by simpa using List.find?_some h⟩
    refine ⟨fun pe d hd same => ?_, fun all => all e he code⟩
    have := find_key_of_mem NetEntry.code distinct hd
    rw [same] at this
    obtain rfl : e = d := Option.some.inj (h.symm.trans this)
    exact pe

/-- R130 step 2: one entry stands for each network, the one that is kept. -/
theorem mem_onePerNetwork_iff {s : State} (sound : s.NetworksSound) {e : NetEntry} :
    e ∈ onePerNetwork (eligible s .a) (eligible s .b) ↔ ∃ sl, s.Keeps sl e := by
  have keeps (sl : Slot) := keeps_iff s sl e
  have a := keeps .a
  have b := keeps .b
  simp only [otherSlot, if_true, reduceCtorEq, if_false] at a b
  have slots : (∃ sl, s.Keeps sl e) ↔ s.Keeps .a e ∨ s.Keeps .b e :=
    ⟨fun ⟨sl, h⟩ => by cases sl <;> simp [h], fun h => h.elim (fun h => ⟨_, h⟩) fun h => ⟨_, h⟩⟩
  rw [slots, a, b, onePerNetwork, List.mem_append, List.mem_filter, List.mem_filter]
  refine or_congr (and_congr mem_eligible_iff ?_) (and_congr mem_eligible_iff ?_)
  · exact find_code_all (p := fun d => keepsA e d) (eligible_codes sound .b)
  · exact (find_code_all (p := fun d => !keepsA d e) (eligible_codes sound .a)).trans (by simp)

theorem onePerNetwork_codes {s : State} (sound : s.NetworksSound) :
    ((onePerNetwork (eligible s .a) (eligible s .b)).map NetEntry.code).Nodup := by
  rw [onePerNetwork, List.map_append, List.nodup_append]
  refine ⟨(List.filter_sublist.map _).nodup (eligible_codes sound .a),
    (List.filter_sublist.map _).nodup (eligible_codes sound .b), ?_⟩
  rintro _ hx _ hy rfl
  obtain ⟨x, memA, rfl⟩ := List.mem_map.1 hx
  obtain ⟨y, memB, code⟩ := List.mem_map.1 hy
  obtain ⟨hx, kept⟩ := List.mem_filter.1 memA
  obtain ⟨hy, kept'⟩ := List.mem_filter.1 memB
  have one := (find_code_all (p := fun d => keepsA x d) (eligible_codes sound .b)).1 kept y hy code
  have other := (find_code_all (p := fun d => !keepsA d y) (eligible_codes sound .a)).1 kept' x hx code.symm
  simp_all

/-- R130 step 3: insertion in the model's order. -/
theorem insertEntry_eq (x : NetEntry) (ys : List NetEntry) :
    insertEntry x ys = ys.orderedInsert (fun a b => advertBefore a b = true) x := by
  induction ys with
  | nil => rfl
  | cons y ys ih => simp [insertEntry, ih]

/-- The entries of a REACH, of which each item tells one. -/
def advertEntries (s : State) : List NetEntry :=
  ((onePerNetwork (eligible s .a) (eligible s .b)).insertionSort fun a b => advertBefore a b = true).take 4

theorem advertItems_eq (s : State) : advertItems s = (advertEntries s).map toItem := by
  have : insertEntry = fun x ys => ys.orderedInsert (fun a b => advertBefore a b = true) x :=
    funext fun x => funext fun ys => insertEntry_eq x ys
  rw [advertItems, this]
  rfl

/-- R130: the entries of a REACH are kept ones, in order, and none is left out for a later one. -/
theorem advertEntries_spec {s : State} (sound : s.NetworksSound) :
    (advertEntries s).length ≤ 4 ∧ ((advertEntries s).map NetEntry.code).Nodup ∧
    (∀ e ∈ advertEntries s, ∃ sl, s.Keeps sl e) ∧ (advertEntries s).Pairwise NetEntry.AdvertisedBefore ∧
    ∀ sl, ∀ e ∈ s.table sl, s.Keeps sl e →
      e ∈ advertEntries s ∨ (advertEntries s).length = 4 ∧ ∀ d ∈ advertEntries s, d.AdvertisedBefore e := by
  have perm := List.perm_insertionSort (fun a b => advertBefore a b = true)
    (onePerNetwork (eligible s .a) (eligible s .b))
  have ordered : ((onePerNetwork (eligible s .a) (eligible s .b)).insertionSort
      fun a b => advertBefore a b = true).Pairwise NetEntry.AdvertisedBefore := by
    refine (insertionSort_pairwise (fun a b c hab hbc => ?_) ?_).imp advertBefore_iff.1
    · exact advertBefore_iff.2 ((advertBefore_iff.1 hab).trans (advertBefore_iff.1 hbc))
    · refine (List.pairwise_map.1 (onePerNetwork_codes sound)).imp fun code => ?_
      rw [advertBefore_iff, advertBefore_iff]
      exact NetEntry.AdvertisedBefore.total code
  refine ⟨List.length_take_le .., ((List.take_sublist ..).map _).nodup ((perm.map _).nodup_iff.2 (onePerNetwork_codes sound)),
    fun e he => ?_, ordered.sublist (List.take_sublist ..), fun sl e _ kept => ?_⟩
  · exact (mem_onePerNetwork_iff sound).1 (perm.mem_iff.1 (List.mem_of_mem_take he))
  · exact mem_take_or_before ordered (perm.mem_iff.2 ((mem_onePerNetwork_iff sound).2 ⟨sl, kept⟩))

end Sys2Proof.Machine
end

section
/-! The capacity and the build of a REACH (R111, R129, R131 to R133). -/

namespace Sys2Proof.Machine

/-! ### Capacity (R111) -/

/-- What the capacity reads. -/
theorem capacity_congr {s t : State} (record : t.cfg.record = s.cfg.record) (supply : t.spm.supply = s.spm.supply)
    (states : ∀ sl, (t.slot sl).state = (s.slot sl).state) (carries : t.cye.length = s.cye.length) :
    t.capacity = s.capacity := by
  have a : t.slc.a.state = s.slc.a.state := states .a
  have b : t.slc.b.state = s.slc.b.state := states .b
  simp only [State.capacity, record, supply, a, b, carries]

theorem bothOut_iff (s : State) : (isOut s.slc.a.state && isOut s.slc.b.state) = true ↔
    ∀ sl, (s.slot sl).state = .absent ∨ (s.slot sl).state = .disabled := by
  rw [Bool.and_eq_true, isOut_iff, isOut_iff]
  exact ⟨fun ⟨a, b⟩ sl => by cases sl <;> assumption, fun h => ⟨h .a, h .b⟩⟩

/-! ### The build (R129, R131) -/

/-- What a frame handed to LNC makes of it depends on the line, the address and the moment. -/
theorem hand_lnc_own {s t : State} (d : Nat) (b : Body) (lnc : t.lnc = s.lnc) (own : t.own = s.own)
    (now : t.clock.now = s.clock.now) : (t.hand d b).lnc = (s.hand d b).lnc := by
  simp only [hand_lnc, lnc, own]
  cases s.own <;> dsimp only
  split
  · exact sendIfQuiet_lnc_congr (by simp) (by simpa using now)
  · rfl

theorem buildReach_adv (s : State) : s.buildReach.adv =
    { seq := (s.adv.seq + 1) % 256
      timer := .periodic (s.clock.now + s.cfg.record.advertInterval * 1000 + (rngStep s.lnc.rng).toNat % 31 * 100)
      lastBuild := some s.clock.now
      lastBest := bestOf (advertItems s)
      early := false } := by
  rw [State.buildReach, (State.hand_frame _ _ _).2.2.2.2.2.2.2.1]
  rfl

theorem buildReach_lnc (s : State) : s.buildReach.lnc =
    ((s.withLnc { s.lnc with rng := rngStep s.lnc.rng }).hand 0 (.reach (reachPayload (reachNow s)))).lnc :=
  hand_lnc_own _ _ rfl rfl rfl

/-- R129: the REACH of a state, from what the build reads. -/
theorem reachNow_eq {s t : State} (adv : t.adv = s.adv) (capacity : t.capacity = s.capacity)
    (supply : t.spm.supply = s.spm.supply) (call : t.ple.state = s.ple.state) :
    reachNow t = { seq := s.adv.seq, capacity := s.capacity, supply := s.spm.supply, localCall := s.ple.state != .idle,
                   items := advertItems t } := by
  rw [reachNow, adv, capacity, supply, call]

theorem spacingPassed_iff (s : State) : s.spacingPassed = true ↔ ∀ b, s.adv.lastBuild = some b → b + 5000 ≤ s.clock.now := by
  unfold State.spacingPassed earlySpacingMs
  cases s.adv.lastBuild <;> simp

/-- R131 to R133: the commands that build a REACH. -/
theorem exec_builds {s : State} {at_ : Nat} {c : Instr}
    (h : (c = .advertTimerExpiry ∧ s.adv.timer = .periodic at_ ∧ at_ < s.clock.second + 1000) ∨
      (c = .startWaitExpiry ∧ s.adv.timer = .startWait at_ ∧ at_ < s.clock.second + 1000) ∨
      (c = .earlyAdvertSpacingEnd ∧ s.adv.early = true ∧ (∃ b, s.adv.lastBuild = some b ∧ b + 5000 = at_) ∧
        at_ < s.clock.second + 1000 ∧ s.own ≠ none ∧ s.EarlyAdvertDue (advertItems s))) :
    ∃ early, exec c s =
      .next ((s.advanceTo at_).withAdv { s.adv with early := early }).buildReach := by
  obtain ⟨rfl, timer, due⟩ | ⟨rfl, timer, due⟩ | ⟨rfl, early, ⟨b, built, rfl⟩, due, own, first⟩ := h
  · exact ⟨s.adv.early, congrArg Host.Outcome.next (expire_due _ ⟨congrArg AdvertTimer.periodicAt timer, due⟩)⟩
  · exact ⟨s.adv.early, congrArg Host.Outcome.next (expire_due _ ⟨congrArg AdvertTimer.startWaitAt timer, due⟩)⟩
  · have ends : s.spacingEnd = some (b + 5000) := by simp [State.spacingEnd, early, built, earlySpacingMs]
    refine ⟨false, congrArg Host.Outcome.next ((expire_due _ ⟨ends, due⟩).trans ?_)⟩
    have items : advertItems ((s.advanceTo (b + 5000)).withAdv { s.adv with early := false }) = advertItems s :=
      advertItems_congr rfl rfl rfl
    refine (watchAdvert_due (s := (s.advanceTo (b + 5000)).withAdv { s.adv with early := false }) own ?_).trans (if_pos ?_)
    · rw [items]
      exact first
    · rw [spacingPassed_iff]
      intro b' hb'
      obtain rfl : b = b' := Option.some.inj (built.symm.trans hb')
      exact le_max_right ..

/-- R132: the end of a spacing that finds no early advert due. -/
theorem exec_spacingEnd_notDue {s : State} {b : Nat} (early : s.adv.early = true) (built : s.adv.lastBuild = some b)
    (due : b + 5000 < s.clock.second + 1000) (first : ¬ s.EarlyAdvertDue (advertItems s)) :
    exec .earlyAdvertSpacingEnd s = .next ((s.advanceTo (b + 5000)).withAdv { s.adv with early := false }) := by
  have ends : s.spacingEnd = some (b + 5000) := by simp [State.spacingEnd, early, built, earlySpacingMs]
  refine congrArg Host.Outcome.next ((expire_due _ ⟨ends, due⟩).trans (watchAdvert_notDue (.inr fun now => first ?_)))
  have items : advertItems ((s.advanceTo (b + 5000)).withAdv { s.adv with early := false }) = advertItems s :=
    advertItems_congr rfl rfl rfl
  exact items ▸ now

/-! ### A watched event (R132) -/

/-- A state that an event has left as ADV looks at it: what ADV and LNC read of it is what they read before the event. -/
structure State.Watched (s v : State) (now : Nat) : Prop where
  adv : v.adv = s.adv
  lnc : v.lnc = s.lnc
  own : v.own = s.own
  now : v.clock.now = now
  record : v.cfg.record = s.cfg.record
  capacity : v.capacity = s.capacity
  supply : v.spm.supply = s.spm.supply
  call : v.ple.state = s.ple.state

theorem State.Watched.due_iff {s v : State} {now : Nat} (h : s.Watched v now) (items : List ReachItem) :
    v.EarlyAdvertDue items ↔ s.EarlyAdvertDue items := by
  unfold State.EarlyAdvertDue
  rw [h.adv]

/-- R53, R54: a BEAT and a second's ageing leave the table to ADV as `Watched` says. -/
theorem watched_beat (s : State) (sl : Slot) (ms code : Nat) (level : Option Nat) :
    ∃ v, ((s.arrive ms).hearModule sl).takeBeat sl (some code) level = v.watchAdvert ∧
      s.Watched v (s.arrive ms).clock.now := by
  refine ⟨((s.arrive ms).hearModule sl).withTable sl (updateEntry code
    (fun e => { e with level := level.map (min · 31), age := 0 }) (((s.arrive ms).hearModule sl).table sl)), rfl, ?_⟩
  have states (k : Slot) : (((s.arrive ms).hearModule sl).slot k).state = (s.slot k).state := by
    by_cases h : k = sl
    · subst h
      rw [hearModule_slot, (settleIdle_fields ..).1, arrive_slot]
    · rw [slot_ne h, hearModule_other, arrive_slot]
  exact ⟨by simp, by simp, own_of_cfg (by simp), by simp, by simp,
    capacity_congr (by simp) (by simp)
      (fun k => (congrArg SlotRec.state (slot_of_slc (by simp) k)).trans (states k)) (by simp), by simp, by simp⟩

theorem watched_tick (s : State) : s.Watched s.countSecond (s.clock.second + 1000) :=
  ⟨rfl, rfl, rfl, rfl, rfl, capacity_congr rfl rfl (fun sl => by cases sl <;> rfl) (List.length_map _), rfl, rfl⟩

/-- R132: a watched event builds the REACH of the state it leaves, marks an early advert, or touches neither the advert
generator nor the line. -/
theorem State.Watched.watchAdvert {s v : State} {now : Nat} (h : s.Watched v now) (own : s.own ≠ none) :
    (¬ s.EarlyAdvertDue (advertItems v) → v.watchAdvert.adv = s.adv ∧ v.watchAdvert.lnc = s.lnc) ∧
    (s.EarlyAdvertDue (advertItems v) → (∃ b, s.adv.lastBuild = some b ∧ now < b + 5000) →
      v.watchAdvert.adv = { s.adv with early := true } ∧ v.watchAdvert.lnc = s.lnc) ∧
    (s.EarlyAdvertDue (advertItems v) → (∀ b, s.adv.lastBuild = some b → b + 5000 ≤ now) →
      v.watchAdvert.adv =
        { seq := (s.adv.seq + 1) % 256
          timer := .periodic (now + s.cfg.record.advertInterval * 1000 + (rngStep s.lnc.rng).toNat % 31 * 100)
          lastBuild := some now
          lastBest := bestOf (advertItems v)
          early := false } ∧
      v.watchAdvert.lnc =
        (((s.withClock { s.clock with now := now }).withLnc { s.lnc with rng := rngStep s.lnc.rng }).hand 0
          (.reach (reachPayload { seq := s.adv.seq, capacity := s.capacity, supply := s.spm.supply,
                                  localCall := s.ple.state != .idle, items := advertItems v }))).lnc) := by
  refine ⟨fun first => ?_, fun first soon => ?_, fun first passed => ?_⟩
  · rw [watchAdvert_notDue (.inr (mt (h.due_iff _).1 first)), h.adv, h.lnc]
    exact ⟨rfl, rfl⟩
  all_goals rw [watchAdvert_due (by rwa [h.own]) ((h.due_iff _).2 first)]
  · obtain ⟨b, built, soon⟩ := soon
    rw [if_neg (by rw [spacingPassed_iff, h.adv, h.now]; exact fun all => absurd (all b built) (by omega)), h.adv]
    exact ⟨rfl, h.lnc⟩
  · rw [if_pos (by rwa [spacingPassed_iff, h.adv, h.now]), buildReach_adv, buildReach_lnc, h.adv, h.now, h.record, h.lnc,
      reachNow_eq h.adv h.capacity h.supply h.call]
    exact ⟨rfl, hand_lnc_own _ _ rfl h.own h.now⟩

/-- Settles O56: the builds, the watched events, the items and the capacity. -/
theorem advertTimersBuildAReach : Obligations.AdvertTimersBuildAReach := by
  unfold Obligations.AdvertTimersBuildAReach
  refine ⟨fun s at_ c h => ?_, fun s b early built due first => exec_spacingEnd_notDue early built due first,
    fun s sl code ms now level c running own h => ?_,
    fun s sound => ⟨advertEntries s, advertItems_eq s, advertEntries_spec sound⟩, fun s few => ?_⟩
  · obtain ⟨early, build⟩ := exec_builds h
    have items : advertItems ((s.advanceTo at_).withAdv { s.adv with early := early }) = advertItems s :=
      advertItems_congr rfl rfl rfl
    refine ⟨_, build, ?_, ?_, by simp⟩
    · rw [buildReach_adv, items]
      rfl
    · rw [buildReach_lnc]
      exact hand_lnc_own _ _ rfl rfl rfl
  · have watched : ∃ v, exec c s = .next v.watchAdvert ∧ s.Watched v now := by
      obtain ⟨rfl, warm, rfl⟩ | ⟨rfl, rfl⟩ := h
      · obtain ⟨v, beat, watched⟩ := watched_beat s sl ms code level
        exact ⟨v, by rw [exec_beat_pastWarmUp _ _ _ running warm, beat], watched⟩
      · exact ⟨_, exec_uptimeTick running, watched_tick s⟩
    obtain ⟨v, done, watched⟩ := watched
    refine ⟨v.watchAdvert, done, ?_⟩
    rw [watchAdvert_items]
    exact watched.watchAdvert own
  · intro out
    have outs : (isOut s.slc.a.state && isOut s.slc.b.state) = true ↔ out := bothOut_iff s
    unfold State.capacity
    refine ⟨?_, fun on low up => ?_, fun on ok up => ?_⟩
    · rintro (off | critical | down)
      · simp [off]
      · simp [critical]
      · rw [if_pos (outs.2 down)]
        simp
    · simp [on, low, mt outs.1 up]
    · simp [on, ok, mt outs.1 up]

end Sys2Proof.Machine
end

section
/-! The candidate list (R32 to R42): the routes formed, the better of two of one identity, and the best twelve in order. -/

namespace Sys2Proof.Machine

/-! ### Routes and their order (R40, R41) -/

/-- R40: what two routes of one identity have in common. -/
def Candidate.identity (c : Candidate) : Via × Nat := (c.via, c.code)

theorem route_eq_iff {c d : Candidate} : c.route = d.route ↔ c.identity = d.identity := by
  simp [Candidate.route, Candidate.identity]

theorem viaRank_injective {v w : Via} (h : viaRank v = viaRank w) : v = w := by
  unfold viaRank at h
  split at h <;> split at h <;> simp_all

/-- R41: the tests in their order. -/
theorem before_iff {c d : Candidate} : c.before d = true ↔
    d.score < c.score ∨ d.score = c.score ∧
      ((c.via.isBox = false ∧ d.via.isBox = true) ∨ c.via.isBox = d.via.isBox ∧
        (c.q < d.q ∨ c.q = d.q ∧
          (viaRank c.via < viaRank d.via ∨ viaRank c.via = viaRank d.via ∧ c.code < d.code))) := by
  unfold Candidate.before
  split_ifs with score box q rank <;> simp only [decide_eq_true_eq, Bool.not_eq_true']
  · omega
  · cases hc : c.via.isBox <;> cases hd : d.via.isBox <;> simp_all
  · simp_all
  · simp_all
  · simp_all

theorem before_trans {a b c : Candidate} (h : a.before b = true) (g : b.before c = true) : a.before c = true := by
  rw [before_iff] at *
  cases ha : a.via.isBox <;> cases hb : b.via.isBox <;> cases hc : c.via.isBox <;> simp [ha, hb, hc] at * <;> omega

/-- R41: no two routes of different identities tie. -/
theorem before_total {c d : Candidate} (apart : c.identity ≠ d.identity) : c.before d = true ∨ d.before c = true := by
  have rank : viaRank c.via = viaRank d.via → c.code ≠ d.code := fun h code =>
    apart (Prod.ext (viaRank_injective h) code)
  rw [before_iff, before_iff]
  cases hc : c.via.isBox <;> cases hd : d.via.isBox <;> simp <;> omega

theorem insertRoute_eq (c : Candidate) (ds : List Candidate) :
    insertRoute c ds = ds.orderedInsert (fun a b => a.before b = true) c := by
  induction ds with
  | nil => rfl
  | cons d ds ih => simp [insertRoute, ih]

/-! ### The better of two routes of one identity (R40) -/

/-- R40: a route that is not replaced by the other. -/
def Candidate.AtLeast (c d : Candidate) : Prop := d.score < c.score ∨ d.score = c.score ∧ c.q ≤ d.q

theorem Candidate.AtLeast.refl (c : Candidate) : c.AtLeast c := .inr ⟨rfl, le_rfl⟩

theorem Candidate.AtLeast.trans {c d e : Candidate} (h : c.AtLeast d) (g : d.AtLeast e) : c.AtLeast e := by
  unfold Candidate.AtLeast at *
  omega

theorem mergeRoute_mem {kept : List Candidate} {c d : Candidate} (h : d ∈ mergeRoute kept c) : d = c ∨ d ∈ kept := by
  induction kept with
  | nil => simpa [mergeRoute] using h
  | cons k ks ih =>
    rw [mergeRoute] at h
    split at h
    · split at h <;> simp only [List.mem_cons] at h ⊢ <;> tauto
    · obtain rfl | h := List.mem_cons.1 h
      · simp
      · exact (ih h).imp_right (List.mem_cons_of_mem _)

theorem mergeRoute_distinct {kept : List Candidate} (distinct : kept.Pairwise fun c d => c.identity ≠ d.identity)
    (c : Candidate) : (mergeRoute kept c).Pairwise fun c d => c.identity ≠ d.identity := by
  induction kept with
  | nil => simp [mergeRoute]
  | cons k ks ih =>
    obtain ⟨first, rest⟩ := List.pairwise_cons.1 distinct
    rw [mergeRoute]
    split <;> rename_i same
    · have one : c.identity = k.identity := (Prod.ext same.1 same.2).symm
      split
      · exact List.pairwise_cons.2 ⟨fun d hd => one ▸ first d hd, rest⟩
      · exact distinct
    · refine List.pairwise_cons.2 ⟨fun d hd => ?_, ih rest⟩
      obtain rfl | hd := mergeRoute_mem hd
      · exact fun e => same (Prod.mk.inj e)
      · exact first d hd

theorem mergeRoute_atLeast {kept : List Candidate} {c x : Candidate} (hx : x = c ∨ x ∈ kept) :
    ∃ d ∈ mergeRoute kept c, d.identity = x.identity ∧ d.AtLeast x := by
  induction kept with
  | nil =>
    obtain rfl : x = c := by simpa using hx
    exact ⟨x, by simp [mergeRoute], rfl, .refl x⟩
  | cons k ks ih =>
    have still (d : Candidate) (hd : x = d) (mem : d ∈ mergeRoute (k :: ks) c) :
        ∃ d ∈ mergeRoute (k :: ks) c, d.identity = x.identity ∧ d.AtLeast x := ⟨d, mem, hd ▸ rfl, hd ▸ .refl x⟩
    rw [mergeRoute] at still ⊢
    split <;> rename_i same
    · rw [if_pos same] at still
      have one : k.identity = c.identity := Prod.ext same.1 same.2
      split <;> rename_i better
      · rw [if_pos better] at still
        obtain rfl | hx := hx
        · exact still x rfl (List.mem_cons_self ..)
        · obtain rfl | hx := List.mem_cons.1 hx
          · exact ⟨c, List.mem_cons_self .., one.symm, by unfold Candidate.AtLeast; omega⟩
          · exact still x rfl (List.mem_cons_of_mem _ hx)
      · rw [if_neg better] at still
        obtain rfl | hx := hx
        · exact ⟨k, List.mem_cons_self .., one, by unfold Candidate.AtLeast; omega⟩
        · exact still x rfl hx
    · rw [if_neg same] at still
      by_cases hk : x = k
      · exact still k hk (List.mem_cons_self ..)
      · obtain ⟨d, hd, h⟩ := ih (hx.imp_right fun hx => (List.mem_cons.1 hx).resolve_left hk)
        exact ⟨d, List.mem_cons_of_mem _ hd, h⟩

/-- R40: of the routes of one neighbour one of each identity is kept, none better left out. -/
theorem mergeRoutes_spec (cs kept : List Candidate) (distinct : kept.Pairwise fun c d => c.identity ≠ d.identity) :
    (cs.foldl mergeRoute kept).Pairwise (fun c d => c.identity ≠ d.identity) ∧
    (∀ c ∈ cs.foldl mergeRoute kept, c ∈ kept ∨ c ∈ cs) ∧
    ∀ x, x ∈ kept ∨ x ∈ cs → ∃ d ∈ cs.foldl mergeRoute kept, d.identity = x.identity ∧ d.AtLeast x := by
  induction cs generalizing kept with
  | nil => exact ⟨distinct, fun c hc => .inl hc, fun x hx => ⟨x, hx.resolve_right List.not_mem_nil, rfl, .refl x⟩⟩
  | cons c cs ih =>
    obtain ⟨apart, from_, best⟩ := ih (mergeRoute kept c) (mergeRoute_distinct distinct c)
    refine ⟨apart, fun d hd => ?_, fun x hx => ?_⟩
    · obtain hd | hd := from_ d hd
      · obtain rfl | hd := mergeRoute_mem hd
        · exact .inr (List.mem_cons_self ..)
        · exact .inl hd
      · exact .inr (List.mem_cons_of_mem _ hd)
    · have now : x = c ∨ x ∈ kept ∨ x ∈ cs := by
        rw [List.mem_cons] at hx
        tauto
      by_cases later : x ∈ cs
      · exact best x (.inr later)
      · obtain ⟨d, hd, same, better⟩ := mergeRoute_atLeast (show x = c ∨ x ∈ kept by tauto)
        obtain ⟨e, he, same', better'⟩ := best d (.inl hd)
        exact ⟨e, he, same'.trans same, better'.trans better⟩

/-! ### The routes formed (R32, R39) -/

theorem isExcluded_iff {st : SlotState} :
    isExcluded st = true ↔ st = .absent ∨ st = .disabled ∨ st = .restarting := by
  cases st <;> simp [isExcluded]

/-- R39: the own routes of a slot. -/
theorem mem_ownRoutes {s : State} {sl : Slot} {c : Candidate} : c ∈ ownRoutes s sl ↔
    ((s.slot sl).state ≠ .absent ∧ (s.slot sl).state ≠ .disabled ∧ (s.slot sl).state ≠ .restarting) ∧
    ∃ e ∈ s.table sl, e.permitted = true ∧ (∀ u, e.barredUntil = some u → u ≤ s.cfg.uptime) ∧ ownCandidate sl e = c := by
  unfold ownRoutes
  split <;> rename_i out
  · rw [isExcluded_iff] at out
    simp only [List.not_mem_nil, false_iff]
    tauto
  · rw [isExcluded_iff] at out
    simp only [List.mem_map, List.mem_filter, isServing_iff, Option.mem_def]
    constructor
    · rintro ⟨e, ⟨he, ok, bar⟩, rfl⟩
      exact ⟨by tauto, e, he, ok, bar, rfl⟩
    · rintro ⟨-, e, he, ok, bar, rfl⟩
      exact ⟨e, ⟨he, ok, bar⟩, rfl⟩

theorem mayCarry_iff (n : NeighbourEntry) :
    n.mayCarry = true ↔ n.state = .usable ∧ n.capacity ≠ 0 ∧ n.supply ≠ .critical := by
  simp [NeighbourEntry.mayCarry, and_assoc]

/-- R39, R40: the relay routes of a neighbour that may carry. -/
theorem relayRoutes_spec (s : State) (n : NeighbourEntry) :
    (relayRoutes s n).Pairwise (fun c d => c.identity ≠ d.identity) ∧
    (∀ c ∈ relayRoutes s n, s.own ≠ none ∧ (n.state = .usable ∧ n.capacity ≠ 0 ∧ n.supply ≠ .critical) ∧
      (∃ i ∈ n.items, relayCandidate s.cfg.record.relayPenalty n i = c) ∧
      ∀ j ∈ n.items, j.code = c.code → c.AtLeast (relayCandidate s.cfg.record.relayPenalty n j)) ∧
    (s.own ≠ none → n.state = .usable → n.capacity ≠ 0 → n.supply ≠ .critical → ∀ i ∈ n.items,
      ∃ j ∈ n.items, j.code = i.code ∧ relayCandidate s.cfg.record.relayPenalty n j ∈ relayRoutes s n ∧
        (relayCandidate s.cfg.record.relayPenalty n j).AtLeast (relayCandidate s.cfg.record.relayPenalty n i)) := by
  obtain ⟨apart, from_, best⟩ := mergeRoutes_spec (n.items.map (relayCandidate s.cfg.record.relayPenalty n)) [] .nil
  have formed : (n.mayCarry && s.own.isSome) = true ↔
      s.own ≠ none ∧ n.state = .usable ∧ n.capacity ≠ 0 ∧ n.supply ≠ .critical := by
    rw [Bool.and_eq_true, mayCarry_iff, Option.isSome_iff_ne_none, and_comm]
  unfold relayRoutes
  split <;> rename_i may
  · obtain ⟨own, ok⟩ := formed.1 may
    refine ⟨apart, fun c hc => ?_, fun _ _ _ _ i hi => ?_⟩
    · obtain ⟨i, hi, rfl⟩ := List.mem_map.1 ((from_ c hc).resolve_left List.not_mem_nil)
      refine ⟨own, ok, ⟨i, hi, rfl⟩, fun j hj code => ?_⟩
      obtain ⟨d, hd, same, better⟩ := best _ (.inr (List.mem_map_of_mem hj))
      obtain rfl : d = relayCandidate s.cfg.record.relayPenalty n i :=
        List.inj_on_of_nodup_map (List.pairwise_map.2 apart) hd hc (same.trans (Prod.ext rfl code))
      exact better
    · obtain ⟨d, hd, same, better⟩ := best _ (.inr (List.mem_map_of_mem hi))
      obtain ⟨j, hj, rfl⟩ := List.mem_map.1 ((from_ d hd).resolve_left List.not_mem_nil)
      exact ⟨j, hj, (Prod.mk.inj same).2, hd, better⟩
  · refine ⟨.nil, by simp, fun own usable capacity supply => absurd (formed.2 ⟨own, usable, capacity, supply⟩) may⟩

/-- R32: the routes that the list is built from. -/
def State.formedRoutes (s : State) : List Candidate :=
  ownRoutes s .a ++ ownRoutes s .b ++ s.nbt.flatMap (relayRoutes s)

theorem relayRoutes_via {s : State} {n : NeighbourEntry} {c : Candidate} (h : c ∈ relayRoutes s n) : c.via = .box n.addr := by
  obtain ⟨-, -, ⟨i, -, rfl⟩, -⟩ := (relayRoutes_spec s n).2.1 c h
  rfl

theorem ownRoutes_via {s : State} {sl : Slot} {c : Candidate} (h : c ∈ ownRoutes s sl) : c.via = .slot sl := by
  obtain ⟨-, e, -, -, -, rfl⟩ := mem_ownRoutes.1 h
  rfl

theorem ownRoutes_distinct {s : State} {sl : Slot} (sound : tableSound (s.table sl)) :
    (ownRoutes s sl).Pairwise fun c d => c.identity ≠ d.identity := by
  unfold ownRoutes
  split
  · exact .nil
  · have codes := (List.pairwise_map.1 sound.2.1).filter (isServing s.cfg.uptime)
    exact List.pairwise_map.2 (codes.imp fun code e => code (Prod.mk.inj e).2)

/-- R40: the routes formed are of distinct identities. -/
theorem formedRoutes_distinct {s : State} (networks : s.NetworksSound) (neighbours : s.NeighboursSound) :
    s.formedRoutes.Pairwise fun c d => c.identity ≠ d.identity := by
  have apart {v w : Via} (ne : v ≠ w) {c d : Candidate} (hc : c.via = v) (hd : d.via = w) : c.identity ≠ d.identity :=
    fun e => ne (hc.symm.trans ((Prod.mk.inj e).1.trans hd))
  rw [State.formedRoutes, List.pairwise_append, List.pairwise_append, List.pairwise_flatMap]
  refine ⟨⟨ownRoutes_distinct networks.1, ownRoutes_distinct networks.2, fun c hc d hd =>
      apart (by simp) (ownRoutes_via hc) (ownRoutes_via hd)⟩,
    ⟨fun n _ => (relayRoutes_spec s n).1, (List.pairwise_map.1 neighbours.2.1).imp fun addr c hc d hd =>
      apart (by simpa using addr) (relayRoutes_via hc) (relayRoutes_via hd)⟩, fun c hc d hd => ?_⟩
  obtain ⟨n, -, hd⟩ := List.mem_flatMap.1 hd
  obtain hc | hc := List.mem_append.1 hc <;> exact apart (by simp) (ownRoutes_via hc) (relayRoutes_via hd)

/-! ### The list built (R38, R41, R42) -/

theorem buildList_eq (s : State) :
    buildList s = (s.formedRoutes.insertionSort fun a b => a.before b = true).take 12 := by
  have : insertRoute = fun c ds => ds.orderedInsert (fun a b => a.before b = true) c :=
    funext fun c => funext fun ds => insertRoute_eq c ds
  rw [buildList, orderRoutes, this]
  rfl

theorem formedRoutes_of_mem {s : State} {c : Candidate} (h : c ∈ buildList s) : c ∈ s.formedRoutes := by
  rw [buildList_eq] at h
  exact (List.mem_insertionSort _).1 (List.mem_of_mem_take h)

theorem buildList_spec {s : State} (networks : s.NetworksSound) (neighbours : s.NeighboursSound) :
    (buildList s).length ≤ 12 ∧
    (buildList s).Pairwise (fun c d => d.score ≤ c.score ∧ c.before d = true ∧ c.route ≠ d.route) ∧
    ∀ c ∈ s.formedRoutes,
      c ∈ buildList s ∨ ((buildList s).length = 12 ∧ ∀ d ∈ buildList s, d.before c = true) := by
  have distinct := formedRoutes_distinct networks neighbours
  have ordered : (s.formedRoutes.insertionSort fun a b => a.before b = true).Pairwise fun c d => c.before d = true :=
    insertionSort_pairwise (r := fun a b : Candidate => a.before b = true) (fun _ _ _ => before_trans) (distinct.imp before_total)
  have apart : (s.formedRoutes.insertionSort fun a b => a.before b = true).Pairwise fun c d => c.identity ≠ d.identity :=
    ((List.perm_insertionSort _ s.formedRoutes).pairwise_iff fun h e => h e.symm).2 distinct
  rw [buildList_eq]
  refine ⟨List.length_take_le .., ?_, fun c hc => mem_take_or_before ordered ((List.mem_insertionSort _).2 hc)⟩
  refine ((ordered.and apart).imp fun ⟨before, ne⟩ => ⟨?_, before, mt route_eq_iff.1 ne⟩).sublist (List.take_sublist ..)
  rw [before_iff] at before
  omega

/-! ### The scores written out (R33 to R37) -/

/-- R33: the bonus of a radio type, as the clause gives it. -/
theorem typeBonus_eq (r : Option RadioType) {bonus : Option RadioType → Int}
    (table : bonus none = 0 ∧ bonus (some .g2) = 0 ∧ bonus (some .g3) = 2 ∧ bonus (some .g4) = 4 ∧ bonus (some .g5) = 6) :
    (typeBonus r : Int) = bonus r := by
  obtain ⟨h0, h2, h3, h4, h5⟩ := table
  cases r with
  | none => simp [typeBonus, h0]
  | some r => cases r <;> simp [typeBonus, h2, h3, h4, h5]

/-- R33 to R36: the score of a relay route. -/
theorem relayCandidate_score (penalty : Nat) (n : NeighbourEntry) (i : ReachItem) :
    ((relayCandidate penalty n i).score : Int) = max 0 (4 * (i.level : Int) + typeBonus i.radio -
      5 * (max i.q n.quality.value : Nat) - min (n.age / 30 : Nat) 40 -
      (if n.action = .prefer then penalty / 2 else penalty : Nat) - if n.supply = .low then 10 else 0) := by
  have peer : relayPenalty penalty n.action = if n.action = .prefer then penalty / 2 else penalty := by
    cases n.action <;> simp [relayPenalty]
  have supply : (supplyPenalty n.supply : Int) = if n.supply = .low then 10 else 0 := by
    cases n.supply <;> simp [supplyPenalty]
  simp only [relayCandidate, relayQ, routeScore_eq_max_rawScore, rawScore, agePenalty, peer, supply, Nat.cast_min]

/-- R32, R39, R42: the list against the entries and items that form its routes, the scores given. -/
theorem buildList_forms (s : State) {own : NetEntry → Int} {relay : NeighbourEntry → ReachItem → Int}
    (ownScores : ∀ e, own e = ownScore e)
    (relayScores : ∀ n i, relay n i = (relayCandidate s.cfg.record.relayPenalty n i).score) :
    (∀ c ∈ buildList s,
      (∀ sl, c.via = .slot sl →
        (s.slot sl).state ≠ .absent ∧ (s.slot sl).state ≠ .disabled ∧ (s.slot sl).state ≠ .restarting ∧
        ∃ e ∈ s.table sl, e.code = c.code ∧ e.permitted = true ∧
          (∀ u, e.barredUntil = some u → u ≤ s.cfg.uptime) ∧ c.q = e.quality.value ∧ (c.score : Int) = own e) ∧
      (∀ n, c.via = .box n →
        s.own ≠ none ∧ ∃ e ∈ s.nbt, e.addr = n ∧ e.state = .usable ∧ e.capacity ≠ 0 ∧ e.supply ≠ .critical ∧
          (∃ i ∈ e.items, i.code = c.code ∧ c.q = max i.q e.quality.value ∧ (c.score : Int) = relay e i) ∧
          ∀ j ∈ e.items, j.code = c.code →
            relay e j ≤ c.score ∧ (relay e j = c.score → c.q ≤ max j.q e.quality.value))) ∧
    (s.NetworksSound → s.NeighboursSound →
      let listed (c : Candidate) : Prop :=
        c ∈ buildList s ∨ (buildList s).length = 12 ∧ ∀ d ∈ buildList s, d.before c = true
      (∀ sl, (s.slot sl).state ≠ .absent → (s.slot sl).state ≠ .disabled → (s.slot sl).state ≠ .restarting →
        ∀ e ∈ s.table sl, e.permitted = true → (∀ u, e.barredUntil = some u → u ≤ s.cfg.uptime) →
          listed { via := .slot sl, code := e.code, score := (own e).toNat, q := e.quality.value }) ∧
      (s.own ≠ none → ∀ n ∈ s.nbt, n.state = .usable → n.capacity ≠ 0 → n.supply ≠ .critical → ∀ i ∈ n.items,
        ∃ j ∈ n.items, j.code = i.code ∧ relay n i ≤ relay n j ∧
          (relay n i = relay n j → max j.q n.quality.value ≤ max i.q n.quality.value) ∧
          listed { via := .box n.addr, code := i.code, score := (relay n j).toNat, q := max j.q n.quality.value })) := by
  refine ⟨fun c hc => ⟨fun sl via => ?_, fun n via => ?_⟩, fun networks neighbours => ⟨?_, ?_⟩⟩
  · have formed : c ∈ ownRoutes s sl := by
      obtain formed | formed := List.mem_append.1 (formedRoutes_of_mem hc)
      · obtain formed | formed := List.mem_append.1 formed <;> cases (ownRoutes_via formed).symm.trans via <;> exact formed
      · obtain ⟨n, -, formed⟩ := List.mem_flatMap.1 formed
        cases (relayRoutes_via formed).symm.trans via
    obtain ⟨⟨absent, disabled, restarting⟩, e, he, ok, bar, rfl⟩ := mem_ownRoutes.1 formed
    exact ⟨absent, disabled, restarting, e, he, rfl, ok, bar, rfl, (ownScores e).symm⟩
  · have formed : ∃ e ∈ s.nbt, c ∈ relayRoutes s e := by
      obtain formed | formed := List.mem_append.1 (formedRoutes_of_mem hc)
      · obtain formed | formed := List.mem_append.1 formed <;> cases (ownRoutes_via formed).symm.trans via
      · exact List.mem_flatMap.1 formed
    obtain ⟨e, he, formed⟩ := formed
    obtain ⟨own, ⟨usable, capacity, supply⟩, ⟨i, hi, rfl⟩, best⟩ := (relayRoutes_spec s e).2.1 c formed
    refine ⟨own, e, he, by simpa [relayCandidate] using via, usable, capacity, supply,
      ⟨i, hi, rfl, rfl, (relayScores e i).symm⟩, fun j hj code => ?_⟩
    have better := best j hj code
    have q : (relayCandidate s.cfg.record.relayPenalty e j).q = max j.q e.quality.value := rfl
    rw [relayScores]
    unfold Candidate.AtLeast at better
    omega
  · intro sl absent disabled restarting e he ok bar
    have formed : ownCandidate sl e ∈ s.formedRoutes := by
      have := mem_ownRoutes.2 ⟨⟨absent, disabled, restarting⟩, e, he, ok, bar, rfl⟩
      cases sl <;> simp [State.formedRoutes, this]
    rw [ownScores, Int.toNat_natCast]
    exact (buildList_spec networks neighbours).2.2 _ formed
  · intro own n hn usable capacity supply i hi
    obtain ⟨j, hj, code, formed, better⟩ := (relayRoutes_spec s n).2.2 own usable capacity supply i hi
    have q (k : ReachItem) : (relayCandidate s.cfg.record.relayPenalty n k).q = max k.q n.quality.value := rfl
    simp only [Candidate.AtLeast, q] at better
    refine ⟨j, hj, code, ?_, ?_, ?_⟩
    · rw [relayScores, relayScores]
      omega
    · rw [relayScores, relayScores]
      omega
    · rw [relayScores, Int.toNat_natCast, ← code]
      exact (buildList_spec networks neighbours).2.2 _
        (List.mem_append_right _ (List.mem_flatMap.2 ⟨n, hn, formed⟩))

/-- Settles O16: the order and the limit of the list, and what forms each route of it. -/
theorem candidateListHoldsTheBestAllowedRoutes : Obligations.CandidateListHoldsTheBestAllowedRoutes := by
  unfold Obligations.CandidateListHoldsTheBestAllowedRoutes
  refine ⟨fun s => buildList_spec, fun s => ?_⟩
  intro bonus own relay listed
  have types (r : Option RadioType) : (typeBonus r : Int) = bonus r := typeBonus_eq r ⟨rfl, rfl, rfl, rfl, rfl⟩
  have owns (e : NetEntry) : own e = ownScore e := by
    rw [ownScore, routeScore_eq_max_rawScore, rawScore, types, agePenalty]
    cases h : e.level <;> simp [own, scoreLevel, h]
  have relays (n : NeighbourEntry) (i : ReachItem) :
      relay n i = (relayCandidate s.cfg.record.relayPenalty n i).score := by
    rw [relayCandidate_score, types]
  exact buildList_forms s owns relays

end Sys2Proof.Machine
end

section
/-! What the taking of routes and the end of an attempt leave of the call record, the connections and the lamp
(R10 to R13, R17, R26). -/

namespace Sys2Proof.Machine

/-! ### A request to join, made again (R167) -/

/-- R168: serving what waits leaves the connections of owners that wait for none. -/
theorem serveWaiting_keeps (n : Nat) (x : Xpt) {j : Join} (joined : j ∈ x.joins) (idle : ∀ w ∈ x.waiting, w.owner ≠ j.owner) :
    j ∈ (Xpt.serveWaiting n x).joins ∧ ∀ w ∈ (Xpt.serveWaiting n x).waiting, w.owner ≠ j.owner := by
  induction n generalizing x with
  | zero => exact ⟨joined, idle⟩
  | succ n ih =>
    rw [Xpt.serveWaiting]
    split
    · rename_i w hw
      refine ih _ ?_ fun v hv => idle v (List.mem_of_mem_filter hv)
      have ne : j.owner ≠ w.owner := (idle w (List.mem_of_find?_eq_some hw)).symm
      simp [Xpt.make, joined, ne]
    · exact ⟨joined, idle⟩

theorem Join.samePair_self (j : Join) : j.samePair j = true := by simp [Join.samePair]

/-- R167: a request for the connection that stands, with no other request of its owner waiting. -/
theorem Xpt.join_same {x : Xpt} {j : Join} (can : isJoinable j.x j.y = true) (joined : j ∈ x.joins)
    (idle : ∀ w ∈ x.waiting, w.owner ≠ j.owner) (now : Nat) : x.join j now = x := by
  have none : (x.waiting.filter fun k => k.owner != j.owner) = x.waiting :=
    List.filter_eq_self.2 fun w hw => by simpa using idle w hw
  rw [Xpt.join_stands can (List.any_eq_true.2 ⟨j, joined, by simp [Join.samePair_self]⟩), none]

/-- R167: the same request, made again at once, changes nothing. -/
theorem Xpt.join_join (x : Xpt) (j : Join) (now later : Nat) : (x.join j now).join j later = x.join j now := by
  cases can : isJoinable j.x j.y with
  | false => rw [Xpt.join_never can, Xpt.join_never can]
  | true =>
    cases stands : x.joins.any fun k => k.owner == j.owner && k.samePair j with
    | true =>
      let quiet : Xpt := { x with waiting := x.waiting.filter fun k => k.owner != j.owner }
      rw [Xpt.join_stands can stands, Xpt.join_stands (x := quiet) can stands]
      simp [quiet]
    | false =>
      cases makes : x.canMake j with
      | false =>
        let waits : Xpt := { x with waiting := (x.waiting.filter fun k => k.owner != j.owner) ++ [j] }
        rw [Xpt.join_waits can stands makes, Xpt.join_waits (x := waits) can stands ((Xpt.canMake_congr rfl j).trans makes)]
        simp [waits]
      | true =>
        let quiet : Xpt := { x with waiting := x.waiting.filter fun k => k.owner != j.owner }
        have made : x.join j now = x.cueAfter ((quiet.make j).serveWaiting quiet.waiting.length) now := by
          have : quiet.canMake j = true := (Xpt.canMake_congr rfl j).trans makes
          simp [Xpt.join, can, stands, this, quiet]
        obtain ⟨joined, idle⟩ := serveWaiting_keeps quiet.waiting.length (quiet.make j) (j := j) (by simp [Xpt.make])
          (by simp [Xpt.make, quiet])
        obtain ⟨joins, waiting⟩ := cueAfter_lists x ((quiet.make j).serveWaiting quiet.waiting.length) now
        rw [made]
        exact Xpt.join_same can (joins ▸ joined) (waiting ▸ idle) later

theorem joinTone_joinTone (s : State) : s.joinTone.joinTone.xpt = s.joinTone.xpt :=
  Xpt.join_join s.xpt { x := .handset, y := .tone, owner := .localCall } s.clock.now s.clock.now

theorem joinTone_congr {s t : State} (xpt : t.xpt = s.xpt) (clock : t.clock = s.clock) : t.joinTone.xpt = s.joinTone.xpt :=
  xptJoin_congr _ _ _ xpt clock

/-! ### A LOCAL claim touches slot records alone (R68, R69) -/

theorem requestDial_only (s : State) (sl : Slot) (h : Holder) (code : Nat) : s.OnlySlots (s.requestDial sl h code) := by
  unfold State.requestDial
  split
  · exact .setSlot ..
  · exact .refl s

theorem placeClaim_only (s : State) (sl : Slot) (k : LocalClaim) : s.OnlySlots (s.placeClaim sl (.localCall k)) := by
  have claimed : s.OnlySlots (s.setSlot sl (SlotRec.addClaim (.localCall k))) := .setSlot ..
  have waits : ((s.setSlot sl (SlotRec.addClaim (.localCall k))).slot sl).waitingLocal = some k := by
    rw [State.setSlot_slot, (settleIdle_fields ..).2.2.1]
    rfl
  unfold State.placeClaim
  dsimp only
  split
  · split
    · exact claimed.trans (.setSlot ..)
    · exact claimed
  · refine claimed.trans ?_
    unfold State.arbiter
    split
    · rw [waits]
      cases k with
      | dial => exact .trans (.setSlot ..) (requestDial_only ..)
      | emergencyScan => exact .setSlot ..
    · exact .refl _

/-! ### The taking of routes (R10, R13, R17) -/

/-- R171: the sample timer as a record enters a state. -/
def State.busySpm (s : State) : Spm := if s.ple.state = .idle then s.cutSampleTimer.spm else s.spm

theorem enterCallState_spm (s : State) (st : CallState) : (s.enterCallState st).spm = s.busySpm := by
  unfold State.enterCallState State.busySpm
  split <;> rfl

/-- R164: the lamp as a record enters a state of the SLOW mode: the call point's other fields stand. -/
def Cpi.SlowLamp (c d : Cpi) : Prop :=
  d = { c with lamp := .slow, lampLit := d.lampLit, lampCadence := d.lampCadence, fastFlash := none, outLamp := d.outLamp }

theorem setLamp_slow (c : Cpi) (now : Nat) : c.SlowLamp ({ c with fastFlash := none }.setLamp .slow now) := by
  unfold Cpi.SlowLamp Cpi.setLamp
  by_cases h : c.lamp = .slow <;> simp [h]

theorem enterCallState_cpi (s : State) (st : CallState) :
    (s.enterCallState st).cpi = { s.cpi with fastFlash := none }.setLamp (lampOf st) s.clock.now := by
  unfold State.enterCallState
  split <;> rfl

theorem enterCallState_slow (s : State) {st : CallState} (slow : lampOf st = .slow) :
    s.cpi.SlowLamp (s.enterCallState st).cpi := by
  rw [enterCallState_cpi, slow]
  exact setLamp_slow ..

theorem Cpi.SlowLamp.trans {c d e : Cpi} (h : c.SlowLamp d) (g : d.SlowLamp e) : c.SlowLamp e := by
  unfold Cpi.SlowLamp at *
  rw [g, h]

/-- A call point that differs in the OUT lamp alone. -/
theorem Cpi.SlowLamp.outLamp {c d : Cpi} (h : c.SlowLamp d) (out : Bool) : c.SlowLamp { d with outLamp := out } := by
  unfold Cpi.SlowLamp at *
  rw [h]

/-- No timer of an attempt runs and no trunk is held (R1). -/
def Ple.Stopped (p : Ple) : Prop :=
  p.trunk = none ∧ p.answerTimer = none ∧ p.holdRefresh = none ∧ p.carrierSilence = none ∧ p.ringLimit = none

/-- R10 to R13, R17: what the taking of routes leaves of everything but the slots and the line, from `v` to `t`. -/
structure State.Goes (v t : State) : Prop where
  ple : t.ple = { v.ple with
    state := t.ple.state, route := t.ple.route, tried := t.ple.tried, attempts := t.ple.attempts, trunk := t.ple.trunk,
    answerTimer := t.ple.answerTimer, holdRefresh := t.ple.holdRefresh, carrierSilence := t.ple.carrierSilence,
    ringLimit := t.ple.ringLimit, pauseTimer := t.ple.pauseTimer }
  stops : v.ple.Stopped → t.ple.trunk = none ∧ t.ple.holdRefresh = none ∧ t.ple.carrierSilence = none ∧ t.ple.ringLimit = none
  state : t.ple.state = .dialling ∨ t.ple.state = .relaying ∨ t.ple.state = .waiting
  answer : v.ple.Stopped → t.ple.state ≠ .relaying → t.ple.answerTimer = none
  pause : t.ple.state ≠ .waiting → t.ple.pauseTimer = v.ple.pauseTimer
  xpt : t.xpt = v.joinTone.xpt
  cpi : v.cpi.SlowLamp t.cpi
  spm : t.spm = v.busySpm
  cye : t.cye = v.cye

theorem enterWaiting_goes (v : State) : v.Goes v.enterWaiting := by
  refine ⟨by simp, fun ⟨trunk, _, hold, silence, ring⟩ => by simp [trunk, hold, silence, ring], by simp,
    fun ⟨_, answer, _⟩ _ => by simp [answer], fun e => absurd (by simp) e, ?_, ?_, ?_, by simp⟩
  · exact joinTone_congr (s := v) (by simp) (by simp)
  · exact enterCallState_slow v rfl
  · exact enterCallState_spm v .waiting

theorem beginRelay_goes (v : State) (c : Candidate) (n : Nat) :
    v.Goes ((v.beginAttempt c).beginRelay n c.code) := by
  refine ⟨by simp [State.beginRelay, State.setPle],
    fun ⟨trunk, _, hold, silence, ring⟩ => by simp [State.beginRelay, State.setPle, trunk, hold, silence, ring],
    by simp [State.beginRelay, State.setPle], fun _ e => absurd (by simp [State.beginRelay, State.setPle]) e,
    fun _ => by simp [State.beginRelay, State.setPle], ?_, ?_, ?_, by simp⟩
  · simp only [State.beginRelay, State.setPle_frame, State.hand_frame]
    exact joinTone_congr (by simp) (by simp)
  · have := enterCallState_slow (v.beginAttempt c) (st := .relaying) rfl
    simpa [State.beginRelay] using this
  · simp only [State.beginRelay, State.setPle_frame, State.hand_frame, State.joinTone_frame, enterCallState_spm]
    simp [State.busySpm, State.cutSampleTimer]

theorem beginOwn_goes (v : State) (c : Candidate) (sl : Slot) : v.Goes ((v.beginAttempt c).beginOwn sl) := by
  have only := placeClaim_only (((v.beginAttempt c).enterCallState .dialling).joinTone) sl .dial
  refine ⟨by simp [State.beginOwn],
    fun ⟨trunk, _, hold, silence, ring⟩ => by simp [State.beginOwn, trunk, hold, silence, ring],
    by simp [State.beginOwn], fun ⟨_, answer, _⟩ _ => by simp [State.beginOwn, answer],
    fun _ => by simp [State.beginOwn], ?_, ?_, ?_, ?_⟩
  · exact (only.read State.xpt).trans (joinTone_congr (by simp) (by simp))
  · have slow := enterCallState_slow (v.beginAttempt c) (st := .dialling) rfl
    have cpi := only.read State.cpi
    simp only [State.beginOwn]
    rw [cpi]
    simpa using slow.outLamp _
  · exact (only.read State.spm).trans ((enterCallState_spm (v.beginAttempt c) .dialling).trans (by simp [State.busySpm, State.cutSampleTimer]))
  · exact (only.read State.cye).trans (by simp)

/-- A route that is skipped changes what the rest of the taking does not read. -/
theorem State.Goes.after {v w t : State} (h : w.Goes t)
    (ple : w.ple = { v.ple with
      state := w.ple.state, route := w.ple.route, tried := w.ple.tried, attempts := w.ple.attempts, trunk := none,
      answerTimer := none, holdRefresh := none, carrierSilence := none, ringLimit := none })
    (state : w.ple.state = v.ple.state ∧ w.cpi = v.cpi ∧ w.spm = v.spm ∨
      w.ple.state ≠ .idle ∧ v.cpi.SlowLamp w.cpi ∧ w.spm = v.busySpm)
    (xpt : w.xpt = v.joinTone.xpt) (clock : w.clock = v.clock) (cye : w.cye = v.cye) : v.Goes t := by
  have stopped : w.ple.Stopped := by
    rw [ple]
    exact ⟨rfl, rfl, rfl, rfl, rfl⟩
  refine ⟨?_, fun _ => h.stops stopped, h.state, fun _ => h.answer stopped, fun e => by rw [h.pause e, ple], ?_, ?_, ?_,
    h.cye.trans cye⟩
  · rw [h.ple, ple]
  · refine h.xpt.trans ((joinTone_congr xpt ?_).trans (joinTone_joinTone v))
    rw [clock, (State.joinTone_frame v).2.1]
  · obtain ⟨-, cpi, -⟩ | ⟨-, cpi, -⟩ := state
    · exact cpi ▸ h.cpi
    · exact cpi.trans h.cpi
  · rw [h.spm]
    obtain ⟨st, -, spm⟩ | ⟨st, -, spm⟩ := state
    · unfold State.busySpm State.cutSampleTimer
      rw [st, spm, clock]
      rfl
    · rw [State.busySpm, if_neg st, spm]

/-- R10 to R13, R17: the taking of routes. -/
theorem tryRoutes_goes (cs : List Candidate) (v : State) : v.Goes (State.tryRoutes cs v) := by
  induction cs generalizing v with
  | nil => exact enterWaiting_goes v
  | cons c cs ih =>
    rw [State.tryRoutes]
    split
    · refine (ih _).after ?_ (.inl ⟨by simp [Ple.stopAttemptTimers], by simp, by simp⟩) ?_ (by simp) (by simp)
      · simp [Ple.stopAttemptTimers]
      · exact joinTone_congr (by simp) (by simp)
    · split
      · exact beginRelay_goes v c _
      · split
        · refine (ih _).after ?_ (.inr ⟨by simp [Ple.stopAttemptTimers], ?_, ?_⟩) ?_ (by simp) (by simp)
          · simp [Ple.stopAttemptTimers]
          · simpa using enterCallState_slow (v.beginAttempt c) (st := .dialling) rfl
          · simp [enterCallState_spm, State.busySpm, State.cutSampleTimer]
          · refine (joinTone_congr (s := ((v.beginAttempt c).enterCallState .dialling).joinTone) (by simp) (by simp)).trans ?_
            exact (joinTone_joinTone _).trans (joinTone_congr (by simp) (by simp))
        · exact beginOwn_goes v c _

end Sys2Proof.Machine
end

section
/-! The end of an attempt, the start of a round, and the end of a call, each against what its statement says of it
(R6, R7, R9 to R12, R16, R26 to R28). -/

namespace Sys2Proof.Machine

/-! ### The outcome of an attempt (R25) -/

theorem reportOutcome_box {s : State} {n : Nat} {code : Option Nat} (route : s.ple.route = some ⟨.box n, code⟩)
    (o : Machine.Outcome) : s.reportOutcome o = s.reportNeighbour n (relayReport o) := by
  simp only [State.reportOutcome, route]

theorem reportOutcome_slot {s : State} {sl : Slot} {code : Nat} (route : s.ple.route = some ⟨.slot sl, some code⟩)
    (o : Machine.Outcome) : s.reportOutcome o = s.reportEntry sl code (ownReport o) := by
  simp only [State.reportOutcome, route]

/-- R25: a route without a network code has no entry to charge (log 16). -/
theorem reportOutcome_codeless {s : State} {sl : Slot} (route : s.ple.route = some ⟨.slot sl, none⟩) (o : Machine.Outcome) :
    s.reportOutcome o = s := by
  simp only [State.reportOutcome, route]

/-- R43, R139: a report at a neighbour. -/
theorem reportNeighbour_eq (s : State) (n : Nat) (r : Report) : s.reportNeighbour n r =
    s.withNbt (s.nbt.map fun e => if e.addr = n then { e with quality := e.quality.report s.clock.now r } else e) := rfl

/-! ### The end of an attempt (R26) -/

theorem clearAttempt_stopped (s : State) : s.clearAttempt.ple.Stopped := by
  rw [clearAttempt_ple]
  exact ⟨rfl, rfl, rfl, rfl, rfl⟩

/-- R26: the attempt cleared and the routes not yet tried taken. -/
theorem clearAttempt_nextAttempt_ends {v : State} (active : v.ple.state ≠ .idle) :
    v.EndsAttempt v.clearAttempt.nextAttempt v.clock.now := by
  have goes := tryRoutes_goes (v.clearAttempt.rsl.filter fun c => !v.clearAttempt.ple.tried.contains c.route) v.clearAttempt
  have stopped := clearAttempt_stopped v
  have takes := nextAttempt_takes v.clearAttempt
  change v.clearAttempt.Goes v.clearAttempt.nextAttempt at goes
  obtain ⟨-, clock, cpi, slc, nwt, nbt, adv, rsl, cye, tkm, lnc, spm, cfg, svc, -⟩ := State.clearAttempt_frame v
  obtain ⟨-, -, nwt', nbt', adv', rsl', tkm', cfg', svc', -⟩ := State.nextAttempt_frame v.clearAttempt
  have tried : v.clearAttempt.ple.tried = v.ple.tried := by simp [Ple.stopAttemptTimers]
  have untried : (v.clearAttempt.rsl.filter fun c => !v.clearAttempt.ple.tried.contains c.route) =
      v.rsl.filter fun c => c.route ∉ v.ple.tried := by
    rw [rsl, tried]
    exact List.filter_congr fun c _ => by simp
  rw [untried, clock] at takes
  refine ⟨?_, goes.answer stopped, fun e => ?_, ?_, ?_, ?_, rsl'.trans rsl, svc'.trans svc, tkm'.trans tkm, goes.cye.trans cye,
    nwt'.trans nwt, nbt'.trans nbt, adv'.trans adv, ?_, cfg'.trans cfg⟩
  · obtain ⟨trunk, hold, silence, ring⟩ := goes.stops stopped
    have := goes.ple
    rw [clearAttempt_ple, trunk, hold, silence, ring] at this
    exact this
  · rw [goes.pause e]
    simp [Ple.stopAttemptTimers]
  · exact TakesRoutes.congr slc nwt nbt lnc cfg (by rw [clock]) (by simp [Ple.stopAttemptTimers]) tried
      (by simp [Ple.stopAttemptTimers]) (by simp [Ple.stopAttemptTimers]) takes
  · rw [goes.xpt]
    refine (joinTone_congr (s := v.joinTone) ?_ (by simp)).trans (joinTone_joinTone v)
    exact joinTone_congr (by simp) (by simp)
  · rw [goes.cpi]
  · rw [goes.spm, State.busySpm, if_neg (by simpa [Ple.stopAttemptTimers] using active), spm]

theorem endAttempt_ends {s : State} (o : Machine.Outcome) (active : s.ple.state ≠ .idle) :
    State.EndsAttempt (s.reportOutcome o) (s.endAttempt o) s.clock.now := by
  have ends := clearAttempt_nextAttempt_ends (v := s.reportOutcome o) (by simpa using active)
  rwa [(State.reportOutcome_frame s o).2.1] at ends

/-- R26, R11: with every route tried, nothing is taken. -/
theorem endAttempt_allTried_leaves {s t : State} (o : Machine.Outcome) (done : t = s.endAttempt o) (all : s.AllTried) :
    t.ple = { s.ple with
      state := .waiting, trunk := none, answerTimer := none, holdRefresh := none, carrierSilence := none,
      ringLimit := none, pauseTimer := some (s.clock.now + s.ple.pauseLength * 1000) } ∧
    t.lnc = (s.reportOutcome o).lnc ∧ t.slc = s.slc := by
  rw [done, endAttempt_allTried _ _ all, clearAttempt_enterWaiting_ple]
  simp

/-! ### The start of a round (R9, R12) -/

/-- R9 to R12: what the start of a round leaves of everything but the slots and the line, from `v` to `t`. -/
structure State.RoundGoes (v t : State) : Prop where
  ple : t.ple = { v.ple with
    state := t.ple.state, route := t.ple.route, tried := t.ple.tried, attempts := t.ple.attempts, rounds := t.ple.rounds,
    awaited := t.ple.awaited, trunk := t.ple.trunk, answerTimer := t.ple.answerTimer, holdRefresh := t.ple.holdRefresh,
    carrierSilence := t.ple.carrierSilence, ringLimit := t.ple.ringLimit, pauseTimer := t.ple.pauseTimer }
  stops : v.ple.Stopped → t.ple.trunk = none ∧ t.ple.holdRefresh = none ∧ t.ple.carrierSilence = none ∧ t.ple.ringLimit = none
  state : t.ple.state = .dialling ∨ t.ple.state = .relaying ∨ t.ple.state = .waiting
  pause : t.ple.state ≠ .waiting → t.ple.pauseTimer = v.ple.pauseTimer
  xpt : t.xpt = v.joinTone.xpt
  cpi : v.cpi.SlowLamp t.cpi
  spm : t.spm = v.busySpm
  cye : t.cye = v.cye

theorem claimEmergency_only (u : State) (sl : Slot) :
    (u.setPle fun p => { p with awaited := p.awaited ++ [sl] }).OnlySlots (u.claimEmergency sl) := placeClaim_only _ _ _

/-- R12: the wait on emergency scans adds to the wait only claims and the slots awaited. -/
theorem waitForScans_stands (s : State) : s.waitForScans.xpt = s.enterWaiting.xpt ∧
    s.waitForScans.cpi = { s.enterWaiting.cpi with outLamp := s.waitForScans.cpi.outLamp } ∧
    s.waitForScans.spm = s.enterWaiting.spm ∧ s.waitForScans.cye = s.enterWaiting.cye := by
  have claim (u : State) (sl : Slot) : (u.claimEmergency sl).xpt = u.xpt ∧
      (u.claimEmergency sl).cpi = { u.cpi with outLamp := (u.claimEmergency sl).cpi.outLamp } ∧
      (u.claimEmergency sl).spm = u.spm ∧ (u.claimEmergency sl).cye = u.cye :=
    have only := claimEmergency_only u sl
    ⟨only.read State.xpt, only.read State.cpi, only.read State.spm, only.read State.cye⟩
  unfold State.waitForScans
  dsimp only
  split_ifs
  · obtain ⟨x, c, p, y⟩ := claim (s.enterWaiting.claimEmergency .a) .b
    obtain ⟨x', c', p', y'⟩ := claim s.enterWaiting .a
    exact ⟨x.trans x', by rw [c, c'], p.trans p', y.trans y'⟩
  · exact claim s.enterWaiting .b
  · exact claim s.enterWaiting .a
  · exact ⟨rfl, rfl, rfl, rfl⟩

theorem startRound_goes (v : State) : v.RoundGoes v.startRound := by
  let w := (v.setPle fun p => { p with rounds := min 255 (p.rounds + 1), tried := [] }).withRsl (buildList v)
  have start : v.startRound = if (buildList v).isEmpty then w.waitForScans else w.nextAttempt := rfl
  have xpt : w.joinTone.xpt = v.joinTone.xpt := joinTone_congr rfl rfl
  rw [start]
  split
  · have goes := enterWaiting_goes w
    obtain ⟨claims, -⟩ := waitForScans_claims w
    obtain ⟨x, c, p, y⟩ := waitForScans_stands w
    refine ⟨by rw [claims, enterWaiting_ple]; rfl, fun h => ?_, by simp [claims], fun e => absurd (by simp [claims]) e, x.trans (goes.xpt.trans xpt), ?_,
      p.trans goes.spm, y.trans goes.cye⟩
    · rw [claims]
      exact goes.stops h
    · rw [c]
      exact goes.cpi.outLamp _
  · have goes := tryRoutes_goes (w.rsl.filter fun c => !w.ple.tried.contains c.route) w
    change w.Goes w.nextAttempt at goes
    exact ⟨by rw [goes.ple]; rfl, goes.stops, goes.state, goes.pause, goes.xpt.trans xpt, goes.cpi, goes.spm, goes.cye⟩

/-- R10, R11: the routes are taken up to the first that is not skipped, or all are skipped. -/
theorem State.TakesRoutes.cases {v t : State} {now : Nat} {cs : List Candidate} (h : v.TakesRoutes t now cs) :
    (∃ pre c post, cs = pre ++ c :: post ∧ t.ple.tried = v.ple.tried ++ (pre ++ [c]).map Candidate.route ∧
      t.ple.attempts = min 255 (v.ple.attempts + (pre.length + 1)) ∧ v.Begins t now c) ∨
    (∀ d ∈ cs, v.Skips d) ∧ t.slc = v.slc ∧
      (v.ple.attempts ≤ 255 → t.ple.attempts = min 255 (v.ple.attempts + cs.length)) := by
  classical
  by_cases all : ∀ d ∈ cs, v.Skips d
  · obtain ⟨-, attempts, -, -, -, slc⟩ := h.2 all
    exact .inr ⟨all, slc, attempts⟩
  · obtain ⟨pre, c, post, split, skipped, begins⟩ : ∃ pre c post, cs = pre ++ c :: post ∧ (∀ d ∈ pre, v.Skips d) ∧
        ¬ v.Skips c := by
      clear h
      induction cs with
      | nil => simp at all
      | cons c cs ih =>
        by_cases hc : v.Skips c
        · obtain ⟨pre, d, post, rfl, skipped, begins⟩ := ih fun rest => all (List.forall_mem_cons.2 ⟨hc, rest⟩)
          exact ⟨c :: pre, d, post, rfl, List.forall_mem_cons.2 ⟨hc, skipped⟩, begins⟩
        · exact ⟨[], c, cs, rfl, by simp, hc⟩
    obtain ⟨tried, attempts, begun⟩ := h.1 pre c post split skipped begins
    exact .inl ⟨pre, c, post, split, tried, attempts, begun⟩

/-- R12: the taking of routes places no emergency-scan claim. -/
theorem State.TakesRoutes.noEmergency {v t : State} {now : Nat} {cs : List Candidate} (h : v.TakesRoutes t now cs)
    (none : ∀ sl, (v.slot sl).waitingLocal ≠ some .emergencyScan) (sl : Slot) :
    (t.slot sl).waitingLocal ≠ some .emergencyScan := by
  obtain ⟨pre, c, post, -, -, -, -, begun⟩ | ⟨-, slc, -⟩ := h.cases
  · cases via : c.via with
    | box n =>
      rw [via] at begun
      rw [slot_of_slc begun.2.2.2]
      exact none sl
    | slot k =>
      rw [via] at begun
      obtain ⟨-, -, claims, other⟩ := begun
      by_cases hk : sl = k
      · subst hk
        unfold State.ClaimsLocal at claims
        split_ifs at claims
        · simp [claims.1]
        · simp [claims.1]
        · simp [claims.1]
      · rw [slot_ne hk, other, ← slot_ne hk]
        exact none sl
  · rw [slot_of_slc slc]
    exact none sl

end Sys2Proof.Machine
end

section
/-! The end of a pause (R11, R12). -/

namespace Sys2Proof.Machine

/-- R12: an emergency-scan claim withdrawn: the other claims and the rest of the slots stand. -/
theorem withdrawEmergency_slot (s : State) (sl : Slot) :
    ((s.withdrawEmergency sl).slot sl).waitingLocal ≠ some .emergencyScan ∧
    ((s.withdrawEmergency sl).slot sl).state = (s.slot sl).state ∧
    ((s.withdrawEmergency sl).slot sl).sent = (s.slot sl).sent ∧
    (s.withdrawEmergency sl).slot (otherSlot sl) = s.slot (otherSlot sl) := by
  unfold State.withdrawEmergency
  split
  · simp [State.withdrawLocal, settleIdle_fields]
  · exact ⟨‹_›, rfl, rfl, rfl⟩

theorem withdrawEmergency_both (s : State) (sl : Slot) :
    (((s.withdrawEmergency .a).withdrawEmergency .b).slot sl).waitingLocal ≠ some .emergencyScan ∧
    (((s.withdrawEmergency .a).withdrawEmergency .b).slot sl).state = (s.slot sl).state ∧
    (((s.withdrawEmergency .a).withdrawEmergency .b).slot sl).sent = (s.slot sl).sent := by
  obtain ⟨none, state, sent, other⟩ := withdrawEmergency_slot s .a
  obtain ⟨none', state', sent', other'⟩ := withdrawEmergency_slot (s.withdrawEmergency .a) .b
  simp only [otherSlot] at other other'
  cases sl
  · rw [other']
    exact ⟨none, state, sent⟩
  · rw [state', sent', other]
    exact ⟨none', rfl, rfl⟩

/-- R38, R39: of the slots, a build of the candidate list reads the states alone. -/
theorem buildList_states {s t : State} (states : ∀ sl, (t.slot sl).state = (s.slot sl).state) (networks : t.nwt = s.nwt)
    (neighbours : t.nbt = s.nbt) (cfg : t.cfg = s.cfg) : buildList t = buildList s := by
  have relay : relayRoutes t = relayRoutes s := by
    funext n
    simp only [relayRoutes, cfg, own_of_cfg cfg]
  simp only [buildList, ownRoutes, states, table_of_nwt networks, cfg, neighbours, relay]

/-- R11: the record at the end of a pause, as the next round starts. -/
def State.pauseEnded (s : State) : State :=
  ((s.withdrawEmergency .a).withdrawEmergency .b).setPle fun p =>
    { p with awaited := [], pauseTimer := none, pauseLength := nextPause p.pauseLength }

theorem endWaiting_eq (s : State) : s.endWaiting = s.pauseEnded.startRound := rfl

theorem pauseEnded_ple (s : State) :
    s.pauseEnded.ple = { s.ple with awaited := [], pauseTimer := none, pauseLength := nextPause s.ple.pauseLength } := by
  simp [State.pauseEnded, State.setPle]

@[simp] theorem pauseEnded_slc (s : State) : s.pauseEnded.slc = ((s.withdrawEmergency .a).withdrawEmergency .b).slc := by
  simp [State.pauseEnded, State.setPle]

@[simp] theorem State.pauseEnded_frame (s : State) :
    s.pauseEnded.clock = s.clock ∧ s.pauseEnded.nwt = s.nwt ∧ s.pauseEnded.nbt = s.nbt ∧ s.pauseEnded.adv = s.adv ∧
    s.pauseEnded.lnc = s.lnc ∧ s.pauseEnded.tkm = s.tkm ∧ s.pauseEnded.cfg = s.cfg ∧ s.pauseEnded.svc = s.svc := by
  simp [State.pauseEnded, State.setPle]

theorem buildList_pauseEnded (s : State) : buildList s.pauseEnded = buildList s := by
  refine buildList_states (fun sl => ?_) (by simp) (by simp) (by simp)
  rw [slot_of_slc (pauseEnded_slc s)]
  exact (withdrawEmergency_both s sl).2.1

/-- R11, R12: the round that the end of a wait starts. -/
theorem endWaiting_starts (s : State) : State.StartsRound (((s.withdrawEmergency .a).withdrawEmergency .b).withPle
    { s.ple with awaited := [], pauseLength := nextPause s.ple.pauseLength }) s.endWaiting s.clock.now := by
  have starts := startRound_starts s.pauseEnded
  rw [(State.pauseEnded_frame s).1] at starts
  exact StartsRound.congr (by simp) (by simp) (by simp) (by simp) (by simp) (by simp) (by simp [pauseEnded_ple])
    (by simp [pauseEnded_ple]) (by simp [pauseEnded_ple]) (by simp [pauseEnded_ple]) (by simp [pauseEnded_ple]) starts

/-- R11, R12: a round that starts as the wait ends leaves no emergency-scan claim but on an empty list. -/
theorem endWaiting_noEmergency (s : State) (routes : buildList s ≠ []) (sl : Slot) :
    (s.endWaiting.slot sl).waitingLocal ≠ some .emergencyScan := by
  obtain ⟨-, -, -, takes⟩ := startRound_starts s.pauseEnded
  rw [buildList_pauseEnded] at takes
  refine (takes routes).noEmergency (fun k => ?_) sl
  rw [slot_of_slc (t := s.pauseEnded.setPle _) (pauseEnded_slc s)]
  exact (withdrawEmergency_both s k).1

/-- Settles O29: the round of `endWaiting_starts`, taken at the pause's end. -/
theorem pauseEndsInTheNextRound : Obligations.PauseEndsInTheNextRound := by
  unfold Obligations.PauseEndsInTheNextRound
  intro s at_ due waiting next
  let v := s.advanceTo at_
  have run : exec .pauseTimerExpiry s = .next v.endWaiting := congrArg Host.Outcome.next (expire_due _ due)
  have list : buildList v = buildList s := buildList_congr rfl rfl rfl rfl
  have starts := endWaiting_starts v
  obtain ⟨rsl, rounds, empty, -⟩ := startRound_starts v.pauseEnded
  rw [buildList_pauseEnded, list] at rsl empty
  have goes := startRound_goes v.pauseEnded
  have ple := goes.ple
  rw [pauseEnded_ple] at ple rounds
  rw [← endWaiting_eq] at rsl rounds empty goes ple
  refine ⟨v.endWaiting, run, rounds, by rw [ple]; rfl, rsl, fun none => ?_, fun routes => ?_, starts, by rw [ple]; rfl,
    by rw [ple]; rfl, by rw [ple]; rfl, by rw [ple]; rfl, by rw [ple]; rfl, by rw [ple]; rfl, by rw [ple]; rfl,
    by rw [ple]; rfl, by rw [ple]; rfl, by simp [v], by simp [v], by simp [v], by simp [v], by simp [v]⟩
  · obtain ⟨state, tried, attempts, timer, -⟩ := empty none
    rw [pauseEnded_ple] at attempts timer
    rw [(State.pauseEnded_frame v).1] at timer
    exact ⟨state, tried, attempts, timer⟩
  · refine ⟨goes.state, fun other => ?_, endWaiting_noEmergency v (list ▸ routes)⟩
    rw [goes.pause other, pauseEnded_ple]

end Sys2Proof.Machine
end

section
/-! The release of a slot, the end of an attempt, the close of a call and a loss while TALKING, as the timers of the call
bring them about (R6, R7, R16, R17, R22, R24 to R28, R31, R70, R75). -/

namespace Sys2Proof.Machine

/-! ### Releases (R70) -/

/-- R70, R75: a grant released in the call. -/
theorem release_dropped {s : State} {sl : Slot} {h : Holder} (grant : (s.slot sl).grant = h)
    (state : (s.slot sl).state = .dialling ∨ (s.slot sl).state = .ringing ∨ (s.slot sl).state = .talking) :
    s.release sl h = s.dropped sl := by
  unfold State.release
  rw [if_pos grant]
  obtain state | state | state := state <;> rw [state] <;> rfl

/-- R70: a release by a block that does not hold the grant. -/
theorem release_other {s : State} {sl : Slot} {h : Holder} (grant : (s.slot sl).grant ≠ h) : s.release sl h = s :=
  if_neg grant

/-- R75: a slot given up with a DROP. -/
theorem dropped_slot (s : State) (sl : Slot) : (s.dropped sl).slot sl =
    { s.slot sl with
      state := .clearing, grant := .nobody, request := .drop, deadline := some (s.clock.now + 5000), repeatsDue := 0,
      rung := false, sent := (s.slot sl).sent ++ [.drop], idleTimer := none } := by
  rw [State.dropped, State.setSlot_slot, settleIdle_not_idle _ _ (by simp)]

@[simp] theorem dropped_other (s : State) (sl : Slot) : (s.dropped sl).slot (otherSlot sl) = s.slot (otherSlot sl) := by
  simp [State.dropped]

@[simp] theorem State.dropped_frame (s : State) (sl : Slot) :
    (s.dropped sl).clock = s.clock ∧ (s.dropped sl).xpt = s.xpt ∧ (s.dropped sl).nwt = s.nwt ∧
    (s.dropped sl).nbt = s.nbt ∧ (s.dropped sl).adv = s.adv ∧ (s.dropped sl).rsl = s.rsl ∧ (s.dropped sl).ple = s.ple ∧
    (s.dropped sl).cye = s.cye ∧ (s.dropped sl).tkm = s.tkm ∧ (s.dropped sl).lnc = s.lnc ∧ (s.dropped sl).spm = s.spm ∧
    (s.dropped sl).cfg = s.cfg ∧ (s.dropped sl).svc = s.svc := by
  simp [State.dropped]

/-- R70, R76: a grant released in OFFERED, with nothing waiting at the slot. -/
theorem release_offered {s : State} {sl : Slot} {h : Holder} (grant : (s.slot sl).grant = h)
    (state : (s.slot sl).state = .offered) (quiet : (s.slot sl).NoClaims) :
    s.release sl h = s.setSlot sl fun r => { (r.settled .idle).send .refuse with grant := .nobody } := by
  obtain ⟨noLocal, noCarry, noScan⟩ := quiet
  unfold State.release
  rw [if_pos grant, state]
  refine arbiter_noClaims _ _ ?_
  rw [State.setSlot_slot, settleIdle_eq]
  exact ⟨noLocal, noCarry, noScan⟩

/-! ### A slot that is not free while routes are taken -/

/-- R68: a claim placed on a slot that is neither OFF nor IDLE waits. -/
theorem placeClaim_waits {s : State} {sl : Slot} (c : Claim) (off : (s.slot sl).state ≠ .off) (idle : (s.slot sl).state ≠ .idle) :
    s.placeClaim sl c = s.setSlot sl (SlotRec.addClaim c) := by
  have state : ((s.setSlot sl (SlotRec.addClaim c)).slot sl).state = (s.slot sl).state := by
    rw [State.setSlot_slot, (settleIdle_fields ..).1, addClaim_state]
  unfold State.placeClaim
  rw [if_neg off]
  exact arbiter_busy _ _ (.inl (state ▸ idle))

/-- R10, R68: routes taken leave a slot that is neither OFF nor IDLE as it is, but for a LOCAL claim that waits there. -/
theorem tryRoutes_busySlot (cs : List Candidate) {v : State} {sl : Slot} (off : (v.slot sl).state ≠ .off)
    (idle : (v.slot sl).state ≠ .idle) : (State.tryRoutes cs v).slot sl = { v.slot sl with
      waitingLocal := ((State.tryRoutes cs v).slot sl).waitingLocal, idleTimer := ((State.tryRoutes cs v).slot sl).idleTimer } := by
  induction cs generalizing v with
  | nil => rw [slot_of_slc (s := v) (by simp [State.tryRoutes])]
  | cons c cs ih =>
    have next {w : State} (slc : w.slc = v.slc) := slot_of_slc slc sl ▸ ih (v := w) (by rwa [slot_of_slc slc])
      (by rwa [slot_of_slc slc])
    rw [State.tryRoutes]
    split
    · exact next (by simp)
    · split
      · rename_i n _
        rw [slot_of_slc (s := v) (t := (v.beginAttempt c).beginRelay n c.code) (by simp)]
      · rename_i k _
        split
        · exact next (by simp)
        · have same : ((((v.beginAttempt c).enterCallState .dialling).joinTone).slot sl) = v.slot sl := slot_of_slc (by simp) _
          unfold State.beginOwn
          by_cases at_ : sl = k
          · subst at_
            rw [placeClaim_waits _ (by rwa [same]) (by rwa [same]), State.setSlot_slot, same, settleIdle_eq]
            rfl
          · rw [slot_ne at_, (placeClaim_local _ _ .dial c.code (by simp [Candidate.route])).2, ← slot_ne at_, same]

/-! ### The end of an attempt, by its route (R25, R26) -/

/-- R26: what the end of an attempt leaves as it was. -/
theorem State.EndsAttempt.stands {v t : State} {now : Nat} (h : v.EndsAttempt t now) :
    t.rsl = v.rsl ∧ t.svc = v.svc ∧ t.tkm = v.tkm ∧ t.cye = v.cye ∧ t.nwt = v.nwt ∧ t.nbt = v.nbt ∧ t.adv = v.adv ∧
    t.spm = v.spm ∧ t.cfg = v.cfg := by
  obtain ⟨-, -, -, -, -, -, rest⟩ := h
  exact rest

/-- R25, R26: a relay attempt ends: its neighbour takes the report, and the routes not yet tried are taken. -/
theorem endAttempt_relay {s : State} {n : Nat} {code : Option Nat} (o : Machine.Outcome)
    (route : s.ple.route = some ⟨.box n, code⟩) (active : s.ple.state ≠ .idle) :
    (s.endAttempt o).nbt = (s.nbt.map fun e =>
      if e.addr = n then { e with quality := e.quality.report s.clock.now (relayReport o) } else e) ∧
    State.EndsAttempt (s.withNbt (s.endAttempt o).nbt) (s.endAttempt o) s.clock.now ∧
    (s.AllTried →
      (s.endAttempt o).ple = { s.ple with
        state := .waiting, trunk := none, answerTimer := none, holdRefresh := none, carrierSilence := none,
        ringLimit := none, pauseTimer := some (s.clock.now + s.ple.pauseLength * 1000) } ∧
      (s.endAttempt o).lnc = s.lnc ∧ (s.endAttempt o).slc = s.slc) := by
  have charged : s.reportOutcome o = s.withNbt (s.nbt.map fun e =>
      if e.addr = n then { e with quality := e.quality.report s.clock.now (relayReport o) } else e) :=
    reportOutcome_box route o
  have ends := endAttempt_ends o active
  rw [charged] at ends
  obtain ⟨-, -, -, -, -, nbt, -⟩ := ends.stands
  refine ⟨nbt, by rw [nbt]; exact ends, fun all => ?_⟩
  obtain ⟨ple, lnc, slc⟩ := endAttempt_allTried_leaves o rfl all
  exact ⟨ple, lnc.trans (by rw [charged]; rfl), slc⟩

/-- R25, R26: an own attempt ends: its network entry takes the report. -/
theorem endAttempt_own {s : State} {sl : Slot} {code : Nat} (o : Machine.Outcome)
    (route : s.ple.route = some ⟨.slot sl, some code⟩) (active : s.ple.state ≠ .idle) :
    State.EndsAttempt (s.reportEntry sl code (ownReport o)) (s.endAttempt o) s.clock.now ∧
    (s.endAttempt o).table sl = ((s.table sl).map fun e =>
      if e.code = code then { e with quality := e.quality.report s.clock.now (ownReport o) } else e) ∧
    (s.endAttempt o).table (otherSlot sl) = s.table (otherSlot sl) := by
  have ends := endAttempt_ends o active
  rw [reportOutcome_slot route] at ends
  obtain ⟨-, -, -, -, nwt, -⟩ := ends.stands
  exact ⟨ends, (table_of_nwt nwt sl).trans (tableEvent_table ..), (table_of_nwt nwt _).trans (tableEvent_other ..)⟩

/-- R26, R68: the end of an attempt leaves a slot that is neither OFF nor IDLE as it is, but for a LOCAL claim that waits
there. -/
theorem endAttempt_busySlot {s : State} {k : Slot} (o : Machine.Outcome) (off : (s.slot k).state ≠ .off)
    (idle : (s.slot k).state ≠ .idle) : (s.endAttempt o).slot k = { s.slot k with
      waitingLocal := ((s.endAttempt o).slot k).waitingLocal, idleTimer := ((s.endAttempt o).slot k).idleTimer } := by
  have slot : (s.reportOutcome o).clearAttempt.slot k = s.slot k := slot_of_slc (by simp) _
  have := tryRoutes_busySlot ((s.reportOutcome o).clearAttempt.rsl.filter fun c =>
    !(s.reportOutcome o).clearAttempt.ple.tried.contains c.route) (by rwa [slot]) (by rwa [slot])
  rwa [slot] at this

/-! ### The close of a call (R6, R7) -/

theorem lampAtClose_bell (c : Cpi) (o : LogOutcome) (now : Nat) : (c.lampAtClose o now).bell = c.bell := by
  have setLamp (m : LampMode) : (c.setLamp m now).bell = c.bell := by
    unfold Cpi.setLamp
    split <;> rfl
  unfold Cpi.lampAtClose
  split <;> exact setLamp _

/-- R6, R7: what the close leaves, where the record closed reads as that of `s`. -/
theorem finishCall_closes {s v : State} (o : LogOutcome) (log : v.closeLog o = s.closeLog o)
    (window : v.ple.windowAfterClose = s.ple.windowAfterClose) (svc : v.svc = s.svc) :
    s.ClosesCall (v.finishCall o) v.clock.now o := by
  obtain ⟨joins, waiting⟩ := xptBreak_owner v .localCall
  have ple : (v.finishCall o).ple = { resetPle with window := s.ple.windowAfterClose } := by
    rw [← window]
    simp [State.finishCall]
  have logged : (v.finishCall o).svc = { s.svc with log := (s.closeLog o :: s.svc.log).take 32 } := by
    rw [← log, ← svc]
    simp [State.finishCall, State.logAppend, State.closeLog]
  have lamp : (v.finishCall o).cpi = v.cpi.stopBell.lampAtClose o v.clock.now := by
    simp [State.finishCall]
  refine ⟨ple.trans rfl, logged, ?_, ?_, ?_, ?_⟩
  · simpa [State.finishCall] using joins
  · simpa [State.finishCall] using waiting
  · rw [lamp, lampAtClose_bell]
    rfl
  · rw [lamp]
    unfold Cpi.lampAtClose
    split_ifs <;> simp [fastFlashMs]

/-- What `ClosesCall` reads of the state before. -/
theorem ClosesCall.congr {s v t : State} {now : Nat} {o : LogOutcome} (ple : v.ple = s.ple) (svc : v.svc = s.svc)
    (cfg : v.cfg = s.cfg) (h : v.ClosesCall t now o) : s.ClosesCall t now o := by
  simpa only [State.ClosesCall, ple, svc, cfg] using h

/-! ### The first step of a close (R6) -/

theorem windUp_own {s : State} {sl : Slot} {code : Option Nat} (route : s.ple.route = some ⟨.slot sl, code⟩)
    (state : s.ple.state = .bell ∨ s.ple.state = .ringing ∨ s.ple.state = .talking) (cause : CendCause) :
    s.windUp cause = s.release sl .localCall := by
  obtain state | state | state := state <;> simp only [State.windUp, state, route]

theorem windUp_dialling {s : State} {sl : Slot} {code : Option Nat} (route : s.ple.route = some ⟨.slot sl, code⟩)
    (state : s.ple.state = .dialling) (cause : CendCause) :
    s.windUp cause = (s.withdrawLocal sl).release sl .localCall := by simp only [State.windUp, state, route]

theorem windUp_waiting {s : State} (state : s.ple.state = .waiting) (cause : CendCause) :
    s.windUp cause = (s.withdrawEmergency .a).withdrawEmergency .b := by simp only [State.windUp, state]

theorem windUp_relay {s : State} {n : Nat} (carrier : s.ple.relayCarrier = some n) (cause : CendCause) :
    s.windUp cause = if s.ple.trunk.isSome then s.hand n (.cend s.ple.callId cause) else s := by
  obtain ⟨code, route, state | state | state⟩ := relayCarrier_route carrier <;>
    simp only [State.windUp, state, route, carrier]

theorem windUp_relaying {s : State} (state : s.ple.state = .relaying) (cause : CendCause) :
    (s.windUp cause).slc = s.slc ∧ (s.windUp cause).cye = s.cye ∧ (s.ple.trunk = none → (s.windUp cause).lnc = s.lnc) := by
  cases carrier : s.ple.relayCarrier with
  | some n =>
    rw [windUp_relay carrier]
    split
    · exact ⟨by simp, by simp, fun none => by simp [none] at *⟩
    · exact ⟨rfl, rfl, fun _ => rfl⟩
  | none =>
    have : s.windUp cause = s := by simp only [State.windUp, state, carrier]
    exact ⟨by rw [this], by rw [this], fun _ => by rw [this]⟩

theorem withdrawLocal_slot (s : State) (sl : Slot) : (s.withdrawLocal sl).slot sl =
    { s.slot sl with waitingLocal := none, idleTimer := ((s.withdrawLocal sl).slot sl).idleTimer } := by
  rw [State.withdrawLocal, State.setSlot_slot]
  exact settleIdle_eq ..

/-- R6, R70, R75: what winding up leaves of the attempt in hand. -/
theorem windUp_windsUp (s : State) (cause : CendCause) : s.WindsUp (s.windUp cause) s.clock.now := by
  refine ⟨fun sl code route => ⟨fun state grant call => ?_, fun state grant => ?_⟩, fun state => ?_, fun state => ?_⟩
  · have drops (u : State) (slot : u.slot sl = { s.slot sl with waitingLocal := (u.slot sl).waitingLocal, idleTimer := (u.slot sl).idleTimer })
        (other : u.slot (otherSlot sl) = s.slot (otherSlot sl)) (clock : u.clock = s.clock) (cye : u.cye = s.cye)
        (lnc : u.lnc = s.lnc) (done : s.windUp cause = u.release sl .localCall) :
        ((s.windUp cause).slot sl).state = .clearing ∧ ((s.windUp cause).slot sl).grant = .nobody ∧
        ((s.windUp cause).slot sl).request = .drop ∧ ((s.windUp cause).slot sl).deadline = some (s.clock.now + 5000) ∧
        ((s.windUp cause).slot sl).sent = (s.slot sl).sent ++ [.drop] ∧
        (s.windUp cause).slot (otherSlot sl) = s.slot (otherSlot sl) ∧ (s.windUp cause).cye = s.cye ∧
        (s.windUp cause).lnc = s.lnc := by
      rw [done, release_dropped (by rw [slot]; exact grant) (by rw [slot]; exact call), dropped_slot, dropped_other, other, clock]
      refine ⟨rfl, rfl, rfl, rfl, ?_, rfl, by simp [cye], by simp [lnc]⟩
      rw [slot]
    obtain state | state | state := state
    · refine drops (s.withdrawLocal sl) ?_ (by simp [State.withdrawLocal]) (by simp) (by simp) (by simp)
        (windUp_dialling route state cause)
      rw [withdrawLocal_slot]
    · exact drops s rfl rfl rfl rfl rfl (windUp_own route (.inr (.inl state)) cause)
    · exact drops s rfl rfl rfl rfl rfl (windUp_own route (.inr (.inr state)) cause)
  · have slot := withdrawLocal_slot s sl
    rw [windUp_dialling route state, release_other (by rw [slot]; exact grant), slot]
    exact ⟨rfl, rfl, rfl, rfl, rfl, rfl, by simp [State.withdrawLocal], by simp, by simp⟩
  · exact windUp_relaying state cause
  · rw [windUp_waiting state]
    exact ⟨by simp, by simp, fun sl => withdrawEmergency_both s sl⟩

/-- What `WindsUp` reads of the state after. -/
theorem WindsUp.after {s t u : State} {now : Nat} (h : s.WindsUp t now) (slc : u.slc = t.slc) (cye : u.cye = t.cye)
    (lnc : u.lnc = t.lnc) : s.WindsUp u now := by
  simpa only [State.WindsUp, slot_of_slc slc, slc, cye, lnc] using h

/-- R6, R7: the close of a call. -/
theorem closeCall_closes (s : State) (cause : CendCause) (o : LogOutcome) :
    s.ClosesCall (s.closeCall cause o) s.clock.now o ∧ s.WindsUp (s.closeCall cause o) s.clock.now := by
  have closes := finishCall_closes (s := s) (v := s.windUp cause) o (by simp [State.closeLog]) (by simp) (by simp)
  rw [(State.windUp_frame s cause).2.1] at closes
  exact ⟨closes, WindsUp.after (windUp_windsUp s cause) (by simp [State.closeCall]) (by simp [State.closeCall])
    (by simp [State.closeCall])⟩

/-! ### A loss while TALKING (R27) -/

/-- R27: the loss charged and the grant released. -/
def State.talkLost (s : State) : State :=
  match s.ple.route with
  | some ⟨.slot sl, _⟩ => (s.reportOutcome .lost).release sl .localCall
  | _ => s.reportOutcome .lost

theorem loseTalk_eq (s : State) :
    s.loseTalk = (s.talkLost.setPle fun p => { p.stopAttemptTimers with trunk := none }).resumeOrClose := rfl

@[simp] theorem State.talkLost_frame (s : State) : s.talkLost.clock = s.clock ∧ s.talkLost.ple = s.ple ∧
    s.talkLost.cfg = s.cfg ∧ s.talkLost.svc = s.svc ∧ s.talkLost.rsl = s.rsl ∧ s.talkLost.tkm = s.tkm ∧
    s.talkLost.nbt = (s.reportOutcome .lost).nbt ∧ s.talkLost.nwt = (s.reportOutcome .lost).nwt ∧
    s.talkLost.adv = (s.reportOutcome .lost).adv ∧ s.talkLost.lnc = (s.reportOutcome .lost).lnc := by
  unfold State.talkLost
  split <;> simp

/-- What `Resumes` reads of the state before. -/
theorem Resumes.congr {s v t : State} {now : Nat} (ple : v.ple = s.ple) (svc : v.svc = s.svc) (cfg : v.cfg = s.cfg)
    (h : v.Resumes t now) : s.Resumes t now := by
  simpa only [State.Resumes, ple, svc, cfg] using h

/-- R27: a loss that is not the sixth: the call resumes with a round. -/
theorem loseTalk_resumes {s : State} (few : s.ple.resumptions < 5) :
    s.Resumes s.loseTalk s.clock.now ∧ s.talkLost.StartsRound s.loseTalk s.clock.now ∧
    s.loseTalk.nbt = s.talkLost.nbt ∧ s.loseTalk.nwt = s.talkLost.nwt ∧ s.loseTalk.adv = s.talkLost.adv ∧
    s.loseTalk.tkm = s.tkm := by
  let u := s.talkLost.setPle fun p => { p.stopAttemptTimers with trunk := none }
  let w := u.joinTone.setPle fun p =>
    { p with resumptions := p.resumptions + 1, limitStart := u.cfg.uptime,
             placementLimit := some (u.clock.now + placementLimitMs) }
  have talk : u.ple = { s.ple.stopAttemptTimers with trunk := none } := by simp [u, State.setPle]
  have done : s.loseTalk = w.startRound := by
    rw [loseTalk_eq]
    exact if_pos (by rw [talk]; exact few)
  have clock : w.clock = s.clock := by simp [w, u, State.setPle]
  have cfg : w.cfg = s.cfg := by simp [w, u, State.setPle]
  have record : w.ple = { s.ple.stopAttemptTimers with
      trunk := none, resumptions := s.ple.resumptions + 1, limitStart := s.cfg.uptime,
      placementLimit := some (s.clock.now + 1800000) } := by
    simp [w, u, State.setPle, placementLimitMs, Ple.stopAttemptTimers]
  have goes := startRound_goes w
  have starts := startRound_starts w
  rw [← done] at goes starts
  rw [clock] at starts
  have stops : w.ple.Stopped := by
    rw [record]
    exact ⟨rfl, rfl, rfl, rfl, rfl⟩
  obtain ⟨trunk, hold, silence, -⟩ := goes.stops stops
  have ple := goes.ple
  rw [record] at ple
  refine ⟨⟨by rw [ple], by rw [ple], by rw [ple], trunk, hold, silence, by rw [ple]; rfl, by rw [ple]; rfl,
    by rw [ple]; rfl, by rw [ple]; rfl, by rw [ple]; rfl, by rw [ple]; rfl, by rw [ple]; rfl, by rw [ple]; rfl,
    by rw [goes.cpi], ?_⟩, ?_, ?_⟩
  · simp [done, w, u, State.setPle]
  · exact StartsRound.congr (by simp [w, u, State.setPle]) (by simp [w, u, State.setPle]) (by simp [w, u, State.setPle])
      (by simp [w, u, State.setPle]) (by simp [w, u, State.setPle]) (by simp [w, u, State.setPle])
      (by simp [record, Ple.stopAttemptTimers]) (by simp [record, Ple.stopAttemptTimers])
      (by simp [record, Ple.stopAttemptTimers]) (by simp [record, Ple.stopAttemptTimers])
      (by simp [record, Ple.stopAttemptTimers]) starts
  · rw [done]
    simp [w, u, State.setPle]

/-- R27: the sixth loss closes the call. -/
theorem loseTalk_closes {s : State} (sixth : 5 ≤ s.ple.resumptions) :
    s.ClosesCall s.loseTalk s.clock.now .lost ∧ s.loseTalk.slc = s.talkLost.slc ∧ s.loseTalk.cye = s.talkLost.cye ∧
    s.loseTalk.lnc = s.talkLost.lnc ∧ s.loseTalk.nwt = s.talkLost.nwt ∧ s.loseTalk.nbt = s.talkLost.nbt ∧
    s.loseTalk.adv = s.talkLost.adv ∧ s.loseTalk.rsl = s.rsl := by
  let u := s.talkLost.setPle fun p => { p.stopAttemptTimers with trunk := none }
  have talk : u.ple = { s.ple.stopAttemptTimers with trunk := none } := by simp [u, State.setPle]
  have done : s.loseTalk = u.finishCall .lost := by
    rw [loseTalk_eq]
    exact if_neg (by rw [talk]; exact Nat.not_lt.2 sixth)
  have closes := finishCall_closes (s := s) (v := u) .lost (by simp [State.closeLog, u, State.setPle, Ple.stopAttemptTimers])
    (by rw [talk]; rfl) (by simp [u, State.setPle])
  have clock : u.clock = s.clock := by simp [u, State.setPle]
  rw [clock] at closes
  rw [done]
  refine ⟨closes, ?_⟩
  simp [u, State.setPle]

end Sys2Proof.Machine
end

section
/-! The local call's timers that end an attempt or the call (R17, R19, R22, R24 to R28, R31). -/

namespace Sys2Proof.Machine

/-! ### The moment at which routes are taken -/

theorem advanceTo_again (s : State) (at_ : Nat) :
    (s.advanceTo at_).advanceTo (max s.clock.now at_) = s.advanceTo (max s.clock.now at_) := by
  simp only [State.advanceTo, State.withClock_clock, max_self, ← max_assoc]
  rfl

theorem begins_advanceTo {v t : State} {at_ : Nat} {c : Candidate} :
    (v.advanceTo at_).Begins t (max v.clock.now at_) c ↔ v.Begins t (max v.clock.now at_) c := by
  simp only [State.Begins, advanceTo_again]
  rfl

/-- R10, R17: the moment at which routes are taken may stand ahead of the state's clock. -/
theorem takesRoutes_advanceTo {v t : State} {at_ : Nat} {cs : List Candidate} :
    (v.advanceTo at_).TakesRoutes t (max v.clock.now at_) cs ↔ v.TakesRoutes t (max v.clock.now at_) cs := by
  simp only [State.TakesRoutes, begins_advanceTo]
  rfl

/-- R9: the moment at which a round starts may stand ahead of the state's clock. -/
theorem startsRound_advanceTo {v t : State} {at_ : Nat} :
    (v.advanceTo at_).StartsRound t (max v.clock.now at_) ↔ v.StartsRound t (max v.clock.now at_) := by
  have routes : State.TakesRoutes ((v.advanceTo at_).setPle fun p => { p with tried := [] }) t (max v.clock.now at_) (buildList v) ↔
      State.TakesRoutes (v.setPle fun p => { p with tried := [] }) t (max v.clock.now at_) (buildList v) :=
    takesRoutes_advanceTo (v := v.setPle fun p => { p with tried := [] })
  have list : buildList (v.advanceTo at_) = buildList v := buildList_congr rfl rfl rfl rfl
  unfold State.StartsRound
  rw [list, routes]
  rfl

/-! ### The answer timer and the hold refresh (R17, R19) -/

theorem Ple.relayCarrier_box {p : Ple} {n : Nat} {code : Option Nat} (route : p.route = some ⟨.box n, code⟩)
    (state : p.state = .relaying ∨ p.state = .ringing ∨ p.state = .talking) : p.relayCarrier = some n := by
  obtain state | state | state := state <;> simp only [Ple.relayCarrier, state, route]

theorem exec_answerTimerExpiry {s : State} {at_ : Nat} (due : s.Due s.ple.answerTimer at_) :
    exec .answerTimerExpiry s = .next ((s.advanceTo at_).endAttempt .timeout) := congrArg Host.Outcome.next (expire_due _ due)

theorem exec_requesterHoldRefresh {s : State} {at_ n : Nat} {tr : Trunk} (due : s.Due s.ple.holdRefresh at_)
    (carrier : s.ple.relayCarrier = some n) (trunk : s.ple.trunk = some tr) :
    exec .requesterHoldRefresh s = .next (((s.advanceTo at_).hand 0
      (.thld (trunkNum tr) n s.ownNum s.ple.callId)).withPle
        { s.ple with holdRefresh := some (max s.clock.now at_ + 2000) }) := by
  have own : (s.advanceTo at_).ownNum = s.ownNum := ownNum_of_cfg rfl
  refine congrArg Host.Outcome.next ((expire_due _ due).trans ?_)
  simp [carrier, trunk, State.setPle, own, holdRefreshMs]

/-- Settles O30: the end of a relay attempt as TIMEOUT, and the refresh. -/
theorem relayWaitRefreshesAndTimesOut : Obligations.RelayWaitRefreshesAndTimesOut := by
  unfold Obligations.RelayWaitRefreshesAndTimesOut
  refine ⟨?_, fun s at_ n tr due carrier trunk => exec_requesterHoldRefresh due carrier trunk⟩
  intro s at_ n code due state route now
  let v := s.advanceTo at_
  have active : v.ple.state ≠ .idle := by simp [v, state]
  obtain ⟨nbt, ends, waits⟩ := endAttempt_relay (s := v) .timeout route active
  obtain ⟨rsl, svc, tkm, cye, nwt, -, adv, -, cfg⟩ := ends.stands
  obtain ⟨ple, -, -, takes, -, lamp, -⟩ := ends
  refine ⟨v.endAttempt .timeout, exec_answerTimerExpiry due, nbt, nwt, adv, svc, tkm, cfg, rsl, by rw [ple], by rw [ple],
    by rw [ple], by rw [ple], by rw [ple]; rfl, by rw [ple]; rfl, by rw [ple]; rfl, ?_, fun all => ?_⟩
  · exact (takesRoutes_advanceTo (v := s.withNbt (v.endAttempt .timeout).nbt)).1 takes
  · obtain ⟨waiting, lnc, slc⟩ := waits all
    exact ⟨waiting, lnc, slc, cye, lamp⟩

/-! ### Carrier silence and the ring limit (R16, R22, R24, R27) -/

theorem exec_carrierSilenceExpiry {s : State} {at_ n : Nat} (due : s.Due s.ple.carrierSilence at_)
    (carrier : s.ple.relayCarrier = some n) : exec .carrierSilenceExpiry s = .next
      (if s.ple.state = .talking then ((s.advanceTo at_).hand n (.cend s.ple.callId .lost)).loseTalk
        else ((s.advanceTo at_).hand n (.cend s.ple.callId .lost)).endAttempt .lost) := by
  refine congrArg Host.Outcome.next ((expire_due _ due).trans ?_)
  simp [carrier]

theorem exec_ringLimitExpiry_relay {s : State} {at_ n : Nat} {code : Option Nat} (due : s.Due s.ple.ringLimit at_)
    (route : s.ple.route = some ⟨.box n, code⟩) : exec .ringLimitExpiry s =
      .next (((s.advanceTo at_).hand n (.cend s.ple.callId .limit)).endAttempt .timeout) := by
  refine congrArg Host.Outcome.next ((expire_due _ due).trans ?_)
  simp [route]

theorem exec_ringLimitExpiry_own {s : State} {at_ : Nat} {sl : Slot} {code : Option Nat} (due : s.Due s.ple.ringLimit at_)
    (route : s.ple.route = some ⟨.slot sl, code⟩) : exec .ringLimitExpiry s =
      .next ((s.advanceTo at_).endOwnAttempt sl .timeout) := by
  refine congrArg Host.Outcome.next ((expire_due _ due).trans ?_)
  simp [route]

/-- R26: a relay attempt that ends as LOST or TIMEOUT with CEND, for either of its timers. -/
theorem endAttempt_afterCend {s : State} {at_ n : Nat} {code : Option Nat} (route : s.ple.route = some ⟨.box n, code⟩)
    (active : s.ple.state ≠ .idle) (cause : CendCause) {o : Machine.Outcome} (failure : relayReport o = .failure) :
    let u := (s.advanceTo at_).hand n (.cend s.ple.callId cause)
    let t := u.endAttempt o
    t.nbt = (s.nbt.map fun e =>
      if e.addr = n then { e with quality := e.quality.report (max s.clock.now at_) .failure } else e) ∧
    State.EndsAttempt (u.withNbt t.nbt) t (max s.clock.now at_) ∧
    (s.AllTried →
      t.ple = { s.ple with
        state := .waiting, trunk := none, answerTimer := none, holdRefresh := none, carrierSilence := none,
        ringLimit := none, pauseTimer := some (max s.clock.now at_ + s.ple.pauseLength * 1000) } ∧
      t.lnc = u.lnc ∧ t.slc = s.slc) ∧
    t.nwt = s.nwt ∧ t.adv = s.adv ∧ t.svc = s.svc ∧ t.tkm = s.tkm ∧ t.cye = s.cye ∧ t.rsl = s.rsl := by
  intro u t
  obtain ⟨-, clock, -, -, slc, nwt, nbt, adv, rsl, ple, cye, tkm, -, cfg, svc, -⟩ :=
    State.hand_frame (s.advanceTo at_) n (.cend s.ple.callId cause)
  have now : u.clock.now = max s.clock.now at_ := congrArg Clock.now clock
  obtain ⟨charged, ends, waits⟩ := endAttempt_relay (s := u) o (by rw [ple]; exact route) (by rw [ple]; exact active)
  rw [failure, now, nbt] at charged
  rw [now, ple, slc] at waits
  obtain ⟨rsl', svc', tkm', cye', nwt', -, adv', -⟩ := ends.stands
  rw [now] at ends
  refine ⟨charged, ends, fun all => waits ?_, nwt'.trans nwt, adv'.trans adv, svc'.trans svc, tkm'.trans tkm,
    cye'.trans cye, rsl'.trans rsl⟩
  unfold State.AllTried
  rw [rsl, ple]
  exact all

/-- R16, R24, R70, R75: an own attempt that ends as TIMEOUT has DROP sent, with a failure of its entry. -/
theorem endOwnAttempt_drops {s : State} {sl : Slot} {code : Nat} (route : s.ple.route = some ⟨.slot sl, some code⟩)
    (active : s.ple.state ≠ .idle) (state : (s.slot sl).state = .dialling ∨ (s.slot sl).state = .ringing ∨ (s.slot sl).state = .talking)
    (grant : (s.slot sl).grant = .localCall) :
    let t := s.endOwnAttempt sl .timeout
    (t.slot sl).state = .clearing ∧ (t.slot sl).grant = .nobody ∧ (t.slot sl).request = .drop ∧
    (t.slot sl).deadline = some (s.clock.now + 5000) ∧ (t.slot sl).sent = (s.slot sl).sent ++ [.drop] ∧
    State.EndsAttempt ((s.dropped sl).reportEntry sl code .failure) t s.clock.now ∧
    (s.AllTried → t.slot (otherSlot sl) = s.slot (otherSlot sl) ∧ t.ple.state = .waiting ∧
      t.ple.pauseTimer = some (s.clock.now + s.ple.pauseLength * 1000) ∧ t.ple.attempts = s.ple.attempts) ∧
    t.table sl = ((s.table sl).map fun e =>
      if e.code = code then { e with quality := e.quality.report s.clock.now .failure } else e) ∧
    t.table (otherSlot sl) = s.table (otherSlot sl) := by
  intro t
  let u := s.dropped sl
  obtain ⟨clock, -, nwt, -, -, rsl, ple, -⟩ := State.dropped_frame s sl
  have done : t = u.endAttempt .timeout :=
    congrArg (State.endAttempt · .timeout) (release_dropped grant state)
  have clearing : (u.slot sl).state = .clearing := by rw [dropped_slot]
  obtain ⟨ends, table, other⟩ := endAttempt_own (s := u) .timeout (by rw [ple]; exact route) (by rw [ple]; exact active)
  have slot := endAttempt_busySlot (s := u) .timeout (k := sl) (by rw [clearing]; nofun) (by rw [clearing]; nofun)
  rw [← done, dropped_slot] at slot
  rw [← done] at ends table other
  rw [clock] at ends table
  rw [table_of_nwt nwt] at table other
  refine ⟨by rw [slot], by rw [slot], by rw [slot], by rw [slot], by rw [slot], ends, fun all => ?_, table, other⟩
  obtain ⟨waiting, -, slc⟩ := endAttempt_allTried_leaves (s := u) .timeout done (by
    unfold State.AllTried
    rw [rsl, ple]
    exact all)
  rw [show u.ple = s.ple from ple, show u.clock = s.clock from clock] at waiting
  exact ⟨(slot_of_slc slc _).trans (dropped_other s sl), by rw [waiting], by rw [waiting], by rw [waiting]⟩

theorem carrierSilence_talking {s : State} {at_ n : Nat} {code : Option Nat} (route : s.ple.route = some ⟨.box n, code⟩)
    (due : s.Due s.ple.carrierSilence at_) (state : s.ple.state = .talking) :
    exec .carrierSilenceExpiry s = .next ((s.advanceTo at_).hand n (.cend s.ple.callId .lost)).loseTalk :=
  (exec_carrierSilenceExpiry due (Ple.relayCarrier_box route (.inr (.inr state)))).trans (congrArg _ (if_pos state))

/-- R25, R27: a lost relay charges its neighbour alone. -/
theorem talkLost_relay {s : State} {n : Nat} {code : Option Nat} (route : s.ple.route = some ⟨.box n, code⟩) :
    s.talkLost = s.withNbt (s.nbt.map fun e =>
      if e.addr = n then { e with quality := e.quality.report s.clock.now .failure } else e) := by
  rw [State.talkLost, route]
  exact reportOutcome_box route .lost

/-- Settles O31: the end of an attempt for either of its timers, and the loss while TALKING. -/
theorem silenceAndRingLimitEndTheAttempt : Obligations.SilenceAndRingLimitEndTheAttempt := by
  unfold Obligations.SilenceAndRingLimitEndTheAttempt
  refine ⟨?_, ?_, ?_, ?_⟩
  · intro s at_ n code bySilence route due now u
    cases bySilence with
    | true =>
      obtain ⟨due, state⟩ := due
      have active : s.ple.state ≠ .idle := by obtain state | state := state <;> simp [state]
      have quiet : s.ple.state ≠ .talking := by obtain state | state := state <;> simp [state]
      have carrier := Ple.relayCarrier_box route (state.imp_right .inl)
      exact ⟨u.endAttempt .lost, (exec_carrierSilenceExpiry due carrier).trans (congrArg _ (if_neg quiet)),
        endAttempt_afterCend route active .lost rfl⟩
    | false =>
      obtain ⟨due, state⟩ := due
      exact ⟨u.endAttempt .timeout, exec_ringLimitExpiry_relay due route,
        endAttempt_afterCend route (by simp [state]) .limit rfl⟩
  · intro s at_ code sl due state route ringing grant now
    let v := s.advanceTo at_
    obtain ⟨st, nobody, request, deadline, sent, ends, waits, table, other⟩ :=
      endOwnAttempt_drops (s := v) route (by simp [v, state]) (.inr (.inl (by simpa [v] using ringing))) (by simpa [v] using grant)
    obtain ⟨rsl, svc, tkm, cye, -, nbt, -⟩ := ends.stands
    have ple := ends.1
    refine ⟨v.endOwnAttempt sl .timeout, exec_ringLimitExpiry_own due route, st, nobody, request, deadline,
      by simpa [v] using sent, ends, fun all => by simpa [v] using waits all, by simpa [v] using table,
      by simpa [v] using other, by rw [ple], by rw [ple], ?_⟩
    simp [nbt, cye, v]
  · intro s at_ n code route due state sixth now
    let u := (s.advanceTo at_).hand n (.cend s.ple.callId .lost)
    obtain ⟨-, clock, -, -, slc, nwt, nbt, adv, rsl, ple, cye, -, -, cfg, svc, -⟩ :=
      State.hand_frame (s.advanceTo at_) n (.cend s.ple.callId .lost)
    have lost := talkLost_relay (s := u) (by rw [ple]; exact route)
    obtain ⟨closes, slots, carries, line, networks, neighbours, advert, list⟩ :=
      loseTalk_closes (s := u) (by rw [ple]; exact sixth.ge)
    rw [lost] at slots carries line networks neighbours advert
    rw [clock] at closes neighbours
    refine ⟨u.loseTalk, carrierSilence_talking route due state, neighbours.trans ?_, line,
      ClosesCall.congr ple svc cfg closes, networks.trans nwt, advert.trans adv, by simp [u], slots.trans slc,
      carries.trans cye, list.trans rsl⟩
    rw [nbt]
    rfl
  · intro s at_ n code route due state few now
    let u := (s.advanceTo at_).hand n (.cend s.ple.callId .lost)
    obtain ⟨-, clock, -, -, -, nwt, nbt, adv, -, ple, -, tkm, -, cfg, svc, -⟩ :=
      State.hand_frame (s.advanceTo at_) n (.cend s.ple.callId .lost)
    have lost := talkLost_relay (s := u) (by rw [ple]; exact route)
    obtain ⟨resumes, starts, neighbours, networks, advert, trunks⟩ := loseTalk_resumes (s := u) (by rw [ple]; exact few)
    rw [lost] at neighbours networks advert starts
    rw [clock] at resumes starts neighbours
    obtain ⟨count, start, limit, trunk, hold, silence, callId, origin, lifted, reached, talk, seconds, pause, -, lamp, log⟩ :=
      Resumes.congr ple svc cfg resumes
    refine ⟨u.loseTalk, carrierSilence_talking route due state, neighbours.trans ?_, neighbours ▸ starts, count, start, limit,
      trunk, hold, silence, callId, origin, lifted, reached, talk, seconds, pause, lamp, networks.trans nwt,
      advert.trans adv, log, trunks.trans tkm⟩
    rw [nbt]
    rfl

/-! ### The placement limit and the bell timer (R28, R31) -/

/-- R6: what winding up hands to LNC for a relay attempt that holds a trunk. -/
theorem closeCall_cend {s : State} {n : Nat} {tr : Trunk} (carrier : s.ple.relayCarrier = some n)
    (trunk : s.ple.trunk = some tr) (cause : CendCause) (o : LogOutcome) :
    (s.closeCall cause o).lnc = (s.hand n (.cend s.ple.callId cause)).lnc := by
  have : (s.closeCall cause o).lnc = (s.windUp cause).lnc := by simp [State.closeCall]
  rw [this, windUp_relay carrier, trunk]
  rfl

/-- R6, R31, R76: the close of an offer, with nothing else waiting at the slot. -/
theorem closeCall_offered {s : State} {sl : Slot} {code : Option Nat} (route : s.ple.route = some ⟨.slot sl, code⟩)
    (bell : s.ple.state = .bell) (state : (s.slot sl).state = .offered) (grant : (s.slot sl).grant = .localCall)
    (quiet : (s.slot sl).NoClaims) (cause : CendCause) (o : LogOutcome) :
    ((s.closeCall cause o).slot sl).state = .idle ∧ ((s.closeCall cause o).slot sl).grant = .nobody ∧
    ((s.closeCall cause o).slot sl).sent = (s.slot sl).sent ++ [.refuse] ∧
    (s.closeCall cause o).slot (otherSlot sl) = s.slot (otherSlot sl) ∧
    (s.closeCall cause o).lnc = s.lnc ∧ (s.closeCall cause o).cye = s.cye := by
  have wound := (windUp_own route (.inl bell) cause).trans (release_offered grant state quiet)
  have slot (k : Slot) : (s.closeCall cause o).slot k = (s.windUp cause).slot k := slot_of_slc (by simp [State.closeCall]) k
  rw [slot, slot, wound, State.setSlot_slot, settleIdle_eq, State.setSlot_otherSlot]
  refine ⟨rfl, rfl, rfl, rfl, ?_, ?_⟩ <;> simp [State.closeCall, wound]

theorem exec_placementLimitExpiry {s : State} {at_ : Nat} (due : s.Due s.ple.placementLimit at_) :
    exec .placementLimitExpiry s =
      .next ((s.advanceTo at_).closeCall .limit (if s.ple.reachedTalking then .lost else .noRoute)) :=
  congrArg Host.Outcome.next (expire_due _ due)

theorem exec_bellTimerExpiry {s : State} {at_ : Nat} (due : s.Due s.ple.bellTimer at_) :
    exec .bellTimerExpiry s = .next ((s.advanceTo at_).closeCall .callerCleared .callerCleared) :=
  congrArg Host.Outcome.next (expire_due _ due)

theorem windsUp_advanceTo {s t : State} {at_ now : Nat} (h : (s.advanceTo at_).WindsUp t now) : s.WindsUp t now := h

theorem closesCall_advanceTo {s t : State} {at_ now : Nat} {o : LogOutcome} (h : (s.advanceTo at_).ClosesCall t now o) :
    s.ClosesCall t now o := h

/-- Settles O32: the close by either timer. -/
theorem limitsCloseTheCall : Obligations.LimitsCloseTheCall := by
  unfold Obligations.LimitsCloseTheCall
  refine ⟨?_, ?_⟩
  · intro s at_ due now
    let v := s.advanceTo at_
    obtain ⟨closes, winds⟩ := closeCall_closes v .limit (if s.ple.reachedTalking then .lost else .noRoute)
    refine ⟨_, exec_placementLimitExpiry due, closesCall_advanceTo closes, windsUp_advanceTo winds,
      fun n tr carrier trunk => closeCall_cend (s := v) carrier trunk .limit _, ?_⟩
    simp
  · intro s at_ sl code due bell route state grant quiet
    let v := s.advanceTo at_
    obtain ⟨ple, svc, -, -, silent, lamp, flash⟩ :=
      closesCall_advanceTo (closeCall_closes v .callerCleared .callerCleared).1
    obtain ⟨idle, nobody, sent, other, lnc, cye⟩ := closeCall_offered (s := v) route bell (by simpa [v] using state)
      (by simpa [v] using grant) (by simpa [v] using quiet) .callerCleared .callerCleared
    refine ⟨_, exec_bellTimerExpiry due, by rw [ple]; rfl, silent, lamp, flash, idle, nobody, by simpa [v] using sent,
      by simpa [v] using other, ⟨_, by rw [svc], rfl⟩, ?_, ?_, lnc, cye, ?_⟩ <;> simp

end Sys2Proof.Machine
end

section
/-! What a press, a lift and a replacement do to the local call (R4 to R8, R31). -/

namespace Sys2Proof.Machine

/-! ### Slot operations touch the OUT lamp of the call point alone (R165) -/

/-- R165: two call points that differ in the OUT lamp alone. -/
def Cpi.ButOut (c d : Cpi) : Prop := d = { c with outLamp := d.outLamp }

theorem Cpi.ButOut.refl (c : Cpi) : c.ButOut c := rfl

theorem Cpi.ButOut.trans {c d e : Cpi} (h : c.ButOut d) (g : d.ButOut e) : c.ButOut e := by
  unfold Cpi.ButOut at *
  rw [g, h]

theorem Cpi.ButOut.read {β : Type} {c d : Cpi} (h : c.ButOut d) (f : Cpi → β) : f d = f { c with outLamp := d.outLamp } :=
  congrArg f h

theorem State.OnlySlots.butOut {s t : State} (h : s.OnlySlots t) : s.cpi.ButOut t.cpi := by
  rw [State.OnlySlots] at h
  rw [h]
  rfl

theorem setSlot_butOut (s : State) (sl : Slot) (f : SlotRec → SlotRec) : s.cpi.ButOut (s.setSlot sl f).cpi :=
  State.setSlot_cpi s sl f

theorem grantCarry_butOut (s : State) (sl : Slot) (c : CarryRec) : s.cpi.ButOut (s.grantCarry sl c).cpi := by
  let claimed := s.setSlot sl fun r =>
    { r with waitingCarry := r.waitingCarry.filter (fun i => i != c.id), grant := .carry c.id }
  let joined := claimed.xptJoin (.carry c.id) (.slot sl) (.trunk c.trunk)
  have same : joined.cpi = claimed.cpi := by simp [joined]
  have dialled : (s.grantCarry sl c).cpi = (joined.requestDial sl (.carry c.id) c.code).cpi := by
    rw [State.grantCarry, (State.setCarry_frame ..).2.2.1]
  rw [dialled]
  exact (setSlot_butOut s sl _).trans (same ▸ (requestDial_only joined ..).butOut)

theorem arbiter_butOut (s : State) (sl : Slot) : s.cpi.ButOut (s.arbiter sl).cpi := by
  unfold State.arbiter
  split
  · split
    · exact (setSlot_butOut ..).trans (requestDial_only ..).butOut
    · exact setSlot_butOut ..
    · split
      · exact grantCarry_butOut ..
      · split
        · exact setSlot_butOut ..
        · exact .refl _
  · exact .refl _

theorem release_butOut (s : State) (sl : Slot) (h : Holder) : s.cpi.ButOut (s.release sl h).cpi := by
  unfold State.release
  split
  · split
    case h_1 => exact (setSlot_butOut ..).trans (arbiter_butOut ..)
    case h_5 => exact (setSlot_butOut ..).trans (arbiter_butOut ..)
    all_goals exact setSlot_butOut ..
  · exact .refl _

theorem withdrawEmergency_butOut (s : State) (sl : Slot) : s.cpi.ButOut (s.withdrawEmergency sl).cpi := by
  unfold State.withdrawEmergency
  split
  · exact setSlot_butOut ..
  · exact .refl _

theorem windUp_butOut (s : State) (cause : CendCause) : s.cpi.ButOut (s.windUp cause).cpi := by
  unfold State.windUp
  split
  · exact release_butOut ..
  · exact (setSlot_butOut ..).trans (release_butOut ..)
  · exact release_butOut ..
  · exact release_butOut ..
  · exact (withdrawEmergency_butOut ..).trans (withdrawEmergency_butOut ..)
  · split
    · split
      · rw [(State.hand_frame ..).2.2.1]
        exact .refl _
      · exact .refl _
    · exact .refl _

/-- R6, R161, R162: the close of a call leaves the switches. -/
theorem closeCall_switches (s : State) (cause : CendCause) (o : LogOutcome) :
    (s.closeCall cause o).cpi.button = s.cpi.button ∧ (s.closeCall cause o).cpi.buttonTimer = s.cpi.buttonTimer ∧
    (s.closeCall cause o).cpi.hook = s.cpi.hook ∧ (s.closeCall cause o).cpi.hookTimer = s.cpi.hookTimer := by
  have closed : (s.closeCall cause o).cpi = (s.windUp cause).cpi.stopBell.lampAtClose o (s.windUp cause).clock.now := by
    simp [State.closeCall, State.finishCall]
  have setLamp (c : Cpi) (m : LampMode) (now : Nat) : (c.setLamp m now).button = c.button ∧
      (c.setLamp m now).buttonTimer = c.buttonTimer ∧ (c.setLamp m now).hook = c.hook ∧
      (c.setLamp m now).hookTimer = c.hookTimer := by
    unfold Cpi.setLamp
    split <;> exact ⟨rfl, rfl, rfl, rfl⟩
  rw [closed, windUp_butOut s cause]
  unfold Cpi.lampAtClose
  split <;> exact setLamp ..

/-! ### A replacement (R5, R8) -/

/-- R162: a replacement whose span has run out is raised. -/
theorem exec_hookTimerExpiry_replaced {s : State} {at_ : Nat} (due : s.Due s.cpi.hookTimer at_)
    (hook : s.cpi.hook = .replacePending) : exec .hookTimerExpiry s =
      .next ((s.advanceTo at_).withCpi { s.cpi with hook := .onHook, hookTimer := none }).takeReplacement := by
  refine congrArg Host.Outcome.next ((expire_due _ due).trans ?_)
  simp [hook]

/-- Settles O27: the close, or nothing but the hook state. -/
theorem replacementClearsTheCall : Obligations.ReplacementClearsTheCall := by
  unfold Obligations.ReplacementClearsTheCall
  intro s at_ due hook
  let v := (s.advanceTo at_).withCpi { s.cpi with hook := .onHook, hookTimer := none }
  refine ⟨fun active lifted => ?_, fun unused => ?_⟩
  · let o : LogOutcome := if s.ple.reachedTalking then .talked else .callerCleared
    have done : v.takeReplacement = v.closeCall .callerCleared o := if_pos ⟨active, lifted⟩
    have talked : ¬ (o = .noRoute ∨ o = .lost) := by
      unfold o
      split <;> simp
    obtain ⟨closes, winds⟩ := closeCall_closes v .callerCleared o
    obtain ⟨ple, svc, joins, waiting, bell, lamp⟩ := closes
    rw [if_neg talked] at lamp
    obtain ⟨-, -, hook', timer⟩ := closeCall_switches v .callerCleared o
    refine ⟨v.closeCall .callerCleared o, (exec_hookTimerExpiry_replaced due hook).trans (congrArg _ done), hook', timer, ple,
      ⟨s.closeLog o, by rw [svc]; rfl, rfl, rfl, rfl, rfl, rfl, rfl, rfl, rfl, rfl⟩, lamp.1, lamp.2, bell, joins, waiting,
      fun n tr carrier trunk => ?_, winds, fun sl code route bell grant state quiet => ?_, ?_⟩
    · exact (closeCall_cend (s := v) carrier trunk .callerCleared o).trans (hand_lnc_congr _ _ rfl rfl rfl)
    · have slot (k : Slot) : v.slot k = s.slot k := slot_of_slc rfl k
      obtain ⟨idle, nobody, sent, other, -⟩ := closeCall_offered (s := v) route bell (by rwa [slot]) (by rwa [slot])
        (by rwa [slot]) .callerCleared o
      rw [slot] at sent other
      exact ⟨idle, nobody, sent, other⟩
    · simp [v]
  · refine (exec_hookTimerExpiry_replaced due hook).trans (congrArg _ (if_neg ?_))
    rintro ⟨active, lifted⟩
    obtain idle | off := unused
    · exact active idle
    · exact Bool.false_ne_true (off.symm.trans lifted)

end Sys2Proof.Machine
end

section
/-! What a press and a lift do to the local call (R4, R5, R31). -/

namespace Sys2Proof.Machine

/-! ### A call is started (R2, R4) -/

/-- R2, R4: the record of a call as it starts. -/
def State.opened (s : State) (origin : Origin) : State :=
  (s.openRecord origin).setPle fun p => { p with placementLimit := some (s.clock.now + placementLimitMs) }

theorem startCall_eq (s : State) (origin : Origin) : s.startCall origin = (s.opened origin).startRound := rfl

theorem opened_ple (s : State) (origin : Origin) : (s.opened origin).ple = { resetPle with
    callId := s.svc.nextCallId, origin := origin, limitStart := s.cfg.uptime,
    handsetLifted := hookReadsLifted s.cpi.hook, window := s.ple.window,
    placementLimit := some (s.clock.now + 1800000) } := rfl

theorem opened_buildList (s : State) (origin : Origin) : buildList (s.opened origin) = buildList s :=
  buildList_congr rfl rfl rfl rfl

/-- R9, R10: a first round with routes counts an attempt at least. -/
theorem State.TakesRoutes.attempted {v t : State} {now : Nat} {cs : List Candidate} (h : v.TakesRoutes t now cs)
    (routes : cs ≠ []) (fresh : v.ple.attempts = 0) : 1 ≤ t.ple.attempts := by
  have some : 0 < cs.length := List.length_pos_of_ne_nil routes
  obtain ⟨pre, c, post, -, -, attempts, -⟩ | ⟨-, -, attempts⟩ := h.cases
  · omega
  · have := attempts (by omega)
    omega

/-- R2, R4, R171: what the start of a call leaves of the record, the call point and the supply monitor. -/
theorem startCall_leaves (s : State) (origin : Origin) :
    let t := s.startCall origin
    t.ple = { resetPle with
      callId := s.svc.nextCallId, origin := origin, limitStart := s.cfg.uptime,
      handsetLifted := hookReadsLifted s.cpi.hook, window := s.ple.window,
      placementLimit := some (s.clock.now + 1800000), state := t.ple.state, route := t.ple.route, tried := t.ple.tried,
      attempts := t.ple.attempts, rounds := 1, awaited := t.ple.awaited, trunk := t.ple.trunk,
      answerTimer := t.ple.answerTimer, holdRefresh := t.ple.holdRefresh, carrierSilence := t.ple.carrierSilence,
      ringLimit := t.ple.ringLimit, pauseTimer := t.ple.pauseTimer } ∧
    t.svc = { s.svc with nextCallId := (s.svc.nextCallId + 1) % 256 } ∧ t.rsl = buildList s ∧
    (buildList s = [] → t.ple.state = .waiting ∧ t.ple.pauseTimer = some (s.clock.now + 5000) ∧ t.ple.attempts = 0) ∧
    (buildList s ≠ [] → 1 ≤ t.ple.attempts ∧
      (t.ple.state = .dialling ∨ t.ple.state = .relaying ∨ t.ple.state = .waiting)) ∧
    State.StartsRound (s.withPle { resetPle with callId := s.svc.nextCallId }) t s.clock.now ∧
    s.cpi.SlowLamp t.cpi ∧ t.spm = s.cutSampleTimer.spm := by
  intro t
  have starts := startRound_starts (s.opened origin)
  have goes := startRound_goes (s.opened origin)
  have ple := goes.ple
  have same := starts
  obtain ⟨rsl, rounds, empty, routes⟩ := starts
  rw [opened_buildList] at rsl empty routes
  rw [opened_ple] at ple rounds
  refine ⟨?_, by simp [t, State.startCall, State.openRecord, State.setPle], rsl, fun none => ?_, fun some => ?_, ?_, goes.cpi, goes.spm⟩
  · rw [rounds] at ple
    exact ple
  · obtain ⟨state, -, attempts, timer, -⟩ := empty none
    exact ⟨state, timer.trans (by rw [opened_ple]; simp [resetPle, State.opened]), attempts⟩
  · exact ⟨(routes some).attempted some rfl, goes.state⟩
  · exact StartsRound.congr (w := s.opened origin) rfl rfl rfl rfl rfl rfl rfl rfl rfl rfl rfl same

/-! ### A callback is answered (R31) -/

/-- R31, R76: what the answer of a callback leaves. -/
theorem answerCallback_leaves {s : State} {sl : Slot} {code : Option Nat} (route : s.ple.route = some ⟨.slot sl, code⟩)
    (bell : s.ple.state = .bell) (offered : (s.slot sl).state = .offered) :
    let t := s.answerCallback
    t.ple = { s.ple with
      state := .talking, reachedTalking := true, talkRoute := s.ple.route, bellTimer := none, ringLimit := none,
      placementLimit := none } ∧
    t.cpi.button = s.cpi.button ∧ t.cpi.hook = s.cpi.hook ∧ t.cpi.bell = .silent ∧ t.cpi.bellCadence = none ∧
    t.cpi.lamp = .steady ∧ t.xpt = (s.xptJoin .localCall .handset (.slot sl)).xpt ∧
    (t.slot sl).state = .talking ∧ (t.slot sl).grant = (s.slot sl).grant ∧ (t.slot sl).deadline = none ∧
    (t.slot sl).sent = (s.slot sl).sent ++ [.take] ∧ t.slot (otherSlot sl) = s.slot (otherSlot sl) ∧ t.spm = s.spm := by
  intro t
  let taken := s.setSlot sl fun r => (r.settled .talking).send .take
  have offer : s.takeOffer sl = taken := if_pos offered
  let quiet := taken.withCpi taken.cpi.stopBell
  let joined := quiet.xptJoin .localCall .handset (.slot sl)
  have done : t = joined.enterTalking.setPle fun p => { p with bellTimer := none } := by
    simp only [t, State.answerCallback, route, offer, joined, quiet]
  have busy : joined.ple.state ≠ .idle := by simp [joined, quiet, taken, bell]
  have slc : t.slc = taken.slc := by simp [done, joined, quiet, State.setPle]
  have slot : t.slot sl = { (s.slot sl).settled .talking with sent := (s.slot sl).sent ++ [.take], idleTimer := none } := by
    rw [slot_of_slc slc, State.setSlot_slot, settleIdle_not_idle _ _ (by simp [SlotRec.settled, SlotRec.send])]
    rfl
  have cpi : t.cpi = { taken.cpi.stopBell with fastFlash := none }.setLamp .steady joined.clock.now := by
    rw [done]
    simp only [State.setPle_frame, State.enterTalking, enterCallState_cpi]
    simp [joined, quiet, lampOf]
  have setLamp (c : Cpi) (now : Nat) : (c.setLamp .steady now).button = c.button ∧ (c.setLamp .steady now).hook = c.hook ∧
      (c.setLamp .steady now).bell = c.bell ∧ (c.setLamp .steady now).bellCadence = c.bellCadence := by
    unfold Cpi.setLamp
    split <;> exact ⟨rfl, rfl, rfl, rfl⟩
  obtain ⟨button, hook, silent, cadence⟩ := setLamp { taken.cpi.stopBell with fastFlash := none } joined.clock.now
  have kept : taken.cpi = { s.cpi with outLamp := taken.cpi.outLamp } := setSlot_butOut s sl _
  rw [kept] at button hook
  refine ⟨?_, by rw [cpi, kept]; exact button, by rw [cpi, kept]; exact hook, by rw [cpi]; exact silent,
    by rw [cpi]; exact cadence, by rw [cpi, setLamp_lamp], ?_, ?_, ?_, ?_, ?_, ?_, ?_⟩
  · simp [done, State.setPle, State.enterTalking, joined, quiet, taken]
  · have : t.xpt = joined.xpt := by simp [done, State.setPle]
    rw [this]
    exact xptJoin_congr _ _ _ (by simp [quiet, taken]) (by simp [quiet, taken])
  · rw [slot]
    rfl
  · rw [slot]
    rfl
  · rw [slot]
    rfl
  · rw [slot]
  · rw [slot_of_slc slc]
    exact State.setSlot_otherSlot ..
  · have : t.spm = joined.busySpm := by
      rw [done]
      simp [State.enterTalking, enterCallState_spm]
    rw [this, State.busySpm, if_neg busy]
    simp [joined, quiet, taken]

/-! ### A press ends a pause (R4, R11) -/

/-- What a change of a slot reads. -/
theorem setSlot_slc_congr {s t : State} (slc : t.slc = s.slc) (clock : t.clock = s.clock) (sl : Slot)
    (f : SlotRec → SlotRec) : (t.setSlot sl f).slc = (s.setSlot sl f).slc := by
  refine slc_of_slot fun k => ?_
  by_cases at_ : k = sl
  · rw [at_, State.setSlot_slot, State.setSlot_slot, slot_of_slc slc, clock]
  · rw [slot_ne at_, State.setSlot_otherSlot, State.setSlot_otherSlot, slot_of_slc slc]

/-- What a withdrawal of an emergency-scan claim reads. -/
theorem withdrawEmergency_slc_congr {s t : State} (slc : t.slc = s.slc) (clock : t.clock = s.clock) (sl : Slot) :
    (t.withdrawEmergency sl).slc = (s.withdrawEmergency sl).slc := by
  unfold State.withdrawEmergency
  rw [slot_of_slc slc]
  split
  · exact setSlot_slc_congr slc clock sl _
  · exact slc

/-- R11: what the end of a wait leaves of the record, the call point and the supply monitor. -/
theorem endWaiting_leaves (s : State) :
    let t := s.endWaiting
    t.ple = { s.ple with
      pauseLength := nextPause s.ple.pauseLength, state := t.ple.state, route := t.ple.route, tried := t.ple.tried,
      attempts := t.ple.attempts, rounds := t.ple.rounds, awaited := t.ple.awaited, trunk := t.ple.trunk,
      answerTimer := t.ple.answerTimer, holdRefresh := t.ple.holdRefresh, carrierSilence := t.ple.carrierSilence,
      ringLimit := t.ple.ringLimit, pauseTimer := t.ple.pauseTimer } ∧
    (t.ple.state ≠ .waiting → t.ple.pauseTimer = none) ∧
    t.cpi.button = s.cpi.button ∧ t.cpi.buttonTimer = s.cpi.buttonTimer ∧ (s.ple.state ≠ .idle → t.spm = s.spm) := by
  intro t
  have goes := startRound_goes s.pauseEnded
  have ple := goes.ple
  rw [pauseEnded_ple] at ple
  have cpi : s.cpi.ButOut s.pauseEnded.cpi := by
    unfold State.pauseEnded
    rw [(State.setPle_frame ..).2.2.1]
    exact (withdrawEmergency_butOut ..).trans (withdrawEmergency_butOut ..)
  refine ⟨ple, fun other => ?_, ?_, ?_, fun active => ?_⟩
  · exact (goes.pause other).trans (by rw [pauseEnded_ple])
  · exact (congrArg Cpi.button goes.cpi).trans (cpi.read Cpi.button)
  · exact (congrArg Cpi.buttonTimer goes.cpi).trans (cpi.read Cpi.buttonTimer)
  · refine goes.spm.trans ?_
    rw [State.busySpm, if_neg (by rw [pauseEnded_ple]; exact active)]
    simp [State.pauseEnded]

/-! ### The two switches (R161, R162) -/

theorem exec_buttonTimerExpiry_pressed {s : State} {at_ : Nat} (due : s.Due s.cpi.buttonTimer at_)
    (button : s.cpi.button = .pressPending) : exec .buttonTimerExpiry s =
      .next ((s.advanceTo at_).withCpi { s.cpi with button := .pressed, buttonTimer := none }).takePress := by
  refine congrArg Host.Outcome.next ((expire_due _ due).trans ?_)
  simp [button]

theorem exec_hookTimerExpiry_lifted {s : State} {at_ : Nat} (due : s.Due s.cpi.hookTimer at_)
    (hook : s.cpi.hook = .liftPending) : exec .hookTimerExpiry s =
      .next ((s.advanceTo at_).withCpi { s.cpi with hook := .lifted, hookTimer := none }).takeLift := by
  refine congrArg Host.Outcome.next ((expire_due _ due).trans ?_)
  simp [hook]

/-- The switch that has moved, as its span runs out (R161, R162). -/
def Cpi.switched (c : Cpi) (byHandset : Bool) : Cpi :=
  if byHandset then { c with hook := .lifted, hookTimer := none } else { c with button := .pressed, buttonTimer := none }

theorem exec_pressOrLift {s : State} {at_ : Nat} {byHandset : Bool}
    (due : if byHandset then s.Due s.cpi.hookTimer at_ ∧ s.cpi.hook = .liftPending
      else s.Due s.cpi.buttonTimer at_ ∧ s.cpi.button = .pressPending) :
    exec (if byHandset then Instr.hookTimerExpiry else Instr.buttonTimerExpiry) s =
      .next (if byHandset then ((s.advanceTo at_).withCpi (s.cpi.switched true)).takeLift
        else ((s.advanceTo at_).withCpi (s.cpi.switched false)).takePress) := by
  cases byHandset
  · exact exec_buttonTimerExpiry_pressed due.1 due.2
  · exact exec_hookTimerExpiry_lifted due.1 due.2

/-- Settles O26: a press and a lift by the state of the record. -/
theorem pressOrLiftInIdleStartsACall : Obligations.PressOrLiftInIdleStartsACall := by
  unfold Obligations.PressOrLiftInIdleStartsACall
  intro s at_ byHandset due now k switch
  let u := (s.advanceTo at_).withCpi (s.cpi.switched byHandset)
  have run := exec_pressOrLift due
  refine ⟨fun idle => ?_, fun sl code bell route offered => ?_, fun waiting press => ?_, fun other => ?_⟩
  · have taken : (if byHandset then ((s.advanceTo at_).withCpi (s.cpi.switched true)).takeLift
        else ((s.advanceTo at_).withCpi (s.cpi.switched false)).takePress) =
        u.startCall (if byHandset then .handset else .button) := by
      cases byHandset <;> simp [State.takeLift, State.takePress, idle, u]
    obtain ⟨ple, svc, rsl, empty, routes, starts, cpi, spm⟩ := startCall_leaves u (if byHandset then .handset else .button)
    have list : buildList u = buildList s := buildList_congr rfl rfl rfl rfl
    have hook : hookReadsLifted u.cpi.hook = if byHandset then true else hookReadsLifted s.cpi.hook := by
      cases byHandset <;> rfl
    rw [list] at rsl empty routes
    rw [hook] at ple
    refine ⟨u.startCall (if byHandset then .handset else .button), run.trans (congrArg _ taken), ?_, by rw [ple]; rfl,
      svc, by rw [ple], by rw [ple]; rfl, by rw [ple], by rw [ple]; rfl, by rw [ple]; rfl, by rw [ple]; rfl,
      by rw [ple]; rfl, by rw [ple]; rfl, by rw [ple], by rw [ple]; rfl, by rw [ple]; rfl, rsl, empty, routes, ?_,
      by rw [cpi], by rw [cpi], spm, ?_⟩
    · cases byHandset <;> exact ⟨by rw [cpi]; rfl, by rw [cpi]; rfl⟩
    · exact startsRound_advanceTo.1 (StartsRound.congr (w := u.withPle { resetPle with callId := u.svc.nextCallId })
        rfl rfl rfl rfl rfl rfl rfl rfl rfl rfl rfl starts)
    · simp [u]
  · let w := u.withPle { s.ple with handsetLifted := byHandset || s.ple.handsetLifted }
    have taken : (if byHandset then ((s.advanceTo at_).withCpi (s.cpi.switched true)).takeLift
        else ((s.advanceTo at_).withCpi (s.cpi.switched false)).takePress) = w.answerCallback := by
      cases byHandset
      · exact (by simp [State.takePress, bell] : ((s.advanceTo at_).withCpi (s.cpi.switched false)).takePress =
          ((s.advanceTo at_).withCpi (s.cpi.switched false)).answerCallback)
      · simp [State.takeLift, bell, w, u, State.setPle]
    have slot (j : Slot) : w.slot j = s.slot j := slot_of_slc rfl j
    obtain ⟨ple, button, hook, silent, cadence, steady, xpt, talking, grant, deadline, sent, stands, spm⟩ :=
      answerCallback_leaves (s := w) route bell (by rwa [slot])
    rw [slot] at grant sent stands
    refine ⟨w.answerCallback, run.trans (congrArg _ taken), ple, ?_, ?_, silent, cadence, steady, xpt, talking, grant,
      deadline, sent, stands, ?_⟩
    · rw [button]
      cases byHandset <;> rfl
    · rw [hook]
      cases byHandset <;> rfl
    · simp [spm, w, u]
  · subst press
    have taken : u.takePress = u.endWaiting := by simp [State.takePress, waiting, u]
    obtain ⟨ple, pause, button, timer, spm⟩ := endWaiting_leaves u
    have starts := endWaiting_starts u
    have slc : ((u.withdrawEmergency .a).withdrawEmergency .b).slc =
        (((s.advanceTo at_).withdrawEmergency .a).withdrawEmergency .b).slc :=
      withdrawEmergency_slc_congr (s := (s.advanceTo at_).withdrawEmergency .a) (t := u.withdrawEmergency .a)
        (withdrawEmergency_slc_congr (s := s.advanceTo at_) (t := u) rfl rfl .a) (by simp [u]) .b
    refine ⟨u.endWaiting, run.trans (congrArg _ taken), button, timer, by rw [ple]; rfl, ?_, pause, by rw [ple]; rfl,
      by rw [ple]; rfl, by rw [ple]; rfl, by rw [ple]; rfl, by rw [ple]; rfl, ?_⟩
    · refine StartsRound.congr (w := ((u.withdrawEmergency .a).withdrawEmergency .b).withPle
        { u.ple with awaited := [], pauseLength := nextPause u.ple.pauseLength })
        slc ?_ ?_ ?_ ?_ ?_ rfl rfl rfl rfl rfl starts <;> simp [u]
    · simp [spm (by simp [u, waiting]), u]
  · refine run.trans (congrArg _ ?_)
    cases byHandset
    · have still : s.ple.state = .dialling ∨ s.ple.state = .relaying ∨ s.ple.state = .ringing ∨ s.ple.state = .talking := by
        simpa using other
      have : u.takePress = u := by obtain h | h | h | h := still <;> simp [State.takePress, h, u]
      exact this
    · obtain h | h | h | h | ⟨h, -⟩ := other <;> simp [State.takeLift, h, State.setPle] <;> rfl

end Sys2Proof.Machine
end

section
/-! A slot that a fault has taken out keeps its record through the reports of the fault (R66). -/

namespace Sys2Proof.Machine

/-- R66: a slot out of service with nothing asked of it. -/
def SlotRec.Out (r : SlotRec) : Prop :=
  (r.state = .restarting ∨ r.state = .disabled) ∧ r.grant = .nobody ∧ r.NoClaims ∧ r.idleTimer = none

/-- The slots out of service keep their records. -/
structure State.SparesOut (s t : State) : Prop where
  keeps : ∀ sl, (s.slot sl).Out → t.slot sl = s.slot sl

namespace State.SparesOut

variable {s t u : State}

theorem refl (s : State) : s.SparesOut s := ⟨fun _ _ => rfl⟩

theorem trans (h : s.SparesOut t) (g : t.SparesOut u) : s.SparesOut u :=
  ⟨fun sl out => (g.keeps sl (by rwa [h.keeps sl out])).trans (h.keeps sl out)⟩

theorem of_slc (slc : t.slc = s.slc) : s.SparesOut t := ⟨fun sl _ => slot_of_slc slc sl⟩

theorem setSlot {sl : Slot} {f : SlotRec → SlotRec} (same : (s.slot sl).Out → f (s.slot sl) = s.slot sl) :
    s.SparesOut (s.setSlot sl f) := by
  refine ⟨fun k out => ?_⟩
  by_cases at_ : k = sl
  · subst at_
    obtain ⟨state, -, -, timer⟩ := id out
    rw [State.setSlot_slot, same out, settleIdle_not_idle _ _ (by obtain state | state := state <;> simp [state]), ← timer]
  · rw [slot_ne at_, State.setSlot_otherSlot]

/-- A write of a slot that is in service. -/
theorem setSlot_live {sl : Slot} (f : SlotRec → SlotRec) (live : ¬ (s.slot sl).Out) : s.SparesOut (s.setSlot sl f) :=
  setSlot fun out => absurd out live

end State.SparesOut

theorem SlotRec.Out.not_idle {r : SlotRec} (h : r.Out) : r.state ≠ .idle := by
  obtain ⟨state | state, -⟩ := h <;> simp [state]

theorem SlotRec.Out.not_off {r : SlotRec} (h : r.Out) : r.state ≠ .off := by
  obtain ⟨state | state, -⟩ := h <;> simp [state]

open State.SparesOut

/-! ### Claims and grants (R68 to R70) -/

theorem withdrawLocal_sparesOut (s : State) (sl : Slot) : s.SparesOut (s.withdrawLocal sl) :=
  setSlot fun ⟨_, _, ⟨quiet, _⟩, _⟩ => by rw [← quiet]

theorem withdrawCarry_sparesOut (s : State) (sl : Slot) (id : CarryId) : s.SparesOut (s.withdrawCarry sl id) :=
  setSlot fun ⟨_, _, ⟨_, quiet, _⟩, _⟩ => by rw [quiet, List.filter_nil, ← quiet]

theorem withdrawEmergency_sparesOut (s : State) (sl : Slot) : s.SparesOut (s.withdrawEmergency sl) := by
  unfold State.withdrawEmergency
  split
  · exact withdrawLocal_sparesOut ..
  · exact refl s

theorem requestDial_sparesOut (s : State) (sl : Slot) (x : Holder) (code : Nat) : s.SparesOut (s.requestDial sl x code) := by
  unfold State.requestDial
  split <;> rename_i h
  · exact setSlot_live _ fun out => out.not_idle h.1
  · exact refl s

theorem grantCarry_sparesOut {s : State} {sl : Slot} (idle : (s.slot sl).state = .idle) (c : CarryRec) :
    s.SparesOut (s.grantCarry sl c) := by
  let claimed := s.setSlot sl fun r =>
    { r with waitingCarry := r.waitingCarry.filter (fun i => i != c.id), grant := .carry c.id }
  let joined := claimed.xptJoin (.carry c.id) (.slot sl) (.trunk c.trunk)
  have write : s.SparesOut claimed := setSlot_live _ fun out => out.not_idle idle
  have join : claimed.SparesOut joined := of_slc (by simp [joined])
  exact (write.trans join).trans ((requestDial_sparesOut joined sl (.carry c.id) c.code).trans (of_slc (by simp [State.grantCarry, joined, claimed])))

theorem arbiter_sparesOut (s : State) (sl : Slot) : s.SparesOut (s.arbiter sl) := by
  unfold State.arbiter
  split <;> rename_i free
  · have live : ¬ (s.slot sl).Out := fun out => out.not_idle free.1
    split
    · exact (setSlot_live _ live).trans (requestDial_sparesOut ..)
    · exact setSlot_live _ live
    · split
      · exact grantCarry_sparesOut free.1 _
      · split
        · exact setSlot_live _ live
        · exact refl s
  · exact refl s

theorem placeClaim_sparesOut {s : State} {sl : Slot} (live : ¬ (s.slot sl).Out) (c : Claim) : s.SparesOut (s.placeClaim sl c) := by
  have claimed : s.SparesOut (s.setSlot sl (SlotRec.addClaim c)) := setSlot_live _ live
  unfold State.placeClaim
  dsimp only
  split <;> rename_i off
  · split
    · refine claimed.trans (setSlot_live _ fun out => out.not_off ?_)
      rw [State.setSlot_slot, (settleIdle_fields ..).1, addClaim_state, off]
    · exact claimed
  · exact claimed.trans (arbiter_sparesOut ..)

theorem release_sparesOut {s : State} {sl : Slot} {x : Holder} (some : x ≠ .nobody) : s.SparesOut (s.release sl x) := by
  unfold State.release
  split <;> rename_i held
  · have live : ¬ (s.slot sl).Out := fun ⟨_, nobody, _⟩ => some (held.symm.trans nobody)
    split
    case h_1 => exact (setSlot_live _ live).trans (arbiter_sparesOut ..)
    case h_5 => exact (setSlot_live _ live).trans (arbiter_sparesOut ..)
    all_goals exact setSlot_live _ live
  · exact refl s

/-! ### Rounds and attempts (R9 to R13, R26) -/

theorem tryRoutes_sparesOut (cs : List Candidate) (s : State) : s.SparesOut (State.tryRoutes cs s) := by
  induction cs generalizing s with
  | nil => exact of_slc (by simp [State.tryRoutes])
  | cons c cs ih =>
    rw [State.tryRoutes]
    split <;> rename_i open_
    · exact (of_slc (by simp)).trans (ih _)
    · split
      · exact of_slc (by simp)
      · rename_i k via
        split
        · exact (of_slc (by simp)).trans (ih _)
        · have slc : (((s.beginAttempt c).enterCallState .dialling).joinTone).slc = s.slc := by simp
          refine (of_slc slc).trans (placeClaim_sparesOut (fun out => ?_) _)
          rw [slot_of_slc slc] at out
          obtain ⟨state | state, -⟩ := out <;> simp [isShutOut, via, state, isExcluded] at open_

theorem claimEmergency_sparesOut {s : State} {sl : Slot} (takes : takesEmergencyScan (s.slot sl).state = true) :
    s.SparesOut (s.claimEmergency sl) := by
  have slc : (s.setPle fun p => { p with awaited := p.awaited ++ [sl] }).slc = s.slc := rfl
  refine (of_slc slc).trans (placeClaim_sparesOut (fun out => ?_) _)
  rw [slot_of_slc slc] at out
  obtain ⟨state | state, -⟩ := out <;> simp [takesEmergencyScan, state] at takes

theorem waitForScans_sparesOut (s : State) : s.SparesOut s.waitForScans := by
  have waits : s.enterWaiting.slc = s.slc := by simp
  have slot (k : Slot) : s.enterWaiting.slot k = s.slot k := slot_of_slc waits k
  have first : s.SparesOut (if takesEmergencyScan s.slc.a.state then s.enterWaiting.claimEmergency .a else s.enterWaiting) := by
    split <;> rename_i takes
    · exact (of_slc waits).trans (claimEmergency_sparesOut (by rwa [slot]))
    · exact of_slc waits
  unfold State.waitForScans
  dsimp only
  split <;> rename_i takes
  · refine first.trans (claimEmergency_sparesOut ?_)
    split
    · have other := (claimEmergency_claims s.enterWaiting .a).2.1
      simp only [otherSlot] at other
      rwa [other, slot]
    · rwa [slot]
  · exact first

theorem startRound_sparesOut (s : State) : s.SparesOut s.startRound := by
  let w := (s.setPle fun p => { p with rounds := min 255 (p.rounds + 1), tried := [] }).withRsl (buildList s)
  have start : s.startRound = if (buildList s).isEmpty then w.waitForScans else w.nextAttempt := rfl
  rw [start]
  split
  · exact (of_slc (s := s) (t := w) rfl).trans (waitForScans_sparesOut w)
  · exact (of_slc (s := s) (t := w) rfl).trans (tryRoutes_sparesOut _ w)

theorem endWaiting_sparesOut (s : State) : s.SparesOut s.endWaiting :=
  ((withdrawEmergency_sparesOut ..).trans (withdrawEmergency_sparesOut ..)).trans
    ((of_slc (pauseEnded_slc s)).trans (startRound_sparesOut _))

theorem endAttempt_sparesOut (s : State) (o : Machine.Outcome) : s.SparesOut (s.endAttempt o) :=
  (of_slc (t := (s.reportOutcome o).clearAttempt) (by simp)).trans (tryRoutes_sparesOut _ _)

theorem endOwnAttempt_sparesOut (s : State) (sl : Slot) (o : Machine.Outcome) : s.SparesOut (s.endOwnAttempt sl o) :=
  (release_sparesOut (x := .localCall) nofun).trans (endAttempt_sparesOut ..)

theorem talkLost_sparesOut (s : State) : s.SparesOut s.talkLost := by
  have charged : s.SparesOut (s.reportOutcome .lost) := of_slc (by simp)
  unfold State.talkLost
  split
  · exact charged.trans (release_sparesOut nofun)
  · exact charged

theorem loseTalk_sparesOut (s : State) : s.SparesOut s.loseTalk := by
  rw [loseTalk_eq]
  refine (talkLost_sparesOut s).trans ?_
  unfold State.resumeOrClose
  split
  · exact (of_slc (by simp)).trans (startRound_sparesOut _)
  · exact of_slc (by simp)

/-! ### Reports (R66, R73, R88) -/

theorem localReport_fault_sparesOut (s : State) (sl : Slot) (dialSent : Bool) : s.SparesOut (s.localReport sl (.fault dialSent)) := by
  unfold State.localReport
  cases s.ple.state
  case bell => exact of_slc (by simp)
  case dialling => exact endOwnAttempt_sparesOut ..
  case ringing => exact endOwnAttempt_sparesOut ..
  case talking => exact loseTalk_sparesOut s
  all_goals exact refl s

theorem giveUpSlot_sparesOut (s : State) (c : CarryRec) : s.SparesOut (s.giveUpSlot c) := by
  unfold State.giveUpSlot
  split
  · exact withdrawCarry_sparesOut ..
  · exact release_sparesOut nofun

/-- R108: of the slots, the end of a carry touches what it gives up. -/
theorem endCarry_slc (s : State) (c : CarryRec) (told : Option CprgReason) (freed : Bool) (report : Option Report)
    (o : LogOutcome) : ∃ u : State, u.slc = s.slc ∧ (s.endCarry c told freed report o).slc = (u.giveUpSlot c).slc := by
  cases told with
  | some r => exact ⟨s.hand c.id.requester (.cprg c.id.callId (.failed r)), by simp, by
      unfold State.endCarry; cases freed <;> cases report <;> simp⟩
  | none => exact ⟨s, rfl, by unfold State.endCarry; cases freed <;> cases report <;> simp⟩

theorem endCarry_sparesOut (s : State) (c : CarryRec) (told : Option CprgReason) (freed : Bool) (report : Option Report)
    (o : LogOutcome) : s.SparesOut (s.endCarry c told freed report o) := by
  obtain ⟨u, same, ends⟩ := endCarry_slc s c told freed report o
  exact (of_slc same).trans ((giveUpSlot_sparesOut u c).trans (of_slc ends))

theorem carryReport_fault_sparesOut (s : State) (id : CarryId) (dialSent : Bool) :
    s.SparesOut (s.carryReport id (.fault dialSent)) := by
  unfold State.carryReport
  split
  · exact refl s
  · exact endCarry_sparesOut ..

theorem carryClaimFault_sparesOut (s : State) (id : CarryId) : s.SparesOut (s.carryClaimFault id) := by
  unfold State.carryClaimFault
  split
  · exact endCarry_sparesOut ..
  · exact refl s

theorem carryClaimFaults_sparesOut (s : State) (ids : List CarryId) : s.SparesOut (s.carryClaimFaults ids) := by
  have each (cs : List CarryRec) : ∀ u : State, u.SparesOut (cs.foldl (fun st c => st.carryClaimFault c.id) u) := by
    induction cs with
    | nil => exact refl
    | cons c cs ih => exact fun u => (carryClaimFault_sparesOut u c.id).trans (ih _)
  exact each _ s

theorem emergencyScanEnded_sparesOut (s : State) (sl : Slot) : s.SparesOut (s.emergencyScanEnded sl) := by
  unfold State.emergencyScanEnded
  split
  · dsimp only
    split
    · exact (of_slc (by simp)).trans (endWaiting_sparesOut _)
    · exact of_slc (by simp)
  · exact refl s

theorem advScanEnded_slc (s : State) : s.advScanEnded.slc = s.slc := by
  unfold State.advScanEnded
  split <;> simp

theorem reportScanEnd_sparesOut (s : State) (sl : Slot) (kind : ScanKind) : s.SparesOut (s.reportScanEnd sl kind) := by
  cases kind
  · exact (emergencyScanEnded_sparesOut s sl).trans (of_slc (advScanEnded_slc _))
  · exact of_slc (advScanEnded_slc s)

theorem faultReports_sparesOut (s : State) (sl : Slot) (r : SlotRec) : s.SparesOut (s.faultReports sl r) := by
  have told : s.SparesOut (s.faultHolder sl r) := by
    unfold State.faultHolder State.reportHolder
    cases r.grant
    case localCall => exact localReport_fault_sparesOut ..
    case carry id => exact carryReport_fault_sparesOut ..
    case scan kind => exact reportScanEnd_sparesOut ..
    case nobody => exact refl s
  unfold State.faultReports State.localClaimFault
  split
  · split
    · exact told.trans (endAttempt_sparesOut ..)
    · exact told
  · exact told.trans (emergencyScanEnded_sparesOut ..)
  · exact told

/-! ### The record a fault leaves (R66) -/

theorem faulted_out (r : SlotRec) (now uptime : Nat) (scanLength : Option Nat) : (r.faulted now uptime scanLength).Out := by
  unfold SlotRec.faulted
  dsimp only
  refine ⟨?_, rfl, ⟨rfl, rfl, rfl⟩, rfl⟩
  split <;> simp

theorem faultCut_slc (s : State) (sl : Slot) :
    (s.faultCut sl).slc = (s.setSlot sl fun r => r.faulted s.clock.now s.cfg.uptime s.scanLength).slc := by
  simp [State.faultCut]

/-- R66: a fault leaves the slot as its first step says. -/
theorem faultCut_slot (s : State) (sl : Slot) :
    (s.faultCut sl).slot sl = (s.slot sl).faulted s.clock.now s.cfg.uptime s.scanLength := by
  have out := faulted_out (s.slot sl) s.clock.now s.cfg.uptime s.scanLength
  rw [slot_of_slc (faultCut_slc s sl), State.setSlot_slot, settleIdle_not_idle _ _ out.not_idle]
  rfl

theorem faultCut_other (s : State) (sl : Slot) : (s.faultCut sl).slot (otherSlot sl) = s.slot (otherSlot sl) := by
  rw [slot_of_slc (faultCut_slc s sl), State.setSlot_otherSlot]

theorem slotFault_slot (s : State) (sl : Slot) :
    (s.slotFault sl).slot sl = (s.slot sl).faulted s.clock.now s.cfg.uptime s.scanLength := by
  have out : ((s.faultCut sl).slot sl).Out := faultCut_slot s sl ▸ faulted_out ..
  rw [slotFault_eq, ← faultCut_slot]
  exact ((faultReports_sparesOut ..).trans (carryClaimFaults_sparesOut ..)).keeps sl out

end Sys2Proof.Machine
end

section
/-! The timers of the slot records (R63 to R67, R71, R72, R75). -/

namespace Sys2Proof.Machine

/-! ### The idle timer (R71) -/

theorem keeps_eq (s : State) (sl : Slot) : s.keeps sl = (s.spm.supply == .ok && (match s.cfg.record.policy, sl with
    | .none, _ => false
    | .both, _ => true
    | .one, .a => true
    | .one, .b => s.slc.a.state == .absent || s.slc.a.state == .disabled)) := by
  have out : isOut s.slc.a.state = (s.slc.a.state == .absent || s.slc.a.state == .disabled) := by
    cases s.slc.a.state <;> rfl
  unfold State.keeps State.policyInForce
  by_cases ok : s.spm.supply = .ok
  · rw [if_pos ok, ok, ← out]
    cases s.cfg.record.policy <;> cases sl <;> rfl
  · rw [if_neg ok, beq_eq_false_iff_ne.2 ok]
    rfl

theorem exec_idleTimerExpiry {s : State} {sl : Slot} {at_ : Nat} (due : s.Due (s.slot sl).idleTimer at_) :
    exec (.idleTimerExpiry sl) s = .next
      (if s.keeps sl then (s.advanceTo at_).setSlot sl fun r => { r with idleTimer := some (max s.clock.now at_ + 30000) }
        else (s.advanceTo at_).setSlot sl fun r => { r.settled .off with power := false, heartbeat := none }) :=
  congrArg Host.Outcome.next (expire_due _ due)

/-- R71: the idle timer of an unused slot stands as it is written. -/
theorem settleIdle_unused {r : SlotRec} (state : r.state = .idle) (grant : r.grant = .nobody) (quiet : r.NoClaims)
    {at_ : Nat} (timer : r.idleTimer = some at_) (now : Nat) : r.settleIdle now = r := by
  obtain ⟨noLocal, noCarry, noScan⟩ := quiet
  simp [SlotRec.settleIdle, SlotRec.isUnused, state, grant, noLocal, noCarry, noScan, timer]
  cases r
  simp_all

/-! ### The scan timer (R72) -/

theorem exec_scanTimerExpiry {s : State} {sl : Slot} {at_ : Nat} (due : s.Due (s.slot sl).scanTimer at_)
    (live : isOut (s.slot sl).state = false) : exec (.scanTimerExpiry sl) s =
      .next (((s.advanceTo at_).setSlot sl fun r => { r with scanTimer := none }).placeClaim sl .scan) := by
  have state : (((s.advanceTo at_).setSlot sl fun r => { r with scanTimer := none }).slot sl).state = (s.slot sl).state := by
    rw [State.setSlot_slot, (settleIdle_fields ..).1, advanceTo_slot]
  refine congrArg Host.Outcome.next ((expire_due _ due).trans (if_neg ?_))
  rw [State.refusesClaim, state, live]
  exact Bool.false_ne_true

/-! ### Grants of a free slot (R69) -/

section
variable {s : State} {sl : Slot} (idle : (s.slot sl).state = .idle) (free : (s.slot sl).grant = .nobody)
include idle free

theorem arbiter_dial (waits : (s.slot sl).waitingLocal = some .dial) : s.arbiter sl = s.grantLocal sl := by
  simp only [State.arbiter, idle, free, waits, and_self, if_true]

theorem arbiter_emergency (waits : (s.slot sl).waitingLocal = some .emergencyScan) :
    s.arbiter sl = s.setSlot sl fun r => { r with waitingLocal := none }.startScan s.clock.now .emergency := by
  simp only [State.arbiter, idle, free, waits, and_self, if_true]

theorem arbiter_carry (noLocal : (s.slot sl).waitingLocal = none) {c : CarryRec}
    (first : s.cye.find? (fun d => (s.slot sl).waitingCarry.contains d.id) = some c) :
    s.arbiter sl = s.grantCarry sl c := by
  simp only [State.arbiter, idle, free, noLocal, first, and_self, if_true]

theorem arbiter_scan (noLocal : (s.slot sl).waitingLocal = none) (noCarry : (s.slot sl).waitingCarry = [])
    (waits : (s.slot sl).waitingScan = true) :
    s.arbiter sl = s.setSlot sl fun r => { r with waitingScan := false }.startScan s.clock.now .periodic := by
  have first : s.cye.find? (fun d => (s.slot sl).waitingCarry.contains d.id) = none := by
    rw [noCarry]
    exact List.find?_eq_none.2 fun _ _ => by simp
  simp only [State.arbiter, idle, free, noLocal, first, waits, and_self, if_true]

end

/-- R68: a claim placed on an IDLE slot runs the arbiter. -/
theorem placeClaim_idle {s : State} {sl : Slot} (idle : (s.slot sl).state = .idle) (c : Claim) :
    s.placeClaim sl c = (s.setSlot sl (SlotRec.addClaim c)).arbiter sl := if_neg (by simp [idle])

/-! ### Faults (R64 to R66, R75) -/

/-- R64, R65, R75: the timers whose end is a fault. -/
def State.faultTimer (s : State) (sl : Slot) : Instr → Option Nat
  | .warmUpDeadlineExpiry _ => if (s.slot sl).state = .warming then (s.slot sl).deadline else none
  | .clearDeadlineExpiry _ => if (s.slot sl).state = .clearing then (s.slot sl).deadline else none
  | _ => (s.slot sl).heartbeat

theorem exec_faultTimer (s : State) (sl : Slot) {c : Instr} {timer : Option Nat}
    (h : (c = .warmUpDeadlineExpiry sl ∧ timer = (if (s.slot sl).state = .warming then (s.slot sl).deadline else none)) ∨
      (c = .clearDeadlineExpiry sl ∧ timer = (if (s.slot sl).state = .clearing then (s.slot sl).deadline else none)) ∨
      (c = .heartbeatWatchExpiry sl ∧ timer = (s.slot sl).heartbeat)) :
    exec c s = .next (s.expire timer fun v => v.slotFault sl) := by
  obtain ⟨rfl, rfl⟩ | ⟨rfl, rfl⟩ | ⟨rfl, rfl⟩ := h <;> rfl

/-- A timer that does not run, or is not yet due, changes nothing (log 2). -/
theorem expire_notDue {s : State} {timer : Option Nat} (f : State → State) (early : ∀ at_, ¬ s.Due timer at_) :
    s.expire timer f = s := by
  unfold State.expire
  split
  · rename_i at_
    exact if_neg fun due => early at_ ⟨rfl, by simpa [State.isDue] using due⟩
  · rfl

theorem faulted_restarts (r : SlotRec) (now uptime : Nat) (scanLength : Option Nat) :
    (r.faulted now uptime scanLength).state = .restarting ∧ (r.faulted now uptime scanLength).restartTimer = some (now + 2000) ∨
    (r.faulted now uptime scanLength).state = .disabled ∧ (r.faulted now uptime scanLength).restartTimer = none ∧
      (r.faulted now uptime scanLength).scanTimer = none := by
  unfold SlotRec.faulted
  by_cases third : 2 ≤ (recentFaults r.faultTimes uptime).length <;> simp [third, restartMs]

/-! ### The restart timer (R63, R67) -/

theorem exec_restartTimerExpiry {s : State} {sl : Slot} {at_ : Nat} (due : s.Due (s.slot sl).restartTimer at_)
    (state : (s.slot sl).state = .restarting ∨ (s.slot sl).state = .off) : exec (.restartTimerExpiry sl) s = .next
      (if (s.slot sl).state = .off then
        ((s.advanceTo at_).setSlot sl fun r => { r with restartTimer := none }).placeClaim sl .scan
      else ((s.advanceTo at_).setSlot sl (SlotRec.warm (max s.clock.now at_))).watchAdvert) := by
  refine congrArg Host.Outcome.next ((expire_due _ due).trans ?_)
  obtain state | state := state <;> simp [state]

/-- Settles O45: each timer by what its expiry does to the slot. -/
theorem slotTimersPowerAndWarmTheSlot : Obligations.SlotTimersPowerAndWarmTheSlot := by
  unfold Obligations.SlotTimersPowerAndWarmTheSlot
  refine ⟨?_, ?_, ?_, ?_, ?_⟩
  · intro s sl at_ due idle free quiet kept
    have policy : kept = s.keeps sl := (keeps_eq s sl).symm
    rw [policy]
    refine ⟨_, exec_idleTimerExpiry due, fun keeps => ?_, fun off => ?_, ?_⟩
    · rw [if_pos keeps, State.setSlot_slot, advanceTo_slot]
      exact settleIdle_unused (r := { s.slot sl with idleTimer := some (max s.clock.now at_ + 30000) }) idle free quiet rfl _
    · rw [if_neg (by simp [off]), State.setSlot_slot, advanceTo_slot, settleIdle_not_idle _ _ (by simp [SlotRec.settled])]
      exact ⟨rfl, rfl, rfl, rfl, rfl⟩
    · split <;> simp
  · intro s sl at_ due off stopped
    let u := (s.advanceTo at_).setSlot sl fun r => { r with scanTimer := none }
    have slot : u.slot sl = { s.slot sl with scanTimer := none, idleTimer := none } := by
      rw [State.setSlot_slot, advanceTo_slot, settleIdle_not_idle _ _ (by simp [off])]
    have claimed := placeClaim_off_slot (s := u) (by rw [slot]; exact off) (by rw [slot]; exact stopped) .scan
    have split := placeClaim_off (s := u) (by rw [slot]; exact off) (by rw [slot]; exact stopped) .scan
    rw [slot] at claimed
    refine ⟨u.placeClaim sl .scan, exec_scanTimerExpiry due (by rw [off]; rfl), by rw [claimed]; rfl, by rw [claimed]; rfl,
      by rw [claimed]; rfl, by rw [claimed]; rfl, by rw [claimed]; simp [SlotRec.warm, u, warmUpMs], ?_⟩
    rw [split]
    simp [u]
  · intro s sl at_ due idle free quiet
    obtain ⟨noLocal, noCarry, -⟩ := quiet
    let u := (s.advanceTo at_).setSlot sl fun r => { r with scanTimer := none }
    let w := u.setSlot sl (SlotRec.addClaim .scan)
    have slot : u.slot sl = { s.slot sl with scanTimer := none, idleTimer := (u.slot sl).idleTimer } := by
      rw [State.setSlot_slot, advanceTo_slot]
      exact settleIdle_eq ..
    have claimed : w.slot sl = { s.slot sl with scanTimer := none, waitingScan := true, idleTimer := (w.slot sl).idleTimer } := by
      rw [State.setSlot_slot, slot]
      exact settleIdle_eq ..
    have granted : u.placeClaim sl .scan =
        w.setSlot sl fun r => { r with waitingScan := false }.startScan w.clock.now .periodic :=
      (placeClaim_idle (by rw [slot]; exact idle) .scan).trans (arbiter_scan (s := w) (by rw [claimed]; exact idle)
        (by rw [claimed]; exact free) (by rw [claimed]; exact noLocal) (by rw [claimed]; exact noCarry) (by rw [claimed]))
    have done : (u.placeClaim sl .scan).slot sl = { ({ w.slot sl with waitingScan := false }).startScan w.clock.now .periodic with
        idleTimer := none } := by
      rw [granted, State.setSlot_slot, settleIdle_not_idle _ _ (by simp [SlotRec.startScan, SlotRec.send, SlotRec.settled])]
    rw [claimed] at done
    refine ⟨u.placeClaim sl .scan, exec_scanTimerExpiry due (by rw [idle]; rfl), by rw [done]; rfl, by rw [done]; rfl,
      by rw [done]; rfl, by rw [done]; rfl, by rw [done]; simp [SlotRec.startScan, w, u, scanDeadlineMs], by rw [done]; rfl, ?_⟩
    rw [granted]
    simp [w, u]
  · intro s sl c timer fault
    have run := exec_faultTimer s sl fault
    refine ⟨fun at_ due => ?_, fun early => run.trans (congrArg _ (expire_notDue _ early))⟩
    have slot := slotFault_slot (s.advanceTo at_) sl
    rw [advanceTo_slot] at slot
    refine ⟨_, run.trans (congrArg _ (expire_due _ due)), ?_⟩
    rw [slot]
    exact ⟨rfl, rfl, ⟨rfl, rfl, rfl⟩, rfl, rfl, rfl, rfl, rfl, faulted_restarts ..⟩
  · intro s sl at_ due state
    by_cases off : (s.slot sl).state = .off
    · let u := (s.advanceTo at_).setSlot sl fun r => { r with restartTimer := none }
      have slot : u.slot sl = { s.slot sl with restartTimer := none, idleTimer := none } := by
        rw [State.setSlot_slot, advanceTo_slot, settleIdle_not_idle _ _ (by simp [off])]
      have claimed := placeClaim_off_slot (s := u) (by rw [slot]; exact off) (by rw [slot]) .scan
      have split := placeClaim_off (s := u) (by rw [slot]; exact off) (by rw [slot]) .scan
      rw [slot] at claimed
      refine ⟨u.placeClaim sl .scan, (exec_restartTimerExpiry due state).trans (congrArg _ (if_pos off)), by rw [claimed]; rfl,
        by rw [claimed]; rfl, by rw [claimed]; rfl, by rw [claimed]; simp [SlotRec.warm, u, warmUpMs], by rw [claimed]; rfl,
        by rw [claimed]; rfl, fun _ => by rw [claimed]; rfl, ?_⟩
      rw [split]
      simp [u]
    · let u := (s.advanceTo at_).setSlot sl (SlotRec.warm (max s.clock.now at_))
      have slc : u.watchAdvert.slc = u.slc := by simp
      have slot : u.watchAdvert.slot sl = { (s.slot sl).warm (max s.clock.now at_) with idleTimer := none } := by
        rw [slot_of_slc slc, State.setSlot_slot, advanceTo_slot,
          settleIdle_not_idle _ _ (by simp [SlotRec.warm, SlotRec.settled])]
      refine ⟨u.watchAdvert, (exec_restartTimerExpiry due state).trans (congrArg _ (if_neg off)), by rw [slot]; rfl,
        by rw [slot]; rfl, by rw [slot]; rfl, by rw [slot]; simp [SlotRec.warm, warmUpMs], by rw [slot]; rfl,
        by rw [slot]; rfl, fun h => absurd h off, ?_, by simp [u], by simp [u], by simp [u], by simp [u], by simp [u]⟩
      rw [slot_of_slc slc, State.setSlot_otherSlot, advanceTo_slot]

end Sys2Proof.Machine
end

section
/-! RDY, and the grants that the end of a warm-up brings (R64, R69, R74, R77, R98). -/

namespace Sys2Proof.Machine

/-! ### What a grant leaves of the slot (R14, R74, R98) -/

/-- R74: a dial requested by the holder of the grant in IDLE is sent. -/
theorem requestDial_free {s : State} {sl : Slot} {x : Holder} (idle : (s.slot sl).state = .idle)
    (held : (s.slot sl).grant = x) (code : Nat) :
    s.requestDial sl x code = s.setSlot sl (SlotRec.startDial s.clock.now code) := if_pos ⟨idle, held⟩

theorem startDial_slot (s : State) (sl : Slot) (now code : Nat) :
    (s.setSlot sl (SlotRec.startDial now code)).slot sl = { s.slot sl with
      state := .dialling, request := .dial code, deadline := some (now + 10000), repeats := 0, repeatsDue := 0, rung := false,
      idleTimer := none, sent := (s.slot sl).sent ++ [.dial code] } := by
  rw [State.setSlot_slot, settleIdle_not_idle _ _ (by simp [SlotRec.startDial, SlotRec.send, SlotRec.settled])]
  rfl

/-- R14: the LOCAL dial claim granted. -/
theorem grantLocal_slot {s : State} {sl : Slot} (idle : (s.slot sl).state = .idle) :
    (s.grantLocal sl).slot sl = { s.slot sl with
      waitingLocal := none, grant := .localCall, state := .dialling,
      request := .dial ((s.ple.route.bind Route.code).getD 0), deadline := some (s.clock.now + 10000), repeats := 0,
      repeatsDue := 0, rung := false, idleTimer := none,
      sent := (s.slot sl).sent ++ [.dial ((s.ple.route.bind Route.code).getD 0)] } := by
  let u := s.setSlot sl fun r => { r with waitingLocal := none, grant := .localCall }
  have slot : u.slot sl = { s.slot sl with waitingLocal := none, grant := .localCall, idleTimer := (u.slot sl).idleTimer } := by
    rw [State.setSlot_slot]
    exact settleIdle_eq ..
  have clock : u.clock = s.clock := by simp [u]
  rw [State.grantLocal, requestDial_free (s := u) (by rw [slot]; exact idle) (by rw [slot]), startDial_slot, slot, clock]

theorem requestDial_other (s : State) (sl : Slot) (x : Holder) (code : Nat) :
    (s.requestDial sl x code).slot (otherSlot sl) = s.slot (otherSlot sl) := by
  unfold State.requestDial
  split <;> simp

/-- R98: a CARRY claim granted. -/
theorem grantCarry_leaves {s : State} {sl : Slot} (idle : (s.slot sl).state = .idle) (c : CarryRec) :
    (s.grantCarry sl c).slot sl = { s.slot sl with
      waitingCarry := (s.slot sl).waitingCarry.filter fun i => i != c.id, grant := .carry c.id, state := .dialling,
      request := .dial c.code, deadline := some (s.clock.now + 10000), repeats := 0, repeatsDue := 0, rung := false,
      idleTimer := none, sent := (s.slot sl).sent ++ [.dial c.code] } ∧
    (s.grantCarry sl c).slot (otherSlot sl) = s.slot (otherSlot sl) ∧
    (s.grantCarry sl c).cye = (s.cye.map fun d =>
      if d.id = c.id then { d with queueTimer := none, dialSent := true, state := .dialling } else d) ∧
    (s.grantCarry sl c).xpt = (s.xptJoin (.carry c.id) (.slot sl) (.trunk c.trunk)).xpt := by
  let u := s.setSlot sl fun r => { r with waitingCarry := r.waitingCarry.filter (fun i => i != c.id), grant := .carry c.id }
  let w := u.xptJoin (.carry c.id) (.slot sl) (.trunk c.trunk)
  have same (k : Slot) : w.slot k = u.slot k := slot_of_slc (by simp [w]) k
  have slot : w.slot sl = { s.slot sl with
      waitingCarry := (s.slot sl).waitingCarry.filter fun i => i != c.id, grant := .carry c.id,
      idleTimer := (w.slot sl).idleTimer } := by
    rw [same, State.setSlot_slot]
    exact settleIdle_eq ..
  have clock : w.clock = s.clock := by simp [w, u]
  let t := w.requestDial sl (.carry c.id) c.code
  have slots (k : Slot) : (s.grantCarry sl c).slot k = t.slot k := slot_of_slc (by rw [State.grantCarry, (State.setCarry_frame ..).2.2.2.2.1]) k
  refine ⟨?_, ?_, ?_, ?_⟩
  · have dialled : t = w.setSlot sl (SlotRec.startDial w.clock.now c.code) :=
      requestDial_free (by rw [slot]; exact idle) (by rw [slot]) c.code
    rw [slots, dialled, startDial_slot, slot, clock]
  · rw [slots, show t.slot (otherSlot sl) = w.slot (otherSlot sl) from requestDial_other .., same, State.setSlot_otherSlot]
  · have cye : t.cye = s.cye := by simp [t, w, u]
    rw [State.grantCarry, State.setCarry, State.withCye_cye]
    exact congrArg _ cye
  · rw [State.grantCarry, (State.setCarry_frame ..).2.2.2.1]
    simp only [State.requestDial_frame]
    exact xptJoin_congr _ _ _ (by simp) (by simp)

/-! ### RDY (R64, R77) -/

theorem exec_rdy_warming {s : State} {sl : Slot} (ms : Nat) (running : s.phase = .running) (state : (s.slot sl).state = .warming) :
    exec (.rdy sl ms) s = .next ((s.arrive ms).moduleReady sl) := by
  refine congrArg Host.Outcome.next ((whenRunning_running _ running).trans ?_)
  simp [state]

theorem exec_rdy_idle {s : State} {sl : Slot} (ms : Nat) (running : s.phase = .running) (state : (s.slot sl).state = .idle) :
    exec (.rdy sl ms) s = .next ((s.arrive ms).hearModule sl) := by
  refine congrArg Host.Outcome.next ((whenRunning_running _ running).trans ?_)
  simp [state]

/-- R64, R77: the slot at the end of its warm-up, before the arbiter runs. -/
def State.warmedUp (s : State) (sl : Slot) : State :=
  s.setSlot sl fun r => { r.settled .idle with heartbeat := some (s.clock.now + heartbeatMs) }

theorem moduleReady_eq (s : State) (sl : Slot) : s.moduleReady sl = (s.warmedUp sl).arbiter sl := rfl

theorem warmedUp_slot (s : State) (sl : Slot) : (s.warmedUp sl).slot sl = { s.slot sl with
    state := .idle, request := .nothing, deadline := none, repeatsDue := 0, rung := false,
    heartbeat := some (s.clock.now + 15000), idleTimer := ((s.warmedUp sl).slot sl).idleTimer } := by
  rw [State.warmedUp, State.setSlot_slot]
  exact settleIdle_eq ..

@[simp] theorem warmedUp_other (s : State) (sl : Slot) : (s.warmedUp sl).slot (otherSlot sl) = s.slot (otherSlot sl) :=
  State.setSlot_otherSlot ..

@[simp] theorem State.warmedUp_frame (s : State) (sl : Slot) :
    (s.warmedUp sl).clock = s.clock ∧ (s.warmedUp sl).xpt = s.xpt ∧ (s.warmedUp sl).nwt = s.nwt ∧
    (s.warmedUp sl).nbt = s.nbt ∧ (s.warmedUp sl).adv = s.adv ∧ (s.warmedUp sl).ple = s.ple ∧
    (s.warmedUp sl).cye = s.cye ∧ (s.warmedUp sl).tkm = s.tkm ∧ (s.warmedUp sl).lnc = s.lnc := by
  simp [State.warmedUp]

theorem startScan_slot (s : State) (sl : Slot) (f : SlotRec → SlotRec) (now : Nat) (kind : ScanKind) :
    (s.setSlot sl fun r => (f r).startScan now kind).slot sl =
      { (f (s.slot sl)).startScan now kind with idleTimer := none } := by
  rw [State.setSlot_slot, settleIdle_not_idle _ _ (by simp [SlotRec.startScan, SlotRec.send, SlotRec.settled])]

/-- Settles O34: the end of the warm-up by the claim that the arbiter grants. -/
theorem readyEndsTheWarmUp : Obligations.ReadyEndsTheWarmUp := by
  unfold Obligations.ReadyEndsTheWarmUp
  intro s sl ms running now
  let u := (s.arrive ms).warmedUp sl
  have slot : u.slot sl = { s.slot sl with
      state := .idle, request := .nothing, deadline := none, repeatsDue := 0, rung := false, heartbeat := some (now + 15000),
      idleTimer := (u.slot sl).idleTimer } := by
    have := warmedUp_slot (s.arrive ms) sl
    rw [arrive_slot] at this
    exact this
  have other : u.slot (otherSlot sl) = s.slot (otherSlot sl) := by simp [u]
  have idle : (u.slot sl).state = .idle := by rw [slot]
  have clock : u.clock = (s.arrive ms).clock := by simp [u]
  have ready (warming : (s.slot sl).state = .warming) : exec (.rdy sl ms) s = .next (u.arbiter sl) :=
    exec_rdy_warming ms running warming
  refine ⟨fun warming free noLocal noCarry => ?_, fun state => ?_, fun warming free waits n route => ?_,
    fun warming free waits => ?_, fun warming free noLocal xs c ys split member first => ?_⟩
  · cases scan : (s.slot sl).waitingScan with
    | false =>
      have quiet : u.arbiter sl = u := arbiter_noClaims u sl (by rw [slot]; exact ⟨noLocal, noCarry, scan⟩)
      refine ⟨u, (ready warming).trans (congrArg _ quiet), other, by rw [slot], by rw [slot],
        fun _ => ⟨idle, by rw [slot], by rw [slot]⟩, nofun, ?_⟩
      simp [u]
    | true =>
      have granted := arbiter_scan idle (by rw [slot]; exact free) (by rw [slot]; exact noLocal) (by rw [slot]; exact noCarry)
        (by rw [slot]; exact scan)
      have done := startScan_slot u sl (fun r => { r with waitingScan := false }) u.clock.now .periodic
      rw [← granted, slot, clock] at done
      refine ⟨u.arbiter sl, ready warming, ?_, by rw [done]; rfl, by rw [done]; rfl, nofun, fun _ => ?_, ?_⟩
      · rw [granted, State.setSlot_otherSlot, other]
      · rw [done]
        exact ⟨rfl, rfl, rfl, rfl, rfl, rfl⟩
      · rw [granted]
        simp [u]
  · exact (exec_rdy_idle ms running state).trans rfl
  · have granted := arbiter_dial idle (by rw [slot]; exact free) (by rw [slot]; exact waits)
    have done := grantLocal_slot idle
    have code : (u.ple.route.bind Route.code).getD 0 = n := by
      simp [u, route]
    rw [← granted, code, slot, clock] at done
    refine ⟨u.arbiter sl, ready warming, by rw [done], by rw [done], by rw [done], by rw [done], by rw [done], by rw [done],
      by rw [done], by rw [done], by rw [done], ?_, ?_⟩ <;> rw [granted] <;> simp [u]
  · have granted := arbiter_emergency idle (by rw [slot]; exact free) (by rw [slot]; exact waits)
    have done := startScan_slot u sl (fun r => { r with waitingLocal := none }) u.clock.now .emergency
    rw [← granted, slot, clock] at done
    refine ⟨u.arbiter sl, ready warming, by rw [done]; rfl, by rw [done]; rfl, by rw [done]; rfl, by rw [done]; rfl,
      by rw [done]; rfl, by rw [done]; rfl, by rw [done]; rfl, by rw [done]; rfl, ?_, ?_, ?_⟩ <;> rw [granted]
    · rw [State.setSlot_otherSlot, other]
    · simp [u]
    · simp [u]
  · have cye : u.cye = s.cye := by simp [u]
    have found : u.cye.find? (fun d => (u.slot sl).waitingCarry.contains d.id) = some c := by
      rw [cye, slot, split, List.find?_append, List.find?_eq_none.2 (by simpa using first)]
      simp [member]
    have granted := arbiter_carry idle (by rw [slot]; exact free) (by rw [slot]; exact noLocal) found
    obtain ⟨done, stands, carries, joins⟩ := grantCarry_leaves idle c
    rw [← granted] at done stands carries joins
    rw [slot, clock] at done
    refine ⟨u.arbiter sl, ready warming, by rw [done], by rw [done], by rw [done], by rw [done], by rw [done], by rw [done],
      by rw [done], by rw [done], stands.trans other, by rw [carries, cye], ?_, ?_, ?_, ?_⟩
    · rw [joins]
      exact xptJoin_congr _ _ _ (by simp [u]) clock
    all_goals rw [granted]; simp [u]

end Sys2Proof.Machine
end

section
/-! DACK, RING and LIVE at the slot, and the messages that a state does not name (R65, R79, R82, R83, R87). -/

namespace Sys2Proof.Machine

/-! ### What the reports of an answer leave (R14, R15, R99) -/

theorem reportHolder_dack (s : State) (sl : Slot) (x : Holder) :
    (s.reportHolder sl x .dack).slc = s.slc ∧ (s.reportHolder sl x .dack).nwt = s.nwt ∧
    (s.reportHolder sl x .dack).nbt = s.nbt ∧ (s.reportHolder sl x .dack).tkm = s.tkm ∧
    (s.reportHolder sl x .dack).svc = s.svc := by
  cases x with
  | localCall =>
    unfold State.reportHolder State.localReport
    cases s.ple.state <;> simp
  | carry id =>
    unfold State.reportHolder State.carryReport
    dsimp only
    repeat' split
    all_goals simp
  | _ => simp [State.reportHolder]

theorem reportHolder_ring (s : State) (sl : Slot) (x : Holder) :
    (s.reportHolder sl x .ring).slc = s.slc ∧ (s.reportHolder sl x .ring).ple = s.ple ∧
    (s.reportHolder sl x .ring).cye = s.cye ∧ (s.reportHolder sl x .ring).nwt = s.nwt ∧
    (s.reportHolder sl x .ring).lnc = s.lnc ∧ (s.reportHolder sl x .ring).tkm = s.tkm ∧
    (s.reportHolder sl x .ring).svc = s.svc := by
  cases x with
  | localCall =>
    unfold State.reportHolder State.localReport
    cases s.ple.state <;> simp
  | carry id =>
    unfold State.reportHolder State.carryReport
    dsimp only
    split <;> simp
  | _ => simp [State.reportHolder]

theorem reportHolder_live (s : State) (sl : Slot) (x : Holder) :
    (s.reportHolder sl x .live).slc = s.slc ∧ (s.reportHolder sl x .live).tkm = s.tkm ∧
    (s.reportHolder sl x .live).svc = s.svc := by
  cases x with
  | localCall =>
    unfold State.reportHolder State.localReport
    cases s.ple.state <;> simp
  | carry id =>
    unfold State.reportHolder State.carryReport
    dsimp only
    repeat' split
    all_goals simp
  | _ => simp [State.reportHolder]

/-! ### A message that the state does not name (R65, R87) -/

theorem settleIdle_sound {r : SlotRec} (sound : r.idleTimer.isSome = r.isUnused) (now : Nat) : r.settleIdle now = r := by
  unfold SlotRec.settleIdle
  cases timer : r.idleTimer with
  | none =>
    rw [if_neg (by simpa [timer] using sound), ← timer]
  | some at_ =>
    rw [if_pos (by simpa [timer] using sound.symm), Option.getD_some, ← timer]

/-- R65: of a sound slot, the heartbeat watch alone changes with a message. -/
theorem hearModule_sound {s : State} {sl : Slot} (sound : (s.slot sl).Sound)
    (lamp : s.cpi.outLamp = (isOut s.slc.a.state && isOut s.slc.b.state)) :
    s.hearModule sl = s.withSlot sl { s.slot sl with heartbeat := some (s.clock.now + 15000) } := by
  obtain ⟨-, idle⟩ := (s.slot sl).sound_iff.1 sound
  have settled : SlotRec.settleIdle { s.slot sl with heartbeat := some (s.clock.now + 15000) } s.clock.now = _ :=
    settleIdle_sound (r := { s.slot sl with heartbeat := some (s.clock.now + 15000) }) idle s.clock.now
  have written : s.hearModule sl =
      (s.withSlot sl { s.slot sl with heartbeat := some (s.clock.now + 15000) }).setOutLamp :=
    congrArg (fun r => (s.withSlot sl r).setOutLamp) settled
  rw [written]
  cases sl <;> simp only [State.setOutLamp, State.withSlot, State.slot, State.withSlc_slc, State.withSlc_cpi, ← lamp] <;> rfl

/-- R77 to R86: a message other than RDY is heard, and is taken where the state's entry names it. -/
theorem message_heard {sl : Slot} {ms : Nat} {c : Instr} (message : isMessageAt sl ms c = true) (other : c ≠ .rdy sl ms) :
    ∃ take : State → State, (∀ v : State, namesState (v.slot sl).state c = false → take v = v) ∧
      ∀ s : State, exec c s = .next (s.hear sl ms take) := by
  have at_ {l : Slot} {m : Nat} (h : (l == sl && m == ms) = true) : l = sl ∧ m = ms := by simpa using h
  unfold isMessageAt at message
  split at message
  case h_1 =>
    obtain ⟨rfl, rfl⟩ := at_ message
    exact absurd rfl other
  case h_2 | h_3 | h_4 | h_5 =>
    obtain ⟨rfl, rfl⟩ := at_ message
    exact ⟨_, fun v none => if_neg (by simpa [namesState] using none), fun s => rfl⟩
  case h_6 =>
    obtain ⟨rfl, rfl⟩ := at_ message
    refine ⟨_, fun v none => ?_, fun s => rfl⟩
    split <;> simp_all [namesState]
  case h_7 =>
    obtain ⟨rfl, rfl⟩ := at_ message
    refine ⟨_, fun v none => ?_, fun s => rfl⟩
    split <;> simp_all [namesState]
  case h_8 =>
    obtain ⟨rfl, rfl⟩ := at_ message
    exact ⟨_, fun v none => by simp [namesState] at none, fun s => rfl⟩
  case h_9 =>
    obtain ⟨rfl, rfl⟩ := at_ message
    refine ⟨_, fun v none => ?_, fun s => rfl⟩
    split <;> simp_all [namesState]
  case h_10 =>
    obtain ⟨at_', few⟩ : (_ ∧ _) := by simpa using message
    obtain ⟨rfl, rfl⟩ := at_'
    exact ⟨_, fun v none => if_neg (by simpa [namesState] using none), fun s => congrArg Host.Outcome.next (if_pos few)⟩
  case h_11 => exact absurd message (by simp)

/-- R65, R87: a message in a state that its entry does not name restarts the heartbeat watch alone. -/
theorem message_unnamed {s : State} {sl : Slot} {ms : Nat} {c : Instr} (running : s.phase = .running)
    (message : isMessageAt sl ms c = true) (past : isPastWarmUp (s.slot sl).state = true)
    (none : namesState (s.slot sl).state c = false) : exec c s = .next ((s.arrive ms).hearModule sl) := by
  by_cases ready : c = .rdy sl ms
  · subst ready
    exact exec_rdy_idle ms running (by simpa [namesState] using none)
  · obtain ⟨take, quiet, run⟩ := message_heard message ready
    have state : (((s.arrive ms).hearModule sl).slot sl).state = (s.slot sl).state := by
      rw [hearModule_slot, (settleIdle_fields ..).1, arrive_slot]
    exact (run s).trans (congrArg _ ((hear_pastWarmUp ms take running past).trans (quiet _ (by rwa [state]))))

/-- R65, R77: a message before the end of the warm-up, or under lowered power, changes nothing. -/
theorem message_unheard {s : State} {sl : Slot} {ms : Nat} {c : Instr} (running : s.phase = .running)
    (message : isMessageAt sl ms c = true) (early : isPastWarmUp (s.slot sl).state = false)
    (warms : (s.slot sl).state = .warming → c ≠ .rdy sl ms) : exec c s = .next (s.arrive ms) := by
  by_cases ready : c = .rdy sl ms
  · subst ready
    refine congrArg Host.Outcome.next ((whenRunning_running _ running).trans ?_)
    cases state : (s.slot sl).state <;> simp_all [isPastWarmUp]
  · obtain ⟨take, -, run⟩ := message_heard message ready
    refine (run s).trans (congrArg _ ((whenRunning_running _ running).trans (if_neg ?_)))
    rw [arrive_slot, early]
    exact Bool.false_ne_true

/-! ### DACK, RING and LIVE (R79, R82, R83) -/

/-- A message has been heard: its module's heartbeat watch runs afresh (R65). -/
def State.heard (s : State) (sl : Slot) (ms : Nat) : State := (s.arrive ms).hearModule sl

@[simp] theorem State.heard_frame (s : State) (sl : Slot) (ms : Nat) :
    (s.heard sl ms).clock = (s.arrive ms).clock ∧ (s.heard sl ms).xpt = s.xpt ∧ (s.heard sl ms).nwt = s.nwt ∧
    (s.heard sl ms).nbt = s.nbt ∧ (s.heard sl ms).adv = s.adv ∧ (s.heard sl ms).rsl = s.rsl ∧
    (s.heard sl ms).ple = s.ple ∧ (s.heard sl ms).cye = s.cye ∧ (s.heard sl ms).tkm = s.tkm ∧
    (s.heard sl ms).lnc = s.lnc ∧ (s.heard sl ms).spm = s.spm ∧ (s.heard sl ms).cfg = s.cfg ∧
    (s.heard sl ms).svc = s.svc := by
  simp [State.heard]

theorem heard_slot (s : State) (sl : Slot) (ms : Nat) : (s.heard sl ms).slot sl = { s.slot sl with
    heartbeat := some ((s.arrive ms).clock.now + 15000), idleTimer := ((s.heard sl ms).slot sl).idleTimer } := by
  rw [State.heard, hearModule_slot, arrive_slot]
  exact settleIdle_eq ..

@[simp] theorem heard_other (s : State) (sl : Slot) (ms : Nat) :
    (s.heard sl ms).slot (otherSlot sl) = s.slot (otherSlot sl) := by
  rw [State.heard, hearModule_other, arrive_slot]

theorem heard_state (s : State) (sl : Slot) (ms : Nat) : ((s.heard sl ms).slot sl).state = (s.slot sl).state := by
  rw [heard_slot]

theorem exec_dack {s : State} {sl : Slot} (ms : Nat) (running : s.phase = .running) (state : (s.slot sl).state = .dialling) :
    exec (.dack sl ms) s = .next (((s.heard sl ms).setSlot sl fun r =>
      { r.settled .ringing with deadline := some ((s.heard sl ms).clock.now + ringLimitMs) }).reportSlot sl .dack) :=
  congrArg Host.Outcome.next ((hear_pastWarmUp ms _ running (by rw [state]; rfl)).trans
    (if_pos ((heard_state s sl ms).trans state)))

theorem exec_ring {s : State} {sl : Slot} (ms : Nat) (running : s.phase = .running) (state : (s.slot sl).state = .ringing) :
    exec (.ring sl ms) s = .next (((s.heard sl ms).setSlot sl fun r =>
      if r.rung then r else { r with rung := true, deadline := some ((s.heard sl ms).clock.now + ringLimitMs) }).reportSlot sl
        .ring) :=
  congrArg Host.Outcome.next ((hear_pastWarmUp ms _ running (by rw [state]; rfl)).trans
    (if_pos ((heard_state s sl ms).trans state)))

theorem exec_live {s : State} {sl : Slot} (ms : Nat) (running : s.phase = .running)
    (state : (s.slot sl).state = .dialling ∨ (s.slot sl).state = .ringing) :
    exec (.live sl ms) s = .next (((s.heard sl ms).setSlot sl fun r => r.settled .talking).reportSlot sl .live) := by
  have heard := heard_state s sl ms
  have past : isPastWarmUp (s.slot sl).state = true := by obtain state | state := state <;> rw [state] <;> rfl
  refine congrArg Host.Outcome.next ((hear_pastWarmUp ms _ running past).trans ?_)
  split
  case h_3 dialling ringing =>
    obtain state | state := state
    · exact absurd (heard.trans state) dialling
    · exact absurd (heard.trans state) ringing
  all_goals rfl

/-- Settles O37: the three answers, and the messages that are not named or not heard. -/
theorem dialAnswersMoveTheSlot : Obligations.DialAnswersMoveTheSlot := by
  unfold Obligations.DialAnswersMoveTheSlot
  intro s sl ms running now
  have clock : (s.heard sl ms).clock.now = now := by simp [now]
  refine ⟨fun state => ?_, fun state => ?_, fun state => ?_, fun c message past none sound lamp => ?_,
    fun c message early warms => message_unheard running message early warms⟩
  · let u := (s.heard sl ms).setSlot sl fun r =>
      { r.settled .ringing with deadline := some ((s.heard sl ms).clock.now + ringLimitMs) }
    obtain ⟨slc, nwt, nbt, tkm, svc⟩ := reportHolder_dack u sl (u.slot sl).grant
    have slot : (u.reportSlot sl .dack).slot sl = { (s.slot sl).settled .ringing with
        deadline := some (now + 120000), heartbeat := some (now + 15000), idleTimer := none } := by
      rw [State.reportSlot, slot_of_slc slc, State.setSlot_slot, settleIdle_not_idle _ _ (by simp [SlotRec.settled]),
        heard_slot, clock]
      rfl
    refine ⟨u.reportSlot sl .dack, exec_dack ms running state, by rw [slot]; rfl, by rw [slot], by rw [slot]; rfl,
      by rw [slot], by rw [slot]; rfl, ?_, nwt.trans (by simp [u]), nbt.trans (by simp [u]), tkm.trans (by simp [u]),
      svc.trans (by simp [u])⟩
    rw [State.reportSlot, slot_of_slc slc, State.setSlot_otherSlot, heard_other]
  · let u := (s.heard sl ms).setSlot sl fun r =>
      if r.rung then r else { r with rung := true, deadline := some ((s.heard sl ms).clock.now + ringLimitMs) }
    obtain ⟨slc, ple, cye, nwt, lnc, tkm, svc⟩ := reportHolder_ring u sl (u.slot sl).grant
    have slot : (u.reportSlot sl .ring).slot sl = { s.slot sl with
        rung := true, deadline := if (s.slot sl).rung then (s.slot sl).deadline else some (now + 120000),
        heartbeat := some (now + 15000), idleTimer := none } := by
      rw [State.reportSlot, slot_of_slc slc, State.setSlot_slot, heard_slot, clock]
      cases rung : (s.slot sl).rung <;> rw [settleIdle_not_idle _ _ (by simp [rung, state])] <;> simp [rung, ringLimitMs, now]
    refine ⟨u.reportSlot sl .ring, exec_ring ms running state, by rw [slot]; exact state, by rw [slot], by rw [slot],
      by rw [slot], by rw [slot], ?_, ple.trans (by simp [u]), cye.trans (by simp [u]), nwt.trans (by simp [u]),
      lnc.trans (by simp [u]), tkm.trans (by simp [u]), svc.trans (by simp [u])⟩
    rw [State.reportSlot, slot_of_slc slc, State.setSlot_otherSlot, heard_other]
  · let u := (s.heard sl ms).setSlot sl fun r => r.settled .talking
    obtain ⟨slc, tkm, svc⟩ := reportHolder_live u sl (u.slot sl).grant
    have slot : (u.reportSlot sl .live).slot sl = { (s.slot sl).settled .talking with
        heartbeat := some (now + 15000), idleTimer := none } := by
      rw [State.reportSlot, slot_of_slc slc, State.setSlot_slot, settleIdle_not_idle _ _ (by simp [SlotRec.settled]),
        heard_slot]
      rfl
    refine ⟨u.reportSlot sl .live, exec_live ms running state, by rw [slot]; rfl, by rw [slot]; rfl, by rw [slot]; rfl,
      by rw [slot], by rw [slot]; rfl, ?_, tkm.trans (by simp [u]), svc.trans (by simp [u])⟩
    rw [State.reportSlot, slot_of_slc slc, State.setSlot_otherSlot, heard_other]
  · have := message_unnamed running message past none
    rw [hearModule_sound (s := s.arrive ms) (by rwa [arrive_slot]) (lamp running), arrive_slot] at this
    exact this

end Sys2Proof.Machine
end

section
/-! The end of a carry: what is told, given up, freed, charged and logged (R108, R109). -/

namespace Sys2Proof.Machine

/-! ### Slot records written twice, and releases -/

theorem setSlot_setSlot (s : State) (sl : Slot) (f g : SlotRec → SlotRec) :
    (s.setSlot sl f).setSlot sl g = s.setSlot sl fun r => g ((f r).settleIdle s.clock.now) := by
  cases sl <;> rfl

/-- A slot record written by two ways to one record. -/
theorem setSlot_congr {s : State} {sl : Slot} {f g : SlotRec → SlotRec}
    (same : (f (s.slot sl)).settleIdle s.clock.now = (g (s.slot sl)).settleIdle s.clock.now) :
    s.setSlot sl f = s.setSlot sl g := congrArg (fun r => (s.withSlot sl r).setOutLamp) same

/-- R70: a grant released in IDLE, with nothing waiting at the slot. -/
theorem release_idle {s : State} {sl : Slot} {x : Holder} (grant : (s.slot sl).grant = x) (state : (s.slot sl).state = .idle)
    (quiet : (s.slot sl).NoClaims) : s.release sl x = s.setSlot sl fun r => { r with grant := .nobody } := by
  obtain ⟨noLocal, noCarry, noScan⟩ := quiet
  unfold State.release
  rw [if_pos grant, state]
  refine arbiter_noClaims _ _ ?_
  rw [State.setSlot_slot, settleIdle_eq]
  exact ⟨noLocal, noCarry, noScan⟩

/-- R70: a grant released in CLEARING. -/
theorem release_clearing {s : State} {sl : Slot} {x : Holder} (grant : (s.slot sl).grant = x)
    (state : (s.slot sl).state = .clearing) : s.release sl x = s.setSlot sl fun r => { r with grant := .nobody } := by
  unfold State.release
  rw [if_pos grant, state]

/-! ### The parts of a carry's end (R108) -/

/-- R108: the requester is told. -/
def State.tell (s : State) (c : CarryRec) (told : Option CprgReason) : State :=
  match told with
  | some r => s.hand c.id.requester (.cprg c.id.callId (.failed r))
  | none => s

@[simp] theorem State.tell_frame (s : State) (c : CarryRec) (told : Option CprgReason) :
    (s.tell c told).clock = s.clock ∧ (s.tell c told).cpi = s.cpi ∧ (s.tell c told).xpt = s.xpt ∧
    (s.tell c told).slc = s.slc ∧ (s.tell c told).nwt = s.nwt ∧ (s.tell c told).nbt = s.nbt ∧
    (s.tell c told).adv = s.adv ∧ (s.tell c told).rsl = s.rsl ∧ (s.tell c told).ple = s.ple ∧
    (s.tell c told).cye = s.cye ∧ (s.tell c told).tkm = s.tkm ∧ (s.tell c told).spm = s.spm ∧
    (s.tell c told).cfg = s.cfg ∧ (s.tell c told).svc = s.svc := by
  unfold State.tell
  split <;> simp

/-- R108: the slot given up, the connection broken and the trunk freed. -/
def State.carryFreed (s : State) (c : CarryRec) (told : Option CprgReason) : State :=
  (((s.tell c told).giveUpSlot c).xptBreak (.carry c.id)).freeTrunk c.trunk c.id

/-- R102, R108: the last report of a carry. -/
def State.charge (s : State) (c : CarryRec) (report : Option Report) : State :=
  match report with
  | some r => s.reportEntry c.slot c.code r
  | none => s

@[simp] theorem State.charge_frame (s : State) (c : CarryRec) (report : Option Report) :
    (s.charge c report).clock = s.clock ∧ (s.charge c report).cpi = s.cpi ∧ (s.charge c report).xpt = s.xpt ∧
    (s.charge c report).slc = s.slc ∧ (s.charge c report).nbt = s.nbt ∧ (s.charge c report).rsl = s.rsl ∧
    (s.charge c report).ple = s.ple ∧ (s.charge c report).cye = s.cye ∧ (s.charge c report).tkm = s.tkm ∧
    (s.charge c report).spm = s.spm ∧ (s.charge c report).cfg = s.cfg ∧ (s.charge c report).svc = s.svc := by
  unfold State.charge
  split <;> simp

theorem endCarry_eq (s : State) (c : CarryRec) (told : Option CprgReason) (report : Option Report) (o : LogOutcome) :
    s.endCarry c told true report o =
      (((s.carryFreed c told).charge c report).logAppend (((s.carryFreed c told).charge c report).carryLog c o)).withCye
        (((s.carryFreed c told).charge c report).cye.filter fun d => d.id != c.id) := by
  cases told <;> cases report <;> rfl

/-- R117: a record's trunk freed. -/
theorem freeTrunk_owned {s : State} {tr : Trunk} {id : CarryId} (owned : (s.trunk tr).owner = some id) :
    s.freeTrunk tr id = (s.setTrunk tr .free).hand 0 (.tfre (trunkNum tr)) := if_pos owned

@[simp] theorem State.carryFreed_frame (s : State) (c : CarryRec) (told : Option CprgReason) :
    (s.carryFreed c told).clock = s.clock ∧ (s.carryFreed c told).nwt = s.nwt ∧ (s.carryFreed c told).nbt = s.nbt ∧
    (s.carryFreed c told).adv = s.adv ∧ (s.carryFreed c told).ple = s.ple ∧ (s.carryFreed c told).spm = s.spm ∧
    (s.carryFreed c told).cfg = s.cfg ∧ (s.carryFreed c told).svc = s.svc ∧
    (s.carryFreed c told).slc = ((s.tell c told).giveUpSlot c).slc ∧
    (s.carryFreed c told).cye = ((s.tell c told).giveUpSlot c).cye := by
  simp [State.carryFreed]

/-- R108, R147: the frames of a carry's end, in their order. -/
theorem carryFreed_lnc {s : State} {c : CarryRec} (owned : (s.trunk c.trunk).owner = some c.id) (told : Option CprgReason) :
    (s.carryFreed c told).lnc = ((s.tell c told).hand 0 (.tfre (trunkNum c.trunk))).lnc := by
  have same : (((s.tell c told).giveUpSlot c).xptBreak (.carry c.id)).trunk c.trunk = s.trunk c.trunk :=
    trunk_of_tkm (by simp) _
  rw [State.carryFreed, freeTrunk_owned (by rw [same]; exact owned)]
  exact hand_lnc_congr _ _ (by simp) (by simp) (by simp)

theorem carryFreed_trunks {s : State} {c : CarryRec} (owned : (s.trunk c.trunk).owner = some c.id) (told : Option CprgReason) :
    (s.carryFreed c told).trunk c.trunk = .free ∧ ∀ u, u ≠ c.trunk → (s.carryFreed c told).trunk u = s.trunk u := by
  let v := ((s.tell c told).giveUpSlot c).xptBreak (.carry c.id)
  have same (u : Trunk) : v.trunk u = s.trunk u := trunk_of_tkm (by simp [v]) u
  have freed : s.carryFreed c told = (v.setTrunk c.trunk .free).hand 0 (.tfre (trunkNum c.trunk)) :=
    freeTrunk_owned (by rw [same]; exact owned)
  have trunk (u : Trunk) : (s.carryFreed c told).trunk u = (v.setTrunk c.trunk .free).trunk u :=
    trunk_of_tkm (by rw [freed]; simp) u
  exact ⟨(trunk _).trans (setTrunk_trunk ..), fun u other => (trunk u).trans ((setTrunk_trunk_ne _ _ _ _ other).trans (same u))⟩

theorem carryFreed_joins (s : State) (c : CarryRec) (told : Option CprgReason) :
    (∀ j ∈ (s.carryFreed c told).xpt.joins, j.owner ≠ .carry c.id) ∧
    ∀ j ∈ (s.carryFreed c told).xpt.waiting, j.owner ≠ .carry c.id := by
  have xpt : (s.carryFreed c told).xpt = (((s.tell c told).giveUpSlot c).xptBreak (.carry c.id)).xpt := by
    simp [State.carryFreed]
  rw [xpt]
  exact xptBreak_owner ..

/-- R108, R109: what the end of a carry leaves, whatever giving up its slot grants. -/
theorem endCarry_frees {s : State} {c : CarryRec} (owned : (s.trunk c.trunk).owner = some c.id) (told : Option CprgReason)
    (report : Option Report) (o : LogOutcome) :
    let t := s.endCarry c told true report o
    t.trunk c.trunk = .free ∧ (∀ u, u ≠ c.trunk → t.trunk u = s.trunk u) ∧
    t.svc = { s.svc with log := (c.loggedAs o s.cfg.uptime :: s.svc.log).take 32 } ∧
    (∀ j ∈ t.xpt.joins, j.owner ≠ .carry c.id) ∧ (∀ j ∈ t.xpt.waiting, j.owner ≠ .carry c.id) := by
  obtain ⟨freed, others⟩ := carryFreed_trunks owned told
  obtain ⟨joins, waiting⟩ := carryFreed_joins s c told
  obtain ⟨-, -, xpt, -⟩ := State.charge_frame (s.carryFreed c told) c report
  rw [endCarry_eq]
  refine ⟨(trunk_of_tkm (s := s.carryFreed c told) (by simp) _).trans freed,
    fun u other => (trunk_of_tkm (s := s.carryFreed c told) (by simp) u).trans (others u other), ?_, ?_, ?_⟩
  · simp [State.logAppend, State.carryLog, CarryRec.loggedAs]
  · simpa [xpt] using joins
  · simpa [xpt] using waiting

theorem endCarry_cye {s : State} {c : CarryRec} {told : Option CprgReason} (stands : ((s.tell c told).giveUpSlot c).cye = s.cye)
    (report : Option Report) (o : LogOutcome) :
    (s.endCarry c told true report o).cye = (s.cye.filter fun d => d.id != c.id) ∧
    (s.endCarry c told true report o).svc = { s.svc with log := (c.loggedAs o s.cfg.uptime :: s.svc.log).take 32 } := by
  obtain ⟨-, -, -, -, -, -, -, cye, -⟩ := State.charge_frame (s.carryFreed c told) c report
  obtain ⟨-, -, -, -, -, -, -, -, -, cye'⟩ := State.carryFreed_frame s c told
  rw [endCarry_eq]
  exact ⟨by rw [State.withCye_cye, cye, cye', stands], by simp [State.logAppend, State.carryLog, CarryRec.loggedAs]⟩

/-- R108, R109: what the end of a carry leaves, where giving up the slot grants no other claim. -/
theorem endCarry_ends {s : State} {c : CarryRec} (owned : (s.trunk c.trunk).owner = some c.id) {told : Option CprgReason}
    (stands : ((s.tell c told).giveUpSlot c).cye = s.cye) (report : Option Report) (o : LogOutcome) :
    s.EndsCarry (s.endCarry c told true report o) c o := ⟨(endCarry_cye stands report o).1, endCarry_frees owned told report o⟩

/-- R102, R108: what the end of a carry leaves of slots, tables, line and advert generator. -/
theorem endCarry_leaves (s : State) (c : CarryRec) (told : Option CprgReason)
    (report : Option Report) (o : LogOutcome) :
    let t := s.endCarry c told true report o
    let v := (s.carryFreed c told).charge c report
    t.slc = ((s.tell c told).giveUpSlot c).slc ∧ t.lnc = v.lnc ∧ t.nwt = v.nwt ∧ t.adv = v.adv ∧
    t.nbt = s.nbt ∧ t.ple = s.ple ∧ t.spm = s.spm := by
  intro t v
  have done := endCarry_eq s c told report o
  refine ⟨?_, ?_, ?_, ?_, by simp [t], by simp [t], by simp [t]⟩ <;> simp [t, v, done]

end Sys2Proof.Machine
end

section
/-! A slot that its modem or its deadline takes out of a call: what the end of the carry that holds it leaves, and O44
(R74, R82, R101, R102, R108). -/

namespace Sys2Proof.Machine

/-! ### A carry that ends while its slot is IDLE or CLEARING (R70, R108) -/

/-- R70: a slot that a release frees with no DROP, no REFUSE and no other grant. -/
def SlotRec.LetsGo (r : SlotRec) : Prop := r.state = .clearing ∨ r.state = .idle ∧ r.NoClaims

theorem release_letsGo {s : State} {sl : Slot} {x : Holder} (grant : (s.slot sl).grant = x) (free : (s.slot sl).LetsGo) :
    s.release sl x = s.setSlot sl fun r => { r with grant := .nobody } := by
  obtain clearing | ⟨idle, quiet⟩ := free
  · exact release_clearing grant clearing
  · exact release_idle grant idle quiet

theorem giveUpSlot_release {c : CarryRec} (past : c.state ≠ .queued) (s : State) :
    s.giveUpSlot c = s.release c.slot (.carry c.id) := by
  unfold State.giveUpSlot
  split
  · contradiction
  · rfl

theorem giveUpSlot_letsGo {s : State} {c : CarryRec} (past : c.state ≠ .queued) (grant : (s.slot c.slot).grant = .carry c.id)
    (free : (s.slot c.slot).LetsGo) : s.giveUpSlot c = s.setSlot c.slot fun r => { r with grant := .nobody } :=
  (giveUpSlot_release past s).trans (release_letsGo grant free)

theorem tell_slot (s : State) (c : CarryRec) (told : Option CprgReason) (sl : Slot) : (s.tell c told).slot sl = s.slot sl :=
  slot_of_slc (by simp) sl

/-- R108: what giving up a slot that lets go leaves of slots and queue. -/
theorem giveUpSlot_told {s : State} {c : CarryRec} (past : c.state ≠ .queued) (grant : (s.slot c.slot).grant = .carry c.id)
    (free : (s.slot c.slot).LetsGo) (told : Option CprgReason) :
    ((s.tell c told).giveUpSlot c).slc = (s.setSlot c.slot fun r => { r with grant := .nobody }).slc ∧
    ((s.tell c told).giveUpSlot c).cye = s.cye := by
  rw [giveUpSlot_letsGo past (by rwa [tell_slot]) (by rwa [tell_slot])]
  exact ⟨setSlot_slc_congr (by simp) (by simp) _ _, by simp⟩

/-! ### The queue, the log and the tables after a carry's end (R102, R108, R109) -/

/-- R102: the last report of a carry reaches its entry alone. -/
theorem endCarry_reported (s : State) (c : CarryRec) (told : Option CprgReason) (r : Report) (o : LogOutcome) :
    let t := s.endCarry c told true (some r) o
    t.table c.slot = ((s.table c.slot).map fun e =>
      if e.code = c.code then { e with quality := e.quality.report s.clock.now r } else e) ∧
    t.table (otherSlot c.slot) = s.table (otherSlot c.slot) := by
  intro t
  let v := s.carryFreed c told
  have nwt : t.nwt = (v.reportEntry c.slot c.code r).nwt := (endCarry_leaves s c told (some r) o).2.2.1
  have freed (sl : Slot) : v.table sl = s.table sl := table_of_nwt (by simp [v]) sl
  rw [table_of_nwt nwt, table_of_nwt nwt]
  refine ⟨(tableEvent_table ..).trans ?_, (tableEvent_other ..).trans (freed _)⟩
  rw [freed, show v.clock = s.clock from (State.carryFreed_frame s c told).1]
  rfl

theorem endCarry_unreported (s : State) (c : CarryRec) (told : Option CprgReason) (o : LogOutcome) :
    (s.endCarry c told true none o).nwt = s.nwt ∧ (s.endCarry c told true none o).adv = s.adv := by
  obtain ⟨-, -, nwt, adv, -⟩ := endCarry_leaves s c told none o
  exact ⟨nwt.trans (State.carryFreed_frame s c told).2.1, adv.trans (State.carryFreed_frame s c told).2.2.2.1⟩

/-! ### A dial deadline and a slot's ring limit (R74, R82) -/

theorem drop_slot (s : State) (sl : Slot) : (s.setSlot sl (SlotRec.drop s.clock.now)).slot sl =
    { (s.slot sl).drop s.clock.now with idleTimer := none } := by
  rw [State.setSlot_slot, settleIdle_not_idle _ _ (by simp [SlotRec.drop, SlotRec.send, SlotRec.settled])]

/-- R70, R75: DROP sent first, the grant released after. -/
theorem drop_letGo (s : State) (sl : Slot) :
    ((s.setSlot sl (SlotRec.drop s.clock.now)).setSlot sl fun r => { r with grant := .nobody }) = s.dropped sl := by
  rw [setSlot_setSlot]
  refine setSlot_congr ?_
  rw [settleIdle_not_idle (SlotRec.drop _ _) _ (by simp [SlotRec.drop, SlotRec.send, SlotRec.settled])]
  rfl

theorem exec_slotDeadline {s : State} {sl : Slot} {at_ : Nat} {ringing : Bool} (due : s.Due (s.slot sl).deadline at_)
    (state : (s.slot sl).state = if ringing then .ringing else .dialling) :
    exec (if ringing then .slotRingLimitExpiry sl else .dialDeadlineExpiry sl) s =
      .next ((s.advanceTo at_).dropAndTimeOut sl) := by
  cases ringing
  · exact congrArg Host.Outcome.next (expire_due _ (by simpa [State.deadlineIn, state] using due))
  · exact congrArg Host.Outcome.next (expire_due _ (by simpa [State.deadlineIn, state] using due))

/-- R16, R74, R82: the local call is told of the timeout. -/
theorem dropAndTimeOut_local {s : State} {sl : Slot} (grant : (s.slot sl).grant = .localCall)
    (state : s.ple.state = .dialling ∨ s.ple.state = .ringing) :
    s.dropAndTimeOut sl = (s.dropped sl).endAttempt .timeout := by
  let u := s.setSlot sl (SlotRec.drop s.clock.now)
  have slot : u.slot sl = { (s.slot sl).drop s.clock.now with idleTimer := none } := drop_slot s sl
  have released : u.release sl .localCall = s.dropped sl :=
    (release_letsGo (by rw [slot]; exact grant) (.inl (by rw [slot]; rfl))).trans (drop_letGo s sl)
  have ple : u.ple = s.ple := (State.setSlot_frame ..).2.2.2.2.2.2.2.1
  have reported : u.localReport sl .timeout = u.endOwnAttempt sl .timeout := by
    unfold State.localReport
    obtain state | state := state <;> rw [ple, state]
  have holder : (u.slot sl).grant = .localCall := by rw [slot]; exact grant
  calc s.dropAndTimeOut sl = u.reportHolder sl (u.slot sl).grant .timeout := rfl
    _ = u.endOwnAttempt sl .timeout := by rw [holder]; exact reported
    _ = (s.dropped sl).endAttempt .timeout := congrArg (State.endAttempt · .timeout) released

/-- Settles O44: the local attempt and the carry that a deadline ends with DROP. -/
theorem dialTimeoutDropsTheCarriedCall : Obligations.DialTimeoutDropsTheCarriedCall := by
  unfold Obligations.DialTimeoutDropsTheCarriedCall
  refine ⟨?_, ?_⟩
  · intro s sl at_ code ringing due state grant call route now
    let v := s.advanceTo at_
    have inCall : v.ple.state = .dialling ∨ v.ple.state = .ringing := by cases ringing <;> simp [v, call]
    have slot : v.slot sl = s.slot sl := slot_of_slc (by simp [v]) sl
    have taken : (v.slot sl).state = .dialling ∨ (v.slot sl).state = .ringing ∨ (v.slot sl).state = .talking := by
      rw [slot, state]
      cases ringing <;> simp
    have active : v.ple.state ≠ .idle := by obtain call | call := inCall <;> rw [call] <;> nofun
    have done : v.dropAndTimeOut sl = v.endOwnAttempt sl .timeout :=
      (dropAndTimeOut_local (by rwa [slot]) inCall).trans
        (congrArg (State.endAttempt · .timeout) (release_dropped (by rwa [slot]) taken).symm)
    obtain ⟨st, nobody, request, deadline, sent, ends, waits, table, other⟩ :=
      endOwnAttempt_drops (s := v) route active taken (by rwa [slot])
    obtain ⟨-, -, -, cye, -, nbt, -⟩ := ends.stands
    rw [slot] at sent
    refine ⟨_, (exec_slotDeadline due state).trans (congrArg _ done), ends, st, nobody, request, deadline, sent,
      fun all => ?_, table, other, ?_, ?_, ?_⟩
    · obtain ⟨stands, waiting, -⟩ := waits all
      exact ⟨waiting, stands⟩
    · simp [nbt, v]
    · simp [cye, v]
    · simp [v]
  · intro s sl at_ ringing c queue due state mem at_c grant phase owned now
    subst at_c
    let v := s.advanceTo at_
    let u := v.setSlot c.slot (SlotRec.drop v.clock.now)
    have slot : u.slot c.slot = { (s.slot c.slot).drop now with idleTimer := none } := drop_slot v c.slot
    have holder : (u.slot c.slot).grant = .carry c.id := by rw [slot]; exact grant
    have found : findCarry u.cye c.id = some c :=
      (congrArg (findCarry · c.id) (by simp [u, v])).trans (findCarry_mem queue mem)
    have past : c.state ≠ .queued := by cases ringing <;> simp [phase]
    have done : v.dropAndTimeOut c.slot = u.endCarry c (some .timeout) true (some .failure) (.failed .timeout) := by
      change u.reportHolder c.slot (u.slot c.slot).grant .timeout = _
      rw [holder]
      simp only [State.reportHolder, State.carryReport, found]
    obtain ⟨slc, stands⟩ := giveUpSlot_told past holder (.inl (by rw [slot]; rfl)) (some .timeout)
    obtain ⟨cye, free, trunks, svc, -⟩ := endCarry_ends (s := u) (c := c)
      ((congrArg TrunkEntry.owner (trunk_of_tkm (s := s) (by simp [u, v]) _)).trans owned) stands (some .failure) (.failed .timeout)
    obtain ⟨slots, -, -, -, nbt, ple, -⟩ := endCarry_leaves u c (some .timeout) (some .failure) (.failed .timeout)
    obtain ⟨table, other⟩ := endCarry_reported u c (some .timeout) .failure (.failed .timeout)
    have dropped (k : Slot) : (u.endCarry c (some .timeout) true (some .failure) (.failed .timeout)).slot k = (v.dropped c.slot).slot k :=
      slot_of_slc (slots.trans (slc.trans (congrArg State.slc (drop_letGo v c.slot)))) k
    refine ⟨_, (exec_slotDeadline due state).trans (congrArg _ done), ?_, ?_, ?_, ?_, ?_, ?_, ?_, free, ?_, ?_, ?_, ?_, ?_, ?_⟩
    · rw [dropped, dropped_slot]
    · rw [dropped, dropped_slot]
    · rw [dropped, dropped_slot]
    · rw [dropped, dropped_slot]
      rfl
    · rw [dropped, dropped_slot]
      rfl
    · rw [dropped, dropped_other]
      rfl
    · rw [cye]
      simp [u, v]
    · intro k ne
      exact (trunks k ne).trans (trunk_of_tkm (by simp [u, v]) k)
    · exact ⟨c.loggedAs (.failed .timeout) u.cfg.uptime, by rw [svc]; simp only [u, v, State.setSlot_frame, State.advanceTo_frame],
        rfl, rfl, rfl, rfl, rfl⟩
    · rw [table, table_of_nwt (s := s) (by simp [u, v])]
      simp [u, v, now]
    · rw [other, table_of_nwt (s := s) (by simp [u, v])]
    · rw [ple]
      simp [u, v]
    · rw [nbt]
      simp [u, v]

end Sys2Proof.Machine
end

section
/-! What ADV and LNC read of a state as an entry takes a report (R25, R102, R132), and O38 (R14, R15, R99, R102). -/

namespace Sys2Proof.Machine

/-! ### What ADV and LNC read (R130, R132, R147) -/

/-- Two states that ADV and LNC read alike. -/
structure State.SameAdvert (s t : State) : Prop where
  now : t.clock.now = s.clock.now
  lnc : t.lnc = s.lnc
  adv : t.adv = s.adv
  nwt : t.nwt = s.nwt
  cfg : t.cfg = s.cfg
  supply : t.spm.supply = s.spm.supply
  call : t.ple.state = s.ple.state
  carries : t.cye.length = s.cye.length
  out : ∀ sl, isOut (t.slot sl).state = isOut (s.slot sl).state

theorem State.SameAdvert.capacity {s t : State} (h : s.SameAdvert t) : t.capacity = s.capacity := by
  have a : isOut t.slc.a.state = isOut s.slc.a.state := h.out .a
  have b : isOut t.slc.b.state = isOut s.slc.b.state := h.out .b
  simp only [State.capacity, h.cfg, h.supply, h.carries, a, b]

theorem State.SameAdvert.items {s t : State} (h : s.SameAdvert t) : advertItems t = advertItems s := by
  have same (sl : Slot) : eligible t sl = eligible s sl := by
    simp only [eligible, h.out, table_of_nwt h.nwt, h.cfg]
  simp only [advertItems, same]

theorem State.SameAdvert.buildReach {s t : State} (h : s.SameAdvert t) :
    t.buildReach.lnc = s.buildReach.lnc ∧ t.buildReach.adv = s.buildReach.adv := by
  rw [buildReach_lnc, buildReach_lnc, buildReach_adv, buildReach_adv, reachNow_eq h.adv h.capacity h.supply h.call,
    reachNow_eq (s := s) (t := s) rfl rfl rfl rfl, h.items, h.lnc, h.adv, h.cfg, h.now]
  exact ⟨hand_lnc_own _ _ rfl (own_of_cfg h.cfg) h.now, rfl⟩

/-- R132: an early advert goes out or not as ADV and LNC read the state. -/
theorem State.SameAdvert.watchAdvert {s t : State} (h : s.SameAdvert t) :
    t.watchAdvert.lnc = s.watchAdvert.lnc ∧ t.watchAdvert.adv = s.watchAdvert.adv := by
  have due : t.EarlyAdvertDue (advertItems t) ↔ s.EarlyAdvertDue (advertItems s) := by
    rw [h.items]
    unfold State.EarlyAdvertDue
    rw [h.adv]
  have spaced : t.spacingPassed = s.spacingPassed := by simp only [State.spacingPassed, h.adv, h.now]
  by_cases first : s.own ≠ none ∧ s.EarlyAdvertDue (advertItems s)
  · obtain ⟨own, early⟩ := first
    rw [watchAdvert_due own early, watchAdvert_due (by rwa [own_of_cfg h.cfg]) (due.2 early), spaced]
    split
    · exact h.buildReach
    · exact ⟨h.lnc, congrArg (fun a : Adv => { a with early := true }) h.adv⟩
  · have still : s.own = none ∨ ¬ s.EarlyAdvertDue (advertItems s) := by tauto
    rw [watchAdvert_notDue still, watchAdvert_notDue (still.imp (own_of_cfg h.cfg).trans (mt due.1))]
    exact ⟨h.lnc, h.adv⟩

/-- R58, R132: a report at an entry reaches line and advert generator alike. -/
theorem State.SameAdvert.reportEntry {s t : State} (h : s.SameAdvert t) (sl : Slot) (code : Nat) (r : Report) :
    (t.reportEntry sl code r).lnc = (s.reportEntry sl code r).lnc ∧
    (t.reportEntry sl code r).adv = (s.reportEntry sl code r).adv := by
  have table : t.table sl = s.table sl := table_of_nwt h.nwt sl
  refine State.SameAdvert.watchAdvert (s := s.withTable sl _) (t := t.withTable sl _) ⟨?_, ?_, ?_, ?_, ?_, ?_, ?_, ?_, fun k => ?_⟩
  · simpa using h.now
  · simpa using h.lnc
  · simpa using h.adv
  · rw [table, h.now]
    cases sl <;> simp [State.withTable, h.nwt]
  · simpa using h.cfg
  · simpa using h.supply
  · simpa using h.call
  · simpa using h.carries
  · have slot (v : State) (f : List NetEntry) : (v.withTable sl f).slot k = v.slot k := slot_of_slc (by simp) k
    rw [slot, slot]
    exact h.out k

theorem reportEntry_quiet {s : State} {sl : Slot} {code : Nat} {r : Report}
    (quiet : s.own = none ∨ ¬ s.EarlyAdvertDue (advertItems (s.reportEntry sl code r))) :
    (s.reportEntry sl code r).lnc = s.lnc := by
  let v := s.withTable sl (updateEntry code (fun e => { e with quality := e.quality.report s.clock.now r }) (s.table sl))
  have items : advertItems (s.reportEntry sl code r) = advertItems v := watchAdvert_items v
  have adv : v.adv = s.adv := by simp [v]
  have still : v.watchAdvert = v := by
    refine watchAdvert_notDue (quiet.imp (own_of_cfg (by simp [v])).trans fun h due => h ?_)
    rw [items]
    unfold State.EarlyAdvertDue at due ⊢
    rwa [adv] at due
  exact (congrArg State.lnc still).trans (by simp [v])

/-! ### DACK, RING and LIVE at the local call (R14, R15) -/

theorem localReport_dack {s : State} (sl : Slot) (state : s.ple.state = .dialling) : s.localReport sl .dack =
    (s.enterCallState .ringing).setPle fun p => { p with ringLimit := some (s.clock.now + ringLimitMs) } := by
  unfold State.localReport
  rw [state]

theorem localReport_ring {s : State} (sl : Slot) (state : s.ple.state = .ringing) :
    s.localReport sl .ring = s.xptJoin .localCall .handset (.slot sl) := by
  unfold State.localReport
  rw [state]

theorem localReport_live {s : State} (sl : Slot) (state : s.ple.state = .dialling ∨ s.ple.state = .ringing) :
    s.localReport sl .live = (s.xptJoin .localCall .handset (.slot sl)).enterTalking.reportOutcome .connected := by
  unfold State.localReport
  obtain state | state := state <;> rw [state]

theorem reportSlot_local {s : State} {sl : Slot} (grant : (s.slot sl).grant = .localCall) (r : SlotReport) :
    s.reportSlot sl r = s.localReport sl r := by
  rw [State.reportSlot, grant]
  rfl

theorem reportSlot_carry {s : State} {sl : Slot} {id : CarryId} (grant : (s.slot sl).grant = .carry id) (r : SlotReport) :
    s.reportSlot sl r = s.carryReport id r := by
  rw [State.reportSlot, grant]
  rfl

/-! ### DACK, RING and LIVE at a carry (R99) -/

theorem carryReport_dack {s : State} {c : CarryRec} (found : findCarry s.cye c.id = some c) (state : c.state = .dialling) :
    s.carryReport c.id .dack =
      (s.setCarry c.id fun d => { d with state := .ringing }).hand c.id.requester (.cprg c.id.callId .ringing) := by
  unfold State.carryReport
  rw [found]
  exact if_pos state

theorem carryReport_ring (s : State) (id : CarryId) : s.carryReport id .ring = s := by
  unfold State.carryReport
  split <;> rfl

theorem carryReport_live {s : State} {c : CarryRec} (found : findCarry s.cye c.id = some c)
    (state : c.state = .dialling ∨ c.state = .ringing) :
    s.carryReport c.id .live =
      ((s.setCarry c.id fun d => { d with state := .talking }).hand c.id.requester (.cprg c.id.callId .talking)).reportEntry
        c.slot c.code .credit := by
  unfold State.carryReport
  rw [found]
  exact if_pos state

/-- R99, R102, R132: what a carry's LIVE leaves. -/
theorem carryReport_live_leaves {s u : State} {c : CarryRec} (same : s.SameAdvert u) (cye : u.cye = s.cye)
    (found : findCarry s.cye c.id = some c) (state : c.state = .dialling ∨ c.state = .ringing) :
    let t := u.carryReport c.id .live
    let told := s.hand c.id.requester (.cprg c.id.callId .talking)
    t.table c.slot = ((s.table c.slot).map fun e =>
      if e.code = c.code then { e with quality := e.quality.report s.clock.now .credit } else e) ∧
    t.table (otherSlot c.slot) = s.table (otherSlot c.slot) ∧ (s.own = none → t.lnc = s.lnc) ∧
    (¬ s.EarlyAdvertDue (advertItems t) → t.lnc = told.lnc) ∧ t.lnc = (told.reportEntry c.slot c.code .credit).lnc := by
  intro t told
  let w := (u.setCarry c.id fun d => { d with state := .talking }).hand c.id.requester (.cprg c.id.callId .talking)
  have done : t = w.reportEntry c.slot c.code .credit := carryReport_live (cye ▸ found) state
  have line : w.lnc = told.lnc := hand_lnc_own _ _ same.lnc (own_of_cfg same.cfg) same.now
  have table (sl : Slot) : w.table sl = s.table sl := table_of_nwt ((by simp [w] : w.nwt = u.nwt).trans same.nwt) sl
  have heard : told.SameAdvert w := by
    refine ⟨?_, line, ?_, ?_, ?_, ?_, ?_, ?_, fun sl => ?_⟩
    · simpa [w, told] using same.now
    · simpa [w, told] using same.adv
    · simpa [w, told] using same.nwt
    · simpa [w, told] using same.cfg
    · simpa [w, told] using same.supply
    · simpa [w, told] using same.call
    · simp [w, told, State.setCarry, updateCarry, cye]
    · rw [slot_of_slc (s := u) (t := w) (by simp [w]), slot_of_slc (s := s) (t := told) (by simp [told])]
      exact same.out sl
  have own : w.own = s.own := own_of_cfg ((by simp [w] : w.cfg = u.cfg).trans same.cfg)
  have adv : w.adv = s.adv := (by simp [w] : w.adv = u.adv).trans same.adv
  rw [done]
  refine ⟨?_, ?_, fun isolated => ?_, fun late => ?_, (heard.reportEntry c.slot c.code .credit).1⟩
  · rw [← table, ← same.now, show u.clock = w.clock by simp [w]]
    exact tableEvent_table ..
  · rw [← table]
    exact tableEvent_other ..
  · rw [reportEntry_quiet (.inl (own.trans isolated)), line, hand_lnc, isolated]
  · refine (reportEntry_quiet (.inr fun due => late ?_)).trans line
    unfold State.EarlyAdvertDue at due ⊢
    rwa [adv] at due

theorem settleIdle_grant (r : SlotRec) (now : Nat) : (r.settleIdle now).grant = r.grant := by rw [settleIdle_eq]

/-- A slot that an answer has moved keeps its grant. -/
theorem answered_grant {s : State} {sl : Slot} {ms : Nat} {f : SlotRec → SlotRec} (keeps : ∀ r, (f r).grant = r.grant) :
    (((s.heard sl ms).setSlot sl f).slot sl).grant = (s.slot sl).grant := by
  rw [State.setSlot_slot, settleIdle_grant, keeps, heard_slot]

/-- Settles O38: the two holders of a grant, at each of the three answers. -/
theorem dialAnswersMoveTheHolder : Obligations.DialAnswersMoveTheHolder := by
  unfold Obligations.DialAnswersMoveTheHolder
  refine ⟨?_, ?_⟩
  · intro s sl ms code running grant route now
    refine ⟨fun state call => ?_, fun state call => ?_, fun states => ?_⟩
    · let u := (s.heard sl ms).setSlot sl fun r =>
        { r.settled .ringing with deadline := some ((s.heard sl ms).clock.now + ringLimitMs) }
      have holder : (u.slot sl).grant = .localCall := by
        refine Eq.trans (answered_grant ?_) grant
        exact fun _ => rfl
      have done := (exec_dack ms running state).trans (congrArg _
        ((reportSlot_local holder .dack).trans (localReport_dack sl (by simpa [u] using call))))
      refine ⟨_, done, ?_, ?_, ?_, ?_, ?_⟩
      · simp [State.setPle, u, now, ringLimitMs]
      · simp [State.setPle, u]
      · rw [State.setPle, State.withPle_cpi, enterCallState_cpi]
        exact setLamp_lamp ..
      · simp [State.setPle, u]
      · simp [State.setPle, u]
    · let u := (s.heard sl ms).setSlot sl fun r =>
        if r.rung then r else { r with rung := true, deadline := some ((s.heard sl ms).clock.now + ringLimitMs) }
      have done := (exec_ring ms running state).trans (congrArg _
        ((reportSlot_local (s := u) ((answered_grant fun r => by split <;> rfl).trans grant) .ring).trans
          (localReport_ring sl (by simpa [u] using call))))
      exact ⟨_, done, by simp [u], xptJoin_congr _ _ _ (by simp [u]) (by simp [u])⟩
    · let u := (s.heard sl ms).setSlot sl fun r => r.settled .talking
      let w := (u.xptJoin .localCall .handset (.slot sl)).enterTalking
      have call : u.ple.state = .dialling ∨ u.ple.state = .ringing := by
        obtain ⟨-, call⟩ | ⟨-, call⟩ := states <;> simp [u, call]
      have named : w.reportOutcome .connected = w.reportEntry sl code .credit :=
        reportOutcome_slot (by simpa [w, u, State.enterTalking, State.setPle] using route) .connected
      have holder : (u.slot sl).grant = .localCall := by
        refine Eq.trans (answered_grant ?_) grant
        exact fun _ => rfl
      have done := (exec_live ms running (states.imp And.left And.left)).trans (congrArg _
        ((reportSlot_local holder .live).trans
          ((localReport_live sl call).trans named)))
      refine ⟨_, done, ?_, ?_, ?_, ?_, ?_, ?_, ?_⟩
      · simp [w, u, State.enterTalking, State.setPle]
      · exact (by simp [w] : _ = (u.xptJoin .localCall .handset (.slot sl)).xpt).trans (xptJoin_congr _ _ _ (by simp [u]) (by simp [u]))
      · have cpi : (w.reportEntry sl code .credit).cpi = w.cpi := by simp
        rw [cpi]
        simp only [w, State.enterTalking, State.setPle, State.withPle_cpi, enterCallState_cpi]
        exact setLamp_lamp ..
      · refine (tableEvent_table ..).trans ?_
        rw [table_of_nwt (s := s) (by simp [w, u])]
        simp [w, u, now, updateEntry]
      · exact (tableEvent_other ..).trans (table_of_nwt (by simp [w, u]) _)
      · simp [w, u]
      · simp [w, u]
  · intro s sl ms c running queue mem at_c grant now
    subst at_c
    have found : findCarry s.cye c.id = some c := findCarry_mem queue mem
    refine ⟨fun state call => ?_, fun state => ?_, fun states => ?_⟩
    · let u := (s.heard c.slot ms).setSlot c.slot fun r =>
        { r.settled .ringing with deadline := some ((s.heard c.slot ms).clock.now + ringLimitMs) }
      have cye : u.cye = s.cye := by simp [u]
      have holder : (u.slot c.slot).grant = .carry c.id := by
        refine Eq.trans (answered_grant ?_) grant
        exact fun _ => rfl
      have done := (exec_dack ms running state).trans (congrArg _
        ((reportSlot_carry holder .dack).trans
          (carryReport_dack (cye ▸ found) call)))
      refine ⟨_, done, ?_, ?_, ?_, ?_, ?_⟩
      · simp [State.setCarry, updateCarry, cye]
      · exact hand_lnc_own _ _ (by simp [u]) (own_of_cfg (by simp [u])) (by simp [u])
      · simp [u]
      · simp [u]
      · simp [u]
    · let u := (s.heard c.slot ms).setSlot c.slot fun r =>
        if r.rung then r else { r with rung := true, deadline := some ((s.heard c.slot ms).clock.now + ringLimitMs) }
      have done := (exec_ring ms running state).trans (congrArg _
        ((reportSlot_carry (s := u) ((answered_grant fun r => by split <;> rfl).trans grant) .ring).trans (carryReport_ring u c.id)))
      exact ⟨u, done, by simp [u], by simp [u], by simp [u]⟩
    · let u := (s.heard c.slot ms).setSlot c.slot fun r => r.settled .talking
      have cye : u.cye = s.cye := by simp [u]
      have holder : (u.slot c.slot).grant = .carry c.id := by
        refine Eq.trans (answered_grant ?_) grant
        exact fun _ => rfl
      have done := (exec_live ms running (states.imp And.left And.left)).trans (congrArg _
        (reportSlot_carry holder .live))
      have same : (s.arrive ms).SameAdvert u := by
        refine ⟨by simp [u], by simp [u], by simp [u], by simp [u], by simp [u], by simp [u], by simp [u], by simp [u],
          fun k => ?_⟩
        by_cases at_ : k = c.slot
        · rw [at_, arrive_slot, State.setSlot_slot, settleIdle_eq]
          obtain ⟨state, -⟩ | ⟨state, -⟩ := states <;> rw [state] <;> rfl
        · rw [slot_ne at_, arrive_slot, State.setSlot_otherSlot, heard_other]
      have call := states.imp And.right And.right
      obtain ⟨table, other, isolated, late, line⟩ := carryReport_live_leaves (s := s.arrive ms) same
        (by rw [cye]; simp) (by simpa using found) call
      refine ⟨_, done, ?_, table, other, ?_, ?_, fun own => (isolated own).trans (by simp), late, line⟩
      · rw [carryReport_live (cye ▸ found) call]
        simp [State.setCarry, updateCarry, cye]
      · rw [carryReport_live (cye ▸ found) call]
        simp [u]
      · rw [carryReport_live (cye ▸ found) call]
        simp [u]

end Sys2Proof.Machine
end

section
/-! A slot that its modem lets go: IDLE with no DROP (R16, R80, R84), before or after its table takes an event, and O39
(R16, R56, R80, R81, R101). -/

namespace Sys2Proof.Machine

/-! ### Table events and slot records (R61, R132) -/

/-- R132: looking at the first item changes line and advert generator alone. -/
theorem watchAdvert_eq (s : State) : s.watchAdvert = (s.withLnc s.watchAdvert.lnc).withAdv s.watchAdvert.adv := by
  have handed (v : State) (d : Nat) (b : Body) : v.hand d b = v.withLnc (v.hand d b).lnc := by
    unfold State.hand State.sendIfQuiet
    cases v.own <;> dsimp only
    · rfl
    · repeat' split
      all_goals rfl
  unfold State.watchAdvert
  split
  · split
    · unfold State.buildReach
      dsimp only
      rw [handed]
      rfl
    · rfl
  · rfl

/-- R61, R132: an event of a table commutes with a change of a slot record that leaves the slot in or out as it was. -/
theorem setSlot_tableEvent {s : State} {sl : Slot} {g : SlotRec → SlotRec}
    (out : isOut (g (s.slot sl)).state = isOut (s.slot sl).state) (k : Slot) (f : List NetEntry → List NetEntry) :
    (s.tableEvent k f).setSlot sl g = (s.setSlot sl g).tableEvent k f := by
  let x := s.withTable k (f (s.table k))
  let y := x.setSlot sl g
  have other : (s.setSlot sl g).tableEvent k f = y.watchAdvert := by
    refine congrArg State.watchAdvert ?_
    cases sl <;> cases k <;> rfl
  have slot (l : Slot) : x.slot l = s.slot l := slot_of_slc (by simp [x]) l
  have same : x.SameAdvert y := by
    refine ⟨by simp [y], by simp [y], by simp [y], by simp [y], by simp [y], by simp [y], by simp [y], by simp [y], fun l => ?_⟩
    by_cases at_ : l = sl
    · rw [at_, State.setSlot_slot, settleIdle_eq, slot, ← out]
    · rw [slot_ne at_, State.setSlot_otherSlot]
  obtain ⟨lnc, adv⟩ := same.watchAdvert
  have written (l : Lnc) (a : Adv) : ((x.withLnc l).withAdv a).setSlot sl g = (y.withLnc l).withAdv a := by cases sl <;> rfl
  calc (s.tableEvent k f).setSlot sl g = x.watchAdvert.setSlot sl g := rfl
    _ = ((x.withLnc x.watchAdvert.lnc).withAdv x.watchAdvert.adv).setSlot sl g := by rw [← watchAdvert_eq]
    _ = (y.withLnc y.watchAdvert.lnc).withAdv y.watchAdvert.adv := by rw [written, lnc, adv]
    _ = (s.setSlot sl g).tableEvent k f := by rw [← watchAdvert_eq, other]

theorem setSlot_barEntry {s : State} {sl : Slot} {g : SlotRec → SlotRec}
    (out : isOut (g (s.slot sl)).state = isOut (s.slot sl).state) (k : Slot) (code : Nat) :
    (s.barEntry k code).setSlot sl g = (s.setSlot sl g).barEntry k code := by
  rw [State.barEntry, State.barEntry, setSlot_tableEvent out]
  rw [(State.setSlot_frame s sl g).2.2.2.2.2.2.2.2.2.2.2.2.1]

theorem setSlot_reportEntry {s : State} {sl : Slot} {g : SlotRec → SlotRec}
    (out : isOut (g (s.slot sl)).state = isOut (s.slot sl).state) (k : Slot) (code : Nat) (r : Report) :
    (s.reportEntry k code r).setSlot sl g = (s.setSlot sl g).reportEntry k code r := by
  rw [State.reportEntry, State.reportEntry, setSlot_tableEvent out]
  rw [(State.setSlot_frame s sl g).2.1]

/-- R132: what ADV has looked at it does not find due again. -/
theorem watchAdvert_watchAdvert (s : State) : s.watchAdvert.watchAdvert = s.watchAdvert := by
  by_cases first : s.own ≠ none ∧ s.EarlyAdvertDue (advertItems s)
  · obtain ⟨own, due⟩ := first
    have done := watchAdvert_due own due
    by_cases spaced : s.spacingPassed = true
    · rw [if_pos spaced] at done
      refine watchAdvert_notDue (.inr ?_)
      rw [watchAdvert_items, done]
      unfold State.EarlyAdvertDue
      rw [buildReach_adv]
      cases advertItems s <;> simp [bestOf]
    · rw [if_neg spaced] at done
      have again : s.watchAdvert.spacingPassed = s.spacingPassed := by rw [done]; rfl
      rw [watchAdvert_due (s := s.watchAdvert) (by rwa [own_of_cfg (s := s) (by simp)]) ?_, again, if_neg spaced]
      · rw [done]
        rfl
      · rw [watchAdvert_items, done]
        exact due
  · have still := watchAdvert_notDue (s := s) (by tauto)
    rw [still, still]

/-- R25, R58: a report that changes nothing. -/
theorem reportEntry_noChange (s : State) (sl : Slot) (f : List NetEntry → List NetEntry) (code : Nat) :
    (s.tableEvent sl f).reportEntry sl code .noChange = s.tableEvent sl f := by
  have same (es : List NetEntry) : updateEntry code (fun e => { e with quality := e.quality.report (s.tableEvent sl f).clock.now .noChange }) es = es := by
    simp [updateEntry, Quality.report]
  have table (v : State) : v.withTable sl (v.table sl) = v := by cases sl <;> rfl
  rw [State.reportEntry]
  unfold State.tableEvent at same ⊢
  rw [same, table, watchAdvert_watchAdvert]

/-! ### A slot let go by its modem (R16, R80, R84) -/

/-- R71: the idle timer of a slot whose grant is held. -/
theorem settleIdle_held (r : SlotRec) (now : Nat) (held : r.grant ≠ .nobody) : r.settleIdle now = { r with idleTimer := none } := by
  simp [SlotRec.settleIdle, SlotRec.isUnused, held]

/-- The slot is IDLE with nothing outstanding, its grant still held. -/
def State.settledIdle (s : State) (sl : Slot) (ms : Nat) : State := (s.heard sl ms).setSlot sl fun r => r.settled .idle

@[simp] theorem State.settledIdle_frame (s : State) (sl : Slot) (ms : Nat) :
    (s.settledIdle sl ms).clock = (s.arrive ms).clock ∧ (s.settledIdle sl ms).xpt = s.xpt ∧
    (s.settledIdle sl ms).nwt = s.nwt ∧ (s.settledIdle sl ms).nbt = s.nbt ∧ (s.settledIdle sl ms).adv = s.adv ∧
    (s.settledIdle sl ms).rsl = s.rsl ∧ (s.settledIdle sl ms).ple = s.ple ∧ (s.settledIdle sl ms).cye = s.cye ∧
    (s.settledIdle sl ms).tkm = s.tkm ∧ (s.settledIdle sl ms).lnc = s.lnc ∧ (s.settledIdle sl ms).spm = s.spm ∧
    (s.settledIdle sl ms).cfg = s.cfg ∧ (s.settledIdle sl ms).svc = s.svc := by
  simp [State.settledIdle]

theorem settledIdle_slot (s : State) (sl : Slot) (ms : Nat) : (s.settledIdle sl ms).slot sl =
    { (s.slot sl).settled .idle with
      heartbeat := some ((s.arrive ms).clock.now + 15000), idleTimer := ((s.settledIdle sl ms).slot sl).idleTimer } := by
  rw [State.settledIdle, State.setSlot_slot, heard_slot]
  exact settleIdle_eq ..

/-- R16, R80, R84: the grant released after. -/
theorem settledIdle_letGo {s : State} {sl : Slot} (ms : Nat) (busy : (s.slot sl).state ≠ .idle)
    (held : (s.slot sl).grant ≠ .nobody) :
    ((s.settledIdle sl ms).setSlot sl fun r => { r with grant := .nobody }) = (s.arrive ms).idled sl := by
  have clock (f : SlotRec → SlotRec) : ((s.arrive ms).setSlot sl f).clock = (s.arrive ms).clock := by simp
  have slot : (s.arrive ms).slot sl = s.slot sl := arrive_slot s ms sl
  rw [State.settledIdle, State.heard, State.hearModule, setSlot_setSlot, setSlot_setSlot, clock]
  let now := (s.arrive ms).clock.now
  let r : SlotRec := { s.slot sl with heartbeat := some (now + heartbeatMs) }
  let quiet : SlotRec := { r with idleTimer := none }
  have heard : r.settleIdle now = quiet := settleIdle_not_idle r now busy
  have idle : (quiet.settled .idle).settleIdle now = { quiet.settled .idle with idleTimer := none } :=
    settleIdle_held _ now held
  refine setSlot_congr ?_
  rw [slot]
  change ({ ((r.settleIdle now).settled .idle).settleIdle now with grant := .nobody } : SlotRec).settleIdle now = _
  rw [heard, idle]
  rfl

theorem idled_slot (s : State) (sl : Slot) : (s.idled sl).slot sl =
    { s.slot sl with
      state := .idle, grant := .nobody, request := .nothing, deadline := none, repeatsDue := 0, rung := false,
      heartbeat := some (s.clock.now + 15000), idleTimer := ((s.idled sl).slot sl).idleTimer } := by
  rw [State.idled, State.setSlot_slot]
  exact settleIdle_eq ..

@[simp] theorem idled_other (s : State) (sl : Slot) : (s.idled sl).slot (otherSlot sl) = s.slot (otherSlot sl) := by
  simp [State.idled]

@[simp] theorem State.idled_frame (s : State) (sl : Slot) :
    (s.idled sl).clock = s.clock ∧ (s.idled sl).xpt = s.xpt ∧ (s.idled sl).nwt = s.nwt ∧
    (s.idled sl).nbt = s.nbt ∧ (s.idled sl).adv = s.adv ∧ (s.idled sl).rsl = s.rsl ∧ (s.idled sl).ple = s.ple ∧
    (s.idled sl).cye = s.cye ∧ (s.idled sl).tkm = s.tkm ∧ (s.idled sl).lnc = s.lnc ∧ (s.idled sl).spm = s.spm ∧
    (s.idled sl).cfg = s.cfg ∧ (s.idled sl).svc = s.svc := by
  simp [State.idled]

/-! ### The heartbeat watch while routes are taken (R65) -/

theorem setSlot_heartbeat {s : State} {sl : Slot} {f : SlotRec → SlotRec} (keeps : (f (s.slot sl)).heartbeat = (s.slot sl).heartbeat)
    (k : Slot) : ((s.setSlot sl f).slot k).heartbeat = (s.slot k).heartbeat := by
  by_cases at_ : k = sl
  · rw [at_, State.setSlot_slot, settleIdle_eq, ← keeps]
  · rw [slot_ne at_, State.setSlot_otherSlot]

theorem requestDial_heartbeat (s : State) (sl : Slot) (x : Holder) (code : Nat) (k : Slot) :
    ((s.requestDial sl x code).slot k).heartbeat = (s.slot k).heartbeat := by
  unfold State.requestDial
  split
  · exact setSlot_heartbeat rfl k
  · rfl

theorem placeClaim_heartbeat (s : State) (sl : Slot) (k : Slot) :
    ((s.placeClaim sl (.localCall .dial)).slot k).heartbeat = (s.slot k).heartbeat := by
  let u := s.setSlot sl (SlotRec.addClaim (.localCall .dial))
  have claimed (l : Slot) : (u.slot l).heartbeat = (s.slot l).heartbeat := setSlot_heartbeat rfl l
  have waits : (u.slot sl).waitingLocal = some .dial := by
    rw [State.setSlot_slot, settleIdle_eq]
    rfl
  unfold State.placeClaim
  dsimp only
  split
  · split
    · exact (setSlot_heartbeat rfl k).trans (claimed k)
    · exact claimed k
  · by_cases free : (u.slot sl).state = .idle ∧ (u.slot sl).grant = .nobody
    · rw [arbiter_dial free.1 free.2 waits, State.grantLocal, requestDial_heartbeat]
      exact (setSlot_heartbeat rfl k).trans (claimed k)
    · rw [arbiter_busy _ _ (by tauto)]
      exact claimed k

theorem tryRoutes_heartbeat (cs : List Candidate) (v : State) (k : Slot) :
    ((State.tryRoutes cs v).slot k).heartbeat = (v.slot k).heartbeat := by
  induction cs generalizing v with
  | nil => rw [slot_of_slc (s := v) (by simp [State.tryRoutes])]
  | cons c cs ih =>
    rw [State.tryRoutes]
    split
    · rw [ih, slot_of_slc (s := v) (by simp)]
    · split
      · rw [slot_of_slc (s := v) (by simp)]
      · split
        · rw [ih, slot_of_slc (s := v) (by simp)]
        · rw [State.beginOwn, placeClaim_heartbeat, slot_of_slc (s := v) (by simp)]

theorem endAttempt_heartbeat (s : State) (o : Machine.Outcome) (k : Slot) :
    ((s.endAttempt o).slot k).heartbeat = (s.slot k).heartbeat := by
  rw [State.endAttempt, State.nextAttempt, tryRoutes_heartbeat, slot_of_slc (s := s) (by simp)]

end Sys2Proof.Machine
end

section
/-! The answers that end a dial: DNAK and DRTY (R16, R56, R80, R81, R101, R102). -/

namespace Sys2Proof.Machine

/-! ### The commands (R80, R81) -/

theorem settledIdle_state (s : State) (sl : Slot) (ms : Nat) : ((s.settledIdle sl ms).slot sl).state = .idle := by
  rw [settledIdle_slot]
  rfl

theorem settledIdle_grant (s : State) (sl : Slot) (ms : Nat) : ((s.settledIdle sl ms).slot sl).grant = (s.slot sl).grant := by
  rw [settledIdle_slot]
  rfl

theorem settledIdle_letsGo {s : State} {sl : Slot} (ms : Nat) (quiet : (s.slot sl).NoClaims) :
    ((s.settledIdle sl ms).slot sl).LetsGo := by
  refine .inr ⟨settledIdle_state s sl ms, ?_⟩
  rw [settledIdle_slot]
  exact quiet

theorem exec_dnak {s : State} {sl : Slot} {ms code : Nat} (reason : DnakReason) (running : s.phase = .running)
    (state : (s.slot sl).state = .dialling) (request : (s.slot sl).request = .dial code) :
    exec (.dnak sl reason ms) s = .next ((if reason = .barred then (s.settledIdle sl ms).barEntry sl code
      else s.settledIdle sl ms).reportSlot sl (.dnak reason)) := by
  have dialled : ((s.heard sl ms).slot sl).dialCode = code := by
    rw [SlotRec.dialCode, heard_slot]
    dsimp only
    rw [request]
  refine congrArg Host.Outcome.next ((hear_pastWarmUp ms _ running (by rw [state]; rfl)).trans
    ((if_pos ((heard_state s sl ms).trans state)).trans ?_))
  change (if reason = .barred then (s.settledIdle sl ms).barEntry sl ((s.heard sl ms).slot sl).dialCode
      else s.settledIdle sl ms).reportSlot sl (.dnak reason) = _
  rw [dialled]

theorem exec_drty {s : State} {sl : Slot} (ms : Nat) (running : s.phase = .running) (state : (s.slot sl).state = .dialling) :
    exec (.drty sl ms) s = .next (if (s.slot sl).repeats < 2 then (s.heard sl ms).setSlot sl SlotRec.repeatLater
      else (s.settledIdle sl ms).reportSlot sl .retry) := by
  refine congrArg Host.Outcome.next ((hear_pastWarmUp ms _ running (by rw [state]; rfl)).trans
    ((if_pos ((heard_state s sl ms).trans state)).trans ?_))
  have repeats : ((s.heard sl ms).slot sl).repeats = (s.slot sl).repeats := by rw [heard_slot]
  change (if ((s.heard sl ms).slot sl).repeats < 2 then _ else _) = _
  rw [repeats]
  rfl

/-- R65: the heartbeat watch written first or with what the message changes, in a slot that stays out of IDLE. -/
theorem heard_setSlot {s : State} {sl : Slot} (ms : Nat) {f : SlotRec → SlotRec} (busy : (s.slot sl).state ≠ .idle)
    (state : ∀ r, (f r).state = r.state) (timer : ∀ (r : SlotRec) i, { f { r with idleTimer := i } with idleTimer := none } =
      { f r with idleTimer := none }) :
    (s.heard sl ms).setSlot sl f =
      (s.arrive ms).setSlot sl fun r => f { r with heartbeat := some ((s.arrive ms).clock.now + 15000) } := by
  let r : SlotRec := { s.slot sl with heartbeat := some ((s.arrive ms).clock.now + heartbeatMs) }
  have stays (i : Option Nat) : (f { r with idleTimer := i }).state ≠ .idle := by rw [state]; exact busy
  rw [State.heard, State.hearModule, setSlot_setSlot]
  refine setSlot_congr ?_
  rw [arrive_slot]
  change (f (r.settleIdle _)).settleIdle _ = (f r).settleIdle _
  rw [settleIdle_not_idle r _ busy, settleIdle_not_idle _ _ (stays none), settleIdle_not_idle (f r) _ (stays r.idleTimer), timer]

/-! ### Reports that end a dial (R16, R101) -/

theorem localReport_dnak {s : State} (sl : Slot) (state : s.ple.state = .dialling) (d : DnakReason) :
    s.localReport sl (.dnak d) = s.endOwnAttempt sl (dnakOutcome d) := by
  unfold State.localReport
  rw [state]

theorem localReport_retry {s : State} (sl : Slot) (state : s.ple.state = .dialling) :
    s.localReport sl .retry = s.endOwnAttempt sl .retry := by
  unfold State.localReport
  rw [state]

theorem carryReport_dnak {s : State} {c : CarryRec} (found : findCarry s.cye c.id = some c) (d : DnakReason) :
    s.carryReport c.id (.dnak d) = s.endCarry c (some (dnakToCprg d)) true (dnakReport d) (.failed (dnakToCprg d)) := by
  unfold State.carryReport
  rw [found]

theorem carryReport_retry {s : State} {c : CarryRec} (found : findCarry s.cye c.id = some c) :
    s.carryReport c.id .retry = s.endCarry c (some .retry) true (some .failure) (.failed .retry) := by
  unfold State.carryReport
  rw [found]

/-- R11, R26: with every route tried, a slot that was let go stays IDLE and the record waits. -/
theorem endAttempt_idled {s v : State} {sl : Slot} {ms : Nat} (slc : v.slc = ((s.arrive ms).idled sl).slc) (ple : v.ple = s.ple)
    (rsl : v.rsl = s.rsl) (clock : v.clock = (s.arrive ms).clock) (o : Machine.Outcome) (all : s.AllTried) :
    let t := v.endAttempt o
    (t.slot sl).state = .idle ∧ (t.slot sl).grant = .nobody ∧ (t.slot sl).deadline = none ∧ (t.slot sl).request = .nothing ∧
    (t.slot sl).sent = (s.slot sl).sent ∧ t.slot (otherSlot sl) = s.slot (otherSlot sl) ∧ t.ple.state = .waiting ∧
    t.ple.pauseTimer = some ((s.arrive ms).clock.now + s.ple.pauseLength * 1000) ∧ t.ple.attempts = s.ple.attempts := by
  intro t
  obtain ⟨waiting, -, slots⟩ := endAttempt_allTried_leaves (s := v) o rfl (by
    unfold State.AllTried
    rw [rsl, ple]
    exact all)
  have slot (k : Slot) : t.slot k = ((s.arrive ms).idled sl).slot k := slot_of_slc (slots.trans slc) k
  rw [waiting, slot, slot, idled_slot, idled_other, arrive_slot, arrive_slot, ple, clock]
  exact ⟨rfl, rfl, rfl, rfl, rfl, rfl, rfl, rfl, rfl⟩

/-- R101, R108: the end of a carry whose slot was let go. -/
theorem endCarry_idled {s w : State} {c : CarryRec} {ms : Nat} (slc : w.slc = (s.settledIdle c.slot ms).slc)
    (clock : w.clock = (s.arrive ms).clock) (busy : (s.slot c.slot).state ≠ .idle) (quiet : (s.slot c.slot).NoClaims)
    (grant : (s.slot c.slot).grant = .carry c.id) (past : c.state ≠ .queued) (told : Option CprgReason) :
    ((w.tell c told).giveUpSlot c).slc = ((s.arrive ms).idled c.slot).slc ∧ ((w.tell c told).giveUpSlot c).cye = w.cye := by
  have slot : w.slot c.slot = (s.settledIdle c.slot ms).slot c.slot := slot_of_slc slc _
  obtain ⟨given, stands⟩ := giveUpSlot_told (s := w) past (by rw [slot, settledIdle_grant]; exact grant)
    (by rw [slot]; exact settledIdle_letsGo ms quiet) told
  refine ⟨given.trans ?_, stands⟩
  rw [← settledIdle_letGo ms busy (by rw [grant]; nofun)]
  exact setSlot_slc_congr slc (clock.trans (by simp)) _ _

theorem ownReport_dnak (reason : DnakReason) (other : reason ≠ .barred) : ownReport (dnakOutcome reason) = .failure := by
  cases reason with
  | barred => contradiction
  | noService | rejected => rfl

/-- R16, R56, R80: a DNAK at the local call. -/
theorem dnak_local {s : State} {sl : Slot} {ms code : Nat} (reason : DnakReason) (state : (s.slot sl).state = .dialling)
    (grant : (s.slot sl).grant = .localCall) (quiet : (s.slot sl).NoClaims) (call : s.ple.state = .dialling) :
    (if reason = .barred then (s.settledIdle sl ms).barEntry sl code else s.settledIdle sl ms).reportSlot sl (.dnak reason) =
      (if reason = .barred then ((s.arrive ms).idled sl).barEntry sl code else (s.arrive ms).idled sl).endAttempt
        (dnakOutcome reason) := by
  have busy : (s.slot sl).state ≠ .idle := by rw [state]; nofun
  have released := settledIdle_letGo ms busy (by rw [grant]; nofun)
  have ends {w v : State} (slot : w.slot sl = (s.settledIdle sl ms).slot sl) (ple : w.ple = s.ple)
      (letGo : (w.setSlot sl fun r => { r with grant := .nobody }) = v) :
      w.reportSlot sl (.dnak reason) = v.endAttempt (dnakOutcome reason) := by
    have holder : (w.slot sl).grant = .localCall := by rw [slot, settledIdle_grant]; exact grant
    rw [reportSlot_local holder, localReport_dnak sl (by rwa [ple]), State.endOwnAttempt,
      release_letsGo holder (by rw [slot]; exact settledIdle_letsGo ms quiet), letGo]
  split
  · refine ends (slot_of_slc (by simp) _) (by simp) ?_
    rw [setSlot_barEntry rfl, released]
  · exact ends rfl (by simp) released

/-- R16, R25, R56: what the end of a refused local dial leaves, once its outcome is reported. -/
theorem dnak_local_ends {s : State} {sl : Slot} {ms code : Nat} (reason : DnakReason)
    (route : s.ple.route = some ⟨.slot sl, some code⟩) (call : s.ple.state = .dialling) :
    let v := (s.arrive ms).idled sl
    let w := if reason = .barred then v.barEntry sl code else v
    State.EndsAttempt (if reason = .barred then v.barEntry sl code else v.reportEntry sl code .failure)
      (w.endAttempt (dnakOutcome reason)) (s.arrive ms).clock.now := by
  intro v w
  have frame : w.ple = s.ple ∧ w.clock = (s.arrive ms).clock := by
    simp only [w]
    split <;> simp [v]
  obtain ⟨ple, clock⟩ := frame
  obtain ⟨ends, -⟩ := endAttempt_own (s := w) (dnakOutcome reason) (by rwa [ple]) (by rw [ple, call]; nofun)
  have charged : w.reportEntry sl code (ownReport (dnakOutcome reason)) =
      if reason = .barred then v.barEntry sl code else v.reportEntry sl code .failure := by
    simp only [w]
    split
    · rename_i barred
      subst barred
      exact reportEntry_noChange ..
    · rename_i other
      rw [ownReport_dnak reason other]
  rwa [charged, clock] at ends

/-- R16, R81: the third DRTY at the local call. -/
theorem retry_local {s : State} {sl : Slot} {ms : Nat} (state : (s.slot sl).state = .dialling)
    (grant : (s.slot sl).grant = .localCall) (quiet : (s.slot sl).NoClaims) (call : s.ple.state = .dialling) :
    (s.settledIdle sl ms).reportSlot sl .retry = ((s.arrive ms).idled sl).endAttempt .retry := by
  have holder : ((s.settledIdle sl ms).slot sl).grant = .localCall := by rw [settledIdle_grant]; exact grant
  rw [reportSlot_local holder, localReport_retry sl (by simpa using call), State.endOwnAttempt,
    release_letsGo holder (settledIdle_letsGo ms quiet),
    settledIdle_letGo ms (by rw [state]; nofun) (by rw [grant]; nofun)]

/-- R101: what a DNAK makes of the carry that holds the grant. -/
theorem dnak_carry {s : State} {c : CarryRec} {ms : Nat} (reason : DnakReason) (queue : s.QueueSound) (mem : c ∈ s.cye)
    (grant : (s.slot c.slot).grant = .carry c.id) :
    let w := if reason = .barred then (s.settledIdle c.slot ms).barEntry c.slot c.code else s.settledIdle c.slot ms
    w.reportSlot c.slot (.dnak reason) =
      w.endCarry c (some (dnakToCprg reason)) true (dnakReport reason) (.failed (dnakToCprg reason)) := by
  intro w
  have frame : w.cye = s.cye ∧ w.slc = (s.settledIdle c.slot ms).slc := by
    simp only [w]
    split <;> simp
  obtain ⟨cye, slc⟩ := frame
  rw [reportSlot_carry (by rw [slot_of_slc slc, settledIdle_grant]; exact grant),
    carryReport_dnak (by rw [cye]; exact findCarry_mem queue mem)]

/-- R56, R102: what a refused carried dial makes of its entry. -/
theorem dnak_carry_tables (u : State) (c : CarryRec) (reason : DnakReason) (told : Option CprgReason) (o : LogOutcome) :
    let w := if reason = .barred then u.barEntry c.slot c.code else u
    let t := w.endCarry c told true (dnakReport reason) o
    t.table c.slot = ((u.table c.slot).map fun e =>
      if e.code = c.code then
        (if reason = .barred then { e with barredUntil := some (u.cfg.uptime + 300) }
          else { e with quality := e.quality.report u.clock.now .failure })
      else e) ∧
    t.table (otherSlot c.slot) = u.table (otherSlot c.slot) := by
  cases reason with
  | barred =>
    have nwt := (endCarry_unreported (u.barEntry c.slot c.code) c told o).1
    exact ⟨(table_of_nwt nwt _).trans (tableEvent_table ..), (table_of_nwt nwt _).trans (tableEvent_other ..)⟩
  | noService | rejected => exact endCarry_reported u c told .failure o

/-- Settles O39: the refusals and the retries, for both holders. -/
theorem dialRefusalsAndRetries : Obligations.DialRefusalsAndRetries := by
  unfold Obligations.DialRefusalsAndRetries
  refine ⟨?_, ?_, ?_, ?_, ?_, ?_⟩
  · intro s sl reason ms code running state grant request quiet call route now v
    let w := if reason = .barred then v.barEntry sl code else v
    have ends : State.EndsAttempt _ (w.endAttempt (dnakOutcome reason)) now := dnak_local_ends reason route call
    obtain ⟨-, svc, tkm, cye, nwt, nbt, -⟩ := ends.stands
    have frame : w.ple = s.ple ∧ w.rsl = s.rsl ∧ w.clock = (s.arrive ms).clock ∧ w.slc = v.slc := by
      simp only [w]
      split <;> simp [v]
    obtain ⟨ple, rsl, clock, slc⟩ := frame
    refine ⟨_, (exec_dnak reason running state request).trans (congrArg _ (dnak_local reason state grant quiet call)), ends,
      ?_, fun all => ?_, ?_, ?_, ?_, ?_, ?_, ?_⟩
    · rw [endAttempt_heartbeat, slot_of_slc slc, idled_slot]
    · obtain ⟨idle, nobody, deadline, nothing, sent, other, waiting, pause, attempts⟩ :=
        endAttempt_idled slc ple rsl clock (dnakOutcome reason) all
      exact ⟨idle, nobody, deadline, nothing, sent, other, waiting, pause, attempts⟩
    · rw [table_of_nwt nwt]
      by_cases barred : reason = .barred
      · simp only [if_pos barred]
        refine (tableEvent_table ..).trans ?_
        rw [table_of_nwt (s := s) (by simp)]
        simp [updateEntry, barSeconds]
      · simp only [if_neg barred]
        refine (tableEvent_table ..).trans ?_
        rw [table_of_nwt (s := s) (by simp)]
        simp [updateEntry, now]
    · rw [table_of_nwt nwt]
      split <;> exact (tableEvent_other ..).trans (table_of_nwt (by simp) _)
    · rw [nbt]
      split <;> simp
    · rw [cye]
      split <;> simp
    · rw [svc]
      split <;> simp
    · rw [tkm]
      split <;> simp
  · intro s sl reason ms c running state request quiet queue mem grant at_c phase owned
    subst at_c
    let u := s.settledIdle c.slot ms
    let w := if reason = .barred then u.barEntry c.slot c.code else u
    have frame : w.slc = u.slc ∧ w.clock = (s.arrive ms).clock ∧ w.cye = s.cye ∧ w.tkm = s.tkm ∧ w.svc = s.svc ∧
        w.ple = s.ple ∧ w.nbt = s.nbt := by
      simp only [w]
      split <;> simp [u]
    obtain ⟨slc, clock, cye, tkm, svc, ple, nbt⟩ := frame
    obtain ⟨slots, stands⟩ := endCarry_idled slc clock (by rw [state]; nofun) quiet grant (by rw [phase]; nofun)
      (some (dnakToCprg reason))
    obtain ⟨queue', free, trunks, log, -⟩ := endCarry_ends (s := w) (c := c)
      ((congrArg TrunkEntry.owner (trunk_of_tkm tkm _)).trans owned) stands (dnakReport reason) (.failed (dnakToCprg reason))
    obtain ⟨slc', -, -, -, nbt', ple', -⟩ := endCarry_leaves w c (some (dnakToCprg reason)) (dnakReport reason)
      (.failed (dnakToCprg reason))
    obtain ⟨table, other⟩ := dnak_carry_tables u c reason (some (dnakToCprg reason)) (.failed (dnakToCprg reason))
    let t := w.endCarry c (some (dnakToCprg reason)) true (dnakReport reason) (.failed (dnakToCprg reason))
    have slot (k : Slot) : t.slot k = ((s.arrive ms).idled c.slot).slot k := slot_of_slc (slc'.trans slots) k
    refine ⟨t, (exec_dnak reason running state request).trans (congrArg _ (dnak_carry reason queue mem grant)), ?_, ?_, ?_,
      ?_, ?_, queue'.trans (by rw [cye]), free, fun k ne => (trunks k ne).trans (trunk_of_tkm tkm k), ?_,
      ?_, ?_, ple'.trans ple, nbt'.trans nbt⟩
    · rw [slot, idled_slot]
    · rw [slot, idled_slot]
    · rw [slot, idled_slot]
    · rw [slot, idled_slot, arrive_slot]
    · rw [slot, idled_other, arrive_slot]
    · refine ⟨c.loggedAs (.failed (dnakToCprg reason)) w.cfg.uptime, by rw [log, svc], rfl, rfl, rfl, ?_⟩
      cases reason <;> rfl
    · rw [table, table_of_nwt (s := s) (by simp [u])]
      simp [u]
    · rw [other, table_of_nwt (s := s) (by simp [u])]
  · intro s sl ms running state few
    refine (exec_drty ms running state).trans (congrArg _ ((if_pos few).trans ?_))
    rw [heard_setSlot (f := SlotRec.repeatLater) ms (by rw [state]; nofun) (fun _ => rfl) (fun _ _ => rfl)]
    rfl
  · intro s sl ms code running state due request
    refine congrArg Host.Outcome.next ((whenRunning_running _ running).trans ((if_pos ?_).trans (setSlot_congr ?_)))
    · rw [arrive_slot]
      exact ⟨state, by omega⟩
    · have dialled : (s.slot sl).dialCode = code := by rw [SlotRec.dialCode, request]
      have last : (s.slot sl).repeatsDue ≤ 1 ↔ (s.slot sl).repeatsDue = 1 := by omega
      rw [arrive_slot]
      simp only [SlotRec.sendRepeat, SlotRec.send, dialled, last]
      rfl
  · intro s sl ms code running state two quiet grant call route now
    let v := (s.arrive ms).idled sl
    have ple : v.ple = s.ple := by simp [v]
    obtain ⟨ends, table, other⟩ := endAttempt_own (s := v) .retry (by rwa [ple]) (by rw [ple, call]; nofun)
    obtain ⟨-, svc, -, cye, -⟩ := ends.stands
    have clock : v.clock = (s.arrive ms).clock := by simp [v]
    rw [clock] at ends table
    refine ⟨_, (exec_drty ms running state).trans (congrArg _ ((if_neg (by omega)).trans (retry_local state grant quiet call))),
      ends, fun all => ?_, ?_, ?_, ?_, ?_⟩
    · obtain ⟨idle, nobody, deadline, -, sent, other, waiting, pause, attempts⟩ :=
        endAttempt_idled (v := v) rfl ple (by simp [v]) clock .retry all
      exact ⟨idle, nobody, deadline, sent, other, waiting, pause, attempts⟩
    · rw [table, table_of_nwt (s := s) (by simp [v])]
      rfl
    · rw [other, table_of_nwt (s := s) (by simp [v])]
    · rw [cye]
      simp [v]
    · rw [svc]
      simp [v]
  · intro s sl ms c running state two quiet queue mem grant at_c phase
    subst at_c
    let u := s.settledIdle c.slot ms
    have cye : u.cye = s.cye := by simp [u]
    obtain ⟨slots, stands⟩ := endCarry_idled (w := u) rfl (by simp [u]) (by rw [state]; nofun) quiet grant
      (by rw [phase]; nofun) (some .retry)
    obtain ⟨queue', log⟩ := endCarry_cye stands (some .failure) (.failed .retry)
    obtain ⟨slc', -, -, -, -, ple', -⟩ := endCarry_leaves u c (some .retry) (some .failure) (.failed .retry)
    obtain ⟨table, -⟩ := endCarry_reported u c (some .retry) .failure (.failed .retry)
    let t := u.endCarry c (some .retry) true (some .failure) (.failed .retry)
    have slot (k : Slot) : t.slot k = ((s.arrive ms).idled c.slot).slot k := slot_of_slc (slc'.trans slots) k
    have told : u.reportSlot c.slot .retry = t :=
      (reportSlot_carry (by rw [settledIdle_grant]; exact grant) .retry).trans
        (carryReport_retry (by rw [cye]; exact findCarry_mem queue mem))
    refine ⟨t, (exec_drty ms running state).trans (congrArg _ ((if_neg (by omega)).trans told)), ?_, ?_, ?_,
      queue'.trans (by rw [cye]), ⟨c.loggedAs (.failed .retry) u.cfg.uptime, ?_, rfl, rfl⟩, ?_, ple'.trans (by simp [u])⟩
    · rw [slot, idled_slot]
    · rw [slot, idled_slot]
    · rw [slot, idled_slot, arrive_slot]
    · rw [log]
      simp [u]
    · rw [table, table_of_nwt (s := s) (by simp [u])]
      simp [u]

end Sys2Proof.Machine
end

section
/-! What a carry that ends by its timers or by CEND leaves, whatever its slot's state: O48 (R69, R70, R97, R103, R104,
R108, R109). -/

namespace Sys2Proof.Machine

/-! ### What a grant may be (R69) -/

/-- R69: the arbiter grants nothing, the LOCAL dial claim, a scan, or a CARRY claim that waits. -/
theorem arbiter_cases (s : State) (sl : Slot) : s.arbiter sl = s ∨ (s.slot sl).state = .idle ∧
    (s.arbiter sl = s.grantLocal sl ∨
      (∃ (f : SlotRec → SlotRec) (kind : ScanKind), s.arbiter sl = s.setSlot sl fun r => (f r).startScan s.clock.now kind) ∨
      ∃ c, c.id ∈ (s.slot sl).waitingCarry ∧ s.arbiter sl = s.grantCarry sl c) := by
  by_cases free : (s.slot sl).state = .idle ∧ (s.slot sl).grant = .nobody
  case neg => exact .inl (arbiter_busy _ _ (by tauto))
  obtain ⟨idle, free⟩ := free
  cases waits : (s.slot sl).waitingLocal with
  | some k =>
    cases k with
    | dial => exact .inr ⟨idle, .inl (arbiter_dial idle free waits)⟩
    | emergencyScan => exact .inr ⟨idle, .inr (.inl ⟨_, _, arbiter_emergency idle free waits⟩)⟩
  | none =>
    cases first : s.cye.find? (fun d => (s.slot sl).waitingCarry.contains d.id) with
    | some c =>
      exact .inr ⟨idle, .inr (.inr ⟨c, by simpa using List.find?_some first, arbiter_carry idle free waits first⟩)⟩
    | none =>
      have rest : s.arbiter sl = if (s.slot sl).waitingScan then
          s.setSlot sl fun r => { r with waitingScan := false }.startScan s.clock.now .periodic else s := by
        simp only [State.arbiter, idle, free, waits, first, and_self, if_true]
      split at rest
      · exact .inr ⟨idle, .inr (.inl ⟨_, _, rest⟩)⟩
      · exact .inl rest

@[simp] theorem arbiter_other (s : State) (sl : Slot) : (s.arbiter sl).slot (otherSlot sl) = s.slot (otherSlot sl) := by
  obtain same | ⟨idle, done | ⟨f, kind, done⟩ | ⟨c, -, done⟩⟩ := arbiter_cases s sl
  · rw [same]
  · rw [done, State.grantLocal, requestDial_other, State.setSlot_otherSlot]
  · rw [done, State.setSlot_otherSlot]
  · rw [done, (grantCarry_leaves idle c).2.1]

/-- R69: a carry that does not wait is not granted. -/
theorem arbiter_grant_ne {s : State} {sl : Slot} {id : CarryId} (waits : id ∉ (s.slot sl).waitingCarry)
    (grant : (s.slot sl).grant ≠ .carry id) : ((s.arbiter sl).slot sl).grant ≠ .carry id := by
  obtain same | ⟨idle, done | ⟨f, kind, done⟩ | ⟨c, member, done⟩⟩ := arbiter_cases s sl
  · rwa [same]
  · rw [done, grantLocal_slot idle]
    nofun
  · rw [done, startScan_slot]
    exact fun h => nomatch h
  · rw [done, (grantCarry_leaves idle c).1]
    rintro ⟨⟩
    exact waits member

@[simp] theorem release_otherSlot (s : State) (sl : Slot) (x : Holder) :
    (s.release sl x).slot (otherSlot sl) = s.slot (otherSlot sl) := by
  unfold State.release
  repeat' split
  all_goals simp

/-- R70: what is released is not granted again, unless it waits. -/
theorem release_grant_ne {s : State} {sl : Slot} {id : CarryId} (waits : id ∉ (s.slot sl).waitingCarry) :
    ((s.release sl (.carry id)).slot sl).grant ≠ .carry id := by
  have freed {f : SlotRec → SlotRec} (carries : (f (s.slot sl)).waitingCarry = (s.slot sl).waitingCarry)
      (nobody : (f (s.slot sl)).grant = .nobody) :
      id ∉ ((s.setSlot sl f).slot sl).waitingCarry ∧ ((s.setSlot sl f).slot sl).grant ≠ .carry id := by
    rw [State.setSlot_slot, settleIdle_eq]
    exact ⟨by rwa [carries], by rw [nobody]; nofun⟩
  unfold State.release
  split
  · split
    · obtain ⟨away, free⟩ := freed (f := fun r => { r with grant := .nobody }) rfl rfl
      exact arbiter_grant_ne away free
    · exact (freed (f := fun r => { r.drop s.clock.now with grant := .nobody }) rfl rfl).2
    · exact (freed (f := fun r => { r.drop s.clock.now with grant := .nobody }) rfl rfl).2
    · exact (freed (f := fun r => { r.drop s.clock.now with grant := .nobody }) rfl rfl).2
    · obtain ⟨away, free⟩ := freed (f := fun r => { (r.settled .idle).send .refuse with grant := .nobody }) rfl rfl
      exact arbiter_grant_ne away free
    · exact (freed (f := fun r => { r with grant := .nobody }) rfl rfl).2
  · assumption

/-! ### Giving up the slot (R68, R70, R75, R108) -/

theorem withdrawCarry_slot (s : State) (sl : Slot) (id : CarryId) : (s.withdrawCarry sl id).slot sl =
    { s.slot sl with
      waitingCarry := (s.slot sl).waitingCarry.filter fun i => i != id,
      idleTimer := ((s.withdrawCarry sl id).slot sl).idleTimer } := by
  rw [State.withdrawCarry, State.setSlot_slot]
  exact settleIdle_eq ..

/-- R68, R70, R75, R108: what giving up the slot of a carry in agreement leaves there. -/
theorem giveUpSlot_gives {s : State} {c : CarryRec} (queue : s.QueueSound) (claims : s.ClaimsAgree) (mem : c ∈ s.cye) :
    s.GivesUpSlot (s.giveUpSlot c) s.clock.now c := by
  refine ⟨fun queued => ?_, fun past => ?_, ?_⟩
  · have done : s.giveUpSlot c = s.withdrawCarry c.slot c.id := by
      unfold State.giveUpSlot
      rw [queued]
    rw [done, withdrawCarry_slot]
    exact ⟨by simp, rfl, rfl, rfl, rfl, rfl⟩
  · have waits : c.id ∉ (s.slot c.slot).waitingCarry := fun h => by
      obtain ⟨d, hd, id, -, queued⟩ := (claims c.slot c.id).1.1 h
      exact past (queue.unique hd mem id ▸ queued)
    have grant : (s.slot c.slot).grant = .carry c.id := (claims c.slot c.id).2.2 ⟨c, mem, rfl, rfl, past⟩
    rw [giveUpSlot_release past]
    refine ⟨release_grant_ne waits, fun state => ?_⟩
    rw [release_dropped grant state, dropped_slot]
    exact ⟨rfl, rfl, rfl, rfl, rfl, rfl⟩
  · unfold State.giveUpSlot
    split
    · simp [State.withdrawCarry]
    · simp

/-- What `GivesUpSlot` reads of the two states. -/
theorem GivesUpSlot.congr {s s' t t' : State} {now : Nat} {c : CarryRec} (before : s'.slc = s.slc) (after : t'.slc = t.slc)
    (h : s.GivesUpSlot t now c) : s'.GivesUpSlot t' now c := by
  simpa only [State.GivesUpSlot, slot_of_slc before, slot_of_slc after] using h

/-! ### The end of a carry with no report (R108, R109) -/

/-- R108: the identities that stay in the queue. -/
theorem endCarry_ids (s : State) (c : CarryRec) (told : Option CprgReason) (freed : Bool) (report : Option Report)
    (o : LogOutcome) : (s.endCarry c told freed report o).cye.map CarryRec.id =
      (s.cye.map CarryRec.id).filter fun i => i != c.id := by
  obtain ⟨u, same, -, -, cye, -⟩ := endCarry_carries s c told freed report o
  rw [cye, ← same, ← ids_of_held (giveUpSlot_held u c), List.filter_map]
  rfl

/-! ### The commands (R97, R103, R104) -/

theorem exec_queueTimerExpiry {s : State} {c : CarryRec} {at_ : Nat} (found : findCarry s.cye c.id = some c)
    (due : s.Due c.queueTimer at_) :
    exec (.queueTimerExpiry c.id) s = .next ((s.advanceTo at_).endCarry c (some .busy) true none (.failed .busy)) := by
  have timer : s.queueTimer c.id = c.queueTimer := by rw [State.queueTimer, found, Option.bind_some]
  refine congrArg Host.Outcome.next ((expire_due _ (timer ▸ due)).trans ?_)
  rw [(State.advanceTo_frame s at_).2.2.2.2.2.2.2.2.2.1, found]

theorem exec_requesterSilenceExpiry {s : State} {c : CarryRec} {at_ : Nat} (found : findCarry s.cye c.id = some c)
    (due : s.Due c.silence at_) :
    exec (.requesterSilenceExpiry c.id) s =
      .next ((s.advanceTo at_).endCarry c (some .lost) true none (.failed .lost)) := by
  have timer : s.silenceTimer c.id = c.silence := by rw [State.silenceTimer, found, Option.bind_some]
  refine congrArg Host.Outcome.next ((expire_due _ (timer ▸ due)).trans ?_)
  rw [(State.advanceTo_frame s at_).2.2.2.2.2.2.2.2.2.1, found]

theorem exec_cend_mine {s : State} {h : Header} {c : CarryRec} (cause : CendCause) (ms : Nat) (hears : s.Hears h)
    (mine : s.own = some h.dst) (requester : h.src = c.id.requester) (found : findCarry s.cye c.id = some c) :
    exec (.cend h c.id.callId cause ms) s =
      .next ((s.frameHeard ms).endCarry c none true none (cendOutcome c.state cause)) := by
  have taken : exec (.cend h c.id.callId cause ms) s = .next ((s.frameHeard ms).takeCend h.src c.id.callId cause) := by
    simp [exec, execCend, receive_hears _ _ _ hears, frameHeard_isMine, mine]
  have cye : (s.frameHeard ms).cye = s.cye := by simp
  rw [taken, State.takeCend, requester, cye, found]

/-- R104: the outcome of a carry that its requester ends. -/
theorem cendOutcome_eq (st : CarryState) (cause : CendCause) : cendOutcome st cause =
    if cause = .lost then .failed .lost else if st = .talking then .talked
      else if cause = .limit then .failed .timeout else .callerCleared := by
  cases cause <;> simp [cendOutcome]

/-- R108, R109: all that the end of a carry with no report leaves. -/
theorem endCarry_unreported_leaves {u : State} {c : CarryRec} (sound : u.CarriesSound) (mem : c ∈ u.cye)
    (told : Option CprgReason) (o : LogOutcome) :
    let t := u.endCarry c told true none o
    t.cye.map CarryRec.id = ((u.cye.map CarryRec.id).filter fun i => i != c.id) ∧
    t.trunk c.trunk = .free ∧ (∀ v, v ≠ c.trunk → t.trunk v = u.trunk v) ∧
    t.lnc = ((u.tell c told).hand 0 (.tfre (trunkNum c.trunk))).lnc ∧
    t.svc.log = (c.loggedAs o u.cfg.uptime :: u.svc.log).take 32 ∧ u.GivesUpSlot t u.clock.now c ∧
    (∀ j ∈ t.xpt.joins, j.owner ≠ .carry c.id) ∧ (∀ j ∈ t.xpt.waiting, j.owner ≠ .carry c.id) ∧
    t.nwt = u.nwt ∧ t.nbt = u.nbt ∧ t.ple = u.ple ∧ t.adv = u.adv ∧ t.spm = u.spm := by
  intro t
  obtain ⟨queue, ⟨trunks, -⟩, claims⟩ := sound
  have owned : (u.trunk c.trunk).owner = some c.id := trunks c mem
  obtain ⟨free, others, log, joins, waiting⟩ := endCarry_frees owned told none o
  obtain ⟨slc, lnc, -, -, nbt, ple, spm⟩ := endCarry_leaves u c told none o
  obtain ⟨nwt, adv⟩ := endCarry_unreported u c told o
  obtain ⟨clock, -, -, slots, -, -, -, -, -, cye, -⟩ := State.tell_frame u c told
  have gives : (u.tell c told).GivesUpSlot ((u.tell c told).giveUpSlot c) u.clock.now c :=
    clock ▸ giveUpSlot_gives (by simpa only [State.QueueSound, cye] using queue)
      (by simpa only [State.ClaimsAgree, tell_slot, cye] using claims) (by rwa [cye])
  exact ⟨endCarry_ids .., free, others, lnc.trans (carryFreed_lnc owned told), congrArg Svc.log log,
    GivesUpSlot.congr slots.symm slc gives, joins, waiting, nwt, nbt, ple, adv, spm⟩

/-- Settles O48: the three commands, each with `endCarry_unreported_leaves`. -/
theorem carryEndsOnItsTimersAndOnCend : Obligations.CarryEndsOnItsTimersAndOnCend := by
  unfold Obligations.CarryEndsOnItsTimersAndOnCend
  intro s c at_ ms h cause k told o sound mem ends
  have found := findCarry_mem sound.1 mem
  obtain ⟨rfl, due, -, rfl, rfl⟩ | ⟨rfl, due, rfl, rfl⟩ | ⟨rfl, hears, requester, mine, rfl, rfl⟩ := ends
  · exact ⟨_, exec_queueTimerExpiry found due, endCarry_unreported_leaves (u := s.advanceTo at_) sound mem _ _⟩
  · exact ⟨_, exec_requesterSilenceExpiry found due, endCarry_unreported_leaves (u := s.advanceTo at_) sound mem _ _⟩
  · rw [← cendOutcome_eq]
    exact ⟨_, exec_cend_mine cause ms hears mine requester found,
      endCarry_unreported_leaves (u := s.frameHeard ms) sound mem _ _⟩

end Sys2Proof.Machine
end

section
/-! The binding of a CREQ and its acceptance: O46 (R68, R69, R74, R91 to R95, R98). -/

namespace Sys2Proof.Machine

/-! ### The slot bound (R92, R93) -/

theorem findEntry_eq_some {es : List NetEntry} (sound : tableSound es) {code : Nat} {e : NetEntry} :
    findEntry es code = some e ↔ e ∈ es ∧ e.code = code := by
  refine ⟨fun h => ⟨List.mem_of_find?_eq_some h, by simpa using List.find?_some h⟩, ?_⟩
  rintro ⟨he, rfl⟩
  exact sound.find he

theorem isExcluded_eq_false {st : SlotState} : isExcluded st = false ↔ st ≠ .absent ∧ st ≠ .disabled ∧ st ≠ .restarting := by
  cases st <;> simp [isExcluded]

/-- R92: the entry by which a slot qualifies. -/
theorem qualifyingEntry_iff {s : State} (sound : s.NetworksSound) {sl : Slot} {code : Nat} {e : NetEntry} :
    qualifyingEntry s sl code = some e ↔ s.Qualifies sl code e := by
  have table : tableSound (s.table sl) := by
    obtain ⟨a, b⟩ := sound
    cases sl <;> assumption
  unfold qualifyingEntry State.Qualifies State.Serves
  rw [← isExcluded_eq_false]
  cases isExcluded (s.slot sl).state with
  | true => simp
  | false =>
    simp only [Bool.false_eq_true, if_false, Option.filter_eq_some_iff, findEntry_eq_some table, isServing_iff]
    tauto

/-- R93: what is bound, by the entries that qualify. -/
theorem boundSlot_eq_some {s : State} {code : Nat} {sl : Slot} : boundSlot s code = some sl ↔
    ∃ e, qualifyingEntry s sl code = some e ∧ ∀ d, qualifyingEntry s (otherSlot sl) code = some d →
      d.ownWorth < e.ownWorth ∨ d.ownWorth = e.ownWorth ∧ sl = .a := by
  unfold boundSlot
  cases a : qualifyingEntry s .a code <;> cases b : qualifyingEntry s .b code <;> cases sl <;> simp only [otherSlot, a, b]
  case some.some.a x y =>
    simp only [ownScore_lt_iff, Option.some.injEq, exists_eq_left', forall_eq', and_true]
    split <;> simp <;> omega
  case some.some.b x y =>
    simp only [ownScore_lt_iff, Option.some.injEq, exists_eq_left', forall_eq', reduceCtorEq, and_false, or_false]
    split
    · simpa
    · simpa using not_lt.1 ‹_›
  all_goals simp

theorem boundSlot_eq_none {s : State} {code : Nat} : boundSlot s code = none ↔ ∀ sl, qualifyingEntry s sl code = none := by
  have slots : (∀ sl, qualifyingEntry s sl code = none) ↔ qualifyingEntry s .a code = none ∧ qualifyingEntry s .b code = none :=
    ⟨fun h => ⟨h .a, h .b⟩, fun ⟨a, b⟩ sl => by cases sl <;> assumption⟩
  rw [slots]
  unfold boundSlot
  cases qualifyingEntry s .a code <;> cases qualifyingEntry s .b code <;> simp
  split <;> simp

/-- Settles the binding's part of O46. -/
theorem boundSlot_binds {s : State} (sound : s.NetworksSound) (code : Nat) :
    (boundSlot s code = none ↔ ∀ sl, ∀ e ∈ s.table sl, ¬ s.Qualifies sl code e) ∧
    ∀ sl, boundSlot s code = some sl ↔ ∃ e ∈ s.table sl, s.Qualifies sl code e ∧
      ∀ d ∈ s.table (otherSlot sl), s.Qualifies (otherSlot sl) code d →
        d.ownWorth < e.ownWorth ∨ d.ownWorth = e.ownWorth ∧ sl = .a := by
  have member {sl : Slot} {e : NetEntry} (h : s.Qualifies sl code e) : e ∈ s.table sl := h.1.1
  refine ⟨?_, fun sl => ?_⟩
  · rw [boundSlot_eq_none]
    refine forall_congr' fun sl => ?_
    simp only [Option.eq_none_iff_forall_ne_some, ne_eq, qualifyingEntry_iff sound]
    exact ⟨fun h e _ => h e, fun h e he => h e (member he) he⟩
  · rw [boundSlot_eq_some]
    simp only [qualifyingEntry_iff sound]
    constructor
    · rintro ⟨e, qualifies, best⟩
      exact ⟨e, member qualifies, qualifies, fun d _ => best d⟩
    · rintro ⟨e, -, qualifies, best⟩
      exact ⟨e, qualifies, fun d hd => best d (member hd) hd⟩

/-- R92: a slot that is bound is neither ABSENT, DISABLED nor RESTARTING. -/
theorem boundSlot_live {s : State} {code : Nat} {sl : Slot} (bound : boundSlot s code = some sl) :
    isOut (s.slot sl).state = false := by
  obtain ⟨e, entry, -⟩ := boundSlot_eq_some.1 bound
  have live : isExcluded (s.slot sl).state = false := by
    by_contra out
    simp [qualifyingEntry, Bool.not_eq_false _ ▸ out] at entry
  cases state : (s.slot sl).state <;> simp_all [isExcluded, isOut]

/-! ### Acceptance, before the claim is placed (R93, R95) -/

/-- R93: trunk, record and answer. -/
def State.accepting (s : State) (id : CarryId) (code : Nat) (sl : Slot) (t : Trunk) : State :=
  (if s.cye.isEmpty then
      ((s.claimTrunk t id).withCye (s.cye ++ [newCarry id code sl t s.clock.now])).cutSampleTimer
    else (s.claimTrunk t id).withCye (s.cye ++ [newCarry id code sl t s.clock.now])).hand id.requester
    (.cack id.callId (trunkNum t))

theorem accepting_leaves (s : State) (id : CarryId) (code : Nat) (sl : Slot) (t : Trunk) :
    let v := s.accepting id code sl t
    v.clock = s.clock ∧ v.slc = s.slc ∧ v.xpt = s.xpt ∧ v.nwt = s.nwt ∧ v.nbt = s.nbt ∧ v.ple = s.ple ∧ v.svc = s.svc ∧
    v.adv = s.adv ∧ v.cye = s.cye ++ [newCarry id code sl t s.clock.now] ∧
    v.trunk t = .claiming id (s.clock.now + 300) [] (s.clock.now + 2000) ∧ (∀ u, u ≠ t → v.trunk u = s.trunk u) ∧
    v.lnc = (s.hand id.requester (.cack id.callId (trunkNum t))).lnc ∧
    (s.cye = [] → v.spm.timer = s.spm.timer.map fun d => min d (s.clock.now + 10000)) := by
  intro v
  have claimed : v.tkm = (s.claimTrunk t id).tkm := by
    simp only [v, State.accepting, State.hand_frame]
    split <;> simp
  have line : v.lnc = (s.hand id.requester (.cack id.callId (trunkNum t))).lnc := by
    simp only [v, State.accepting]
    split <;> exact hand_lnc_own _ _ (by simp) (own_of_cfg (by simp)) (by simp)
  refine ⟨?_, ?_, ?_, ?_, ?_, ?_, ?_, ?_, ?_, ?_, fun u other => ?_, line, fun empty => ?_⟩
  case refine_10 => exact (trunk_of_tkm claimed t).trans (setTrunk_trunk ..)
  case refine_11 => exact (trunk_of_tkm claimed u).trans (setTrunk_trunk_ne _ _ _ _ other)
  case refine_12 => simp [v, State.accepting, empty, State.cutSampleTimer, sampleFastMs]
  all_goals
    simp only [v, State.accepting, State.hand_frame]
    split <;> simp

theorem acceptCarry_eq {s : State} {sl : Slot} (live : isOut (s.slot sl).state = false) (id : CarryId) (code : Nat) (t : Trunk) :
    s.acceptCarry id code sl t = (s.accepting id code sl t).placeClaim sl (.carry id) := by
  obtain ⟨-, slc, -⟩ := accepting_leaves s id code sl t
  refine if_neg ?_
  change ¬ (s.accepting id code sl t).refusesClaim sl = true
  rw [State.refusesClaim, slot_of_slc slc, live]
  exact Bool.false_ne_true

/-! ### The claim (R68) -/

/-- R68: a claim on a slot that is not free waits; an OFF slot whose restart timer does not run warms for it. -/
theorem placeClaim_notFree {s : State} {sl : Slot} (c : Claim) (busy : (s.slot sl).state ≠ .idle ∨ (s.slot sl).grant ≠ .nobody) :
    s.placeClaim sl c =
      if (s.slot sl).state = .off ∧ (s.slot sl).restartTimer = none then
        (s.setSlot sl (SlotRec.addClaim c)).setSlot sl (SlotRec.warm s.clock.now)
      else s.setSlot sl (SlotRec.addClaim c) := by
  have kept : ((s.slot sl).addClaim c).state = (s.slot sl).state ∧ ((s.slot sl).addClaim c).grant = (s.slot sl).grant := by
    cases c <;> exact ⟨rfl, rfl⟩
  have stays : (s.setSlot sl (SlotRec.addClaim c)).arbiter sl = s.setSlot sl (SlotRec.addClaim c) := by
    refine arbiter_busy _ _ ?_
    rw [State.setSlot_slot, settleIdle_eq]
    exact busy.imp (kept.1 ▸ ·) (kept.2 ▸ ·)
  unfold State.placeClaim
  by_cases off : (s.slot sl).state = .off
  · simp [off]
  · simp [off, stays]

theorem exec_creq_accepted {s : State} {h : Header} {callId code : Nat} (ms : Nat) {sl : Slot} {tr : Trunk}
    (hears : s.Hears h) (mine : s.own = some h.dst) (tool : h.src ≠ 63) (fresh : ∀ c ∈ s.cye, c.id ≠ ⟨h.src, callId⟩)
    (carrying : s.cfg.record.carrying = true) (supply : s.spm.supply ≠ .critical) (room : s.cye.length < 3)
    (bound : boundSlot s code = some sl) (free : s.tkm.lowestFree = some tr) :
    exec (.creq h callId code ms) s = .next
      (((s.frameHeard ms).accepting ⟨h.src, callId⟩ code sl tr).placeClaim sl (.carry ⟨h.src, callId⟩)) := by
  obtain ⟨-, -, -, slots, tables, -, -, -, -, cye, trunks, spm, cfg, -⟩ := State.frameHeard_frame s ms
  have box : 1 ≤ h.src ∧ h.src ≤ 62 := by
    have := hears.2.2.2
    omega
  have same : boundSlot (s.frameHeard ms) code = some sl := (boundSlot_congr slots tables cfg code).trans bound
  rw [exec_creq_mine callId code ms hears mine, takeCreq_fresh box (by rwa [cye]), same, cfg, spm, cye, trunks, free]
  rw [if_neg (by simp [carrying]), if_neg supply, if_neg (by omega)]
  exact congrArg Host.Outcome.next (acceptCarry_eq (boundSlot_live same) ..)

/-- R68, R93: the slot after the claim of a record accepted on it while it is not free. -/
theorem placeClaim_notFree_slot {s : State} {sl : Slot} (id : CarryId)
    (busy : (s.slot sl).state ≠ .idle ∨ (s.slot sl).grant ≠ .nobody) :
    let t := s.placeClaim sl (.carry id)
    let warms : Prop := (s.slot sl).state = .off ∧ (s.slot sl).restartTimer = none
    (t.slot sl).waitingCarry = (s.slot sl).waitingCarry ++ [id] ∧ (t.slot sl).grant = (s.slot sl).grant ∧
    (t.slot sl).sent = (s.slot sl).sent ∧
    (warms → (t.slot sl).state = .warming ∧ (t.slot sl).power = true ∧ (t.slot sl).deadline = some (s.clock.now + 20000)) ∧
    (¬ warms → (t.slot sl).state = (s.slot sl).state ∧ (t.slot sl).power = (s.slot sl).power ∧
      (t.slot sl).deadline = (s.slot sl).deadline) ∧
    t.slot (otherSlot sl) = s.slot (otherSlot sl) ∧ t.cye = s.cye ∧ t.xpt = s.xpt := by
  intro t warms
  have done := placeClaim_notFree (.carry id) busy
  by_cases off : warms
  · have slot := placeClaim_off_slot off.1 off.2 (.carry id)
    rw [if_pos off] at done
    refine ⟨by rw [slot]; rfl, by rw [slot]; rfl, by rw [slot]; rfl, fun _ => by rw [slot]; exact ⟨rfl, rfl, rfl⟩,
      fun still => absurd off still, ?_, ?_, ?_⟩ <;> simp [t, done]
  · rw [if_neg off] at done
    have slot : (t.slot sl) = { (s.slot sl).addClaim (.carry id) with idleTimer := (t.slot sl).idleTimer } := by
      rw [show t = _ from done, State.setSlot_slot]
      exact settleIdle_eq ..
    refine ⟨by rw [slot]; rfl, by rw [slot]; rfl, by rw [slot]; rfl, fun still => absurd still off,
      fun _ => by rw [slot]; exact ⟨rfl, rfl, rfl⟩, ?_, ?_, ?_⟩ <;> simp [t, done]

/-- R69, R98: a record accepted on a free slot is granted at once. -/
theorem placeClaim_granted {s : State} {sl : Slot} {c : CarryRec} {cs : List CarryRec} (idle : (s.slot sl).state = .idle)
    (free : (s.slot sl).grant = .nobody) (quiet : (s.slot sl).NoClaims) (queue : s.cye = cs ++ [c])
    (fresh : ∀ d ∈ cs, d.id ≠ c.id) :
    let t := s.placeClaim sl (.carry c.id)
    t.slot sl = { s.slot sl with
      waitingCarry := [], grant := .carry c.id, state := .dialling, request := .dial c.code,
      deadline := some (s.clock.now + 10000), repeats := 0, repeatsDue := 0, rung := false, idleTimer := none,
      sent := (s.slot sl).sent ++ [.dial c.code] } ∧
    t.slot (otherSlot sl) = s.slot (otherSlot sl) ∧
    t.cye = cs ++ [{ c with queueTimer := none, dialSent := true, state := .dialling }] ∧
    t.xpt = (s.xptJoin (.carry c.id) (.slot sl) (.trunk c.trunk)).xpt := by
  intro t
  obtain ⟨noLocal, noCarry, noScan⟩ := quiet
  let u := s.setSlot sl (SlotRec.addClaim (.carry c.id))
  have slot : u.slot sl = { s.slot sl with waitingCarry := [c.id], idleTimer := (u.slot sl).idleTimer } := by
    rw [State.setSlot_slot]
    refine (settleIdle_eq ..).trans ?_
    simp [SlotRec.addClaim, noCarry]
  have clock : u.clock = s.clock := by simp [u]
  have cye : u.cye = cs ++ [c] := by simp [u, queue]
  have first : u.cye.find? (fun d => (u.slot sl).waitingCarry.contains d.id) = some c := by
    rw [cye, slot, List.find?_append, List.find?_eq_none.2 (by simpa using fresh)]
    simp
  have granted : t = u.grantCarry sl c := (placeClaim_idle idle _).trans
    (arbiter_carry (by rw [slot]; exact idle) (by rw [slot]; exact free) (by rw [slot]; exact noLocal) first)
  obtain ⟨done, other, carries, joins⟩ := grantCarry_leaves (s := u) (by rw [slot]; exact idle) c
  rw [granted]
  refine ⟨?_, other.trans (State.setSlot_otherSlot ..), ?_, joins.trans (xptJoin_congr _ _ _ (by simp [u]) clock)⟩
  · rw [done, slot, clock]
    simp
  · have stay : cs.map (fun d => if d.id = c.id then { d with queueTimer := none, dialSent := true, state := .dialling } else d) = cs :=
      (List.map_congr_left fun d hd => if_neg (fresh d hd)).trans (List.map_id' cs)
    rw [carries, cye, List.map_append, stay]
    simp

/-- Settles O46: the binding, and the acceptance on a slot that is not free and on a free one. -/
theorem carryRequestIsAccepted : Obligations.CarryRequestIsAccepted := by
  unfold Obligations.CarryRequestIsAccepted
  refine ⟨fun s code sound => boundSlot_binds sound code, ?_, ?_⟩
  · intro s h callId code ms sl tr hears mine tool fresh carrying supply room bound free busy now warms
    let v := (s.frameHeard ms).accepting ⟨h.src, callId⟩ code sl tr
    obtain ⟨clock, slc, xpt, nwt, nbt, ple, svc, adv, cye, claimed, others, line, cut⟩ :=
      accepting_leaves (s.frameHeard ms) ⟨h.src, callId⟩ code sl tr
    have slot (k : Slot) : v.slot k = s.slot k := slot_of_slc (slc.trans (by simp)) k
    obtain ⟨waits, grant, sent, warm, cold, other, queue, joins⟩ :=
      placeClaim_notFree_slot (s := v) (sl := sl) ⟨h.src, callId⟩ (by rwa [slot])
    rw [slot] at waits grant sent warm cold other
    rw [show v.clock = (s.frameHeard ms).clock from clock] at warm
    obtain ⟨-, -, nwt', nbt', adv', -, ple', tkm', lnc', spm', -, svc', -⟩ :=
      State.placeClaim_frame v sl (.carry ⟨h.src, callId⟩)
    refine ⟨_, exec_creq_accepted ms hears mine tool fresh carrying supply room bound free, ?_,
      (trunk_of_tkm tkm' tr).trans claimed, fun u ne => ?_, lnc'.trans line, waits, grant, sent, warm, cold, ?_, ?_, ?_, ?_,
      ?_, ?_, ?_, fun empty => ?_⟩
    · rw [queue, cye]
      simp [newCarry, queueMs, silenceMs, now]
    · exact (trunk_of_tkm tkm' u).trans ((others u ne).trans (trunk_of_tkm (by simp) u))
    · exact other
    · rw [ple', ple]
      simp
    · rw [nwt', nwt]
      simp
    · rw [nbt', nbt]
      simp
    · rw [joins, xpt]
      simp
    · rw [svc', svc]
      simp
    · rw [adv', adv]
      simp
    · rw [spm', cut (by simp [empty])]
      simp [now]
  · intro s h callId code ms sl tr hears mine tool fresh carrying supply room bound free idle nobody quiet now
    let v := (s.frameHeard ms).accepting ⟨h.src, callId⟩ code sl tr
    obtain ⟨clock, slc, xpt, -, -, ple, -, -, cye, -, -, line, -⟩ :=
      accepting_leaves (s.frameHeard ms) ⟨h.src, callId⟩ code sl tr
    have slot (k : Slot) : v.slot k = s.slot k := slot_of_slc (slc.trans (by simp)) k
    have queue : v.cye = s.cye ++ [newCarry ⟨h.src, callId⟩ code sl tr now] := cye.trans (by simp [now])
    obtain ⟨granted, other, carries, joins⟩ := placeClaim_granted (s := v) (by rwa [slot]) (by rwa [slot])
      (by rwa [slot]) queue fresh
    rw [slot, show v.clock = (s.frameHeard ms).clock from clock] at granted
    obtain ⟨-, -, -, -, -, -, ple', -, lnc', -⟩ := State.placeClaim_frame v sl (.carry ⟨h.src, callId⟩)
    refine ⟨v.placeClaim sl (.carry ⟨h.src, callId⟩),
      exec_creq_accepted ms hears mine tool fresh carrying supply room bound free, carries, ?_, ?_, ?_, ?_, ?_, ?_,
      joins.trans (xptJoin_congr _ _ _ xpt clock), lnc'.trans line, other.trans (slot _), (ple'.trans ple).trans (by simp)⟩
    all_goals exact (congrArg _ granted).trans rfl

end Sys2Proof.Machine
end

section
/-! A CALLIN, offered or refused: O42 (R29, R30, R73, R76, R86, R171). -/

namespace Sys2Proof.Machine

/-! ### The record of a callback (R30) -/

/-- R30: the record of a callback in BELL. -/
def State.belled (s : State) (sl : Slot) : State :=
  ((s.openRecord .callback).setPle fun p => { p with route := some { via := .slot sl, code := none } }).enterCallState .bell

@[simp] theorem State.belled_frame (s : State) (sl : Slot) :
    (s.belled sl).clock = s.clock ∧ (s.belled sl).slc = s.slc ∧ (s.belled sl).nwt = s.nwt ∧ (s.belled sl).nbt = s.nbt ∧
    (s.belled sl).adv = s.adv ∧ (s.belled sl).cye = s.cye ∧ (s.belled sl).tkm = s.tkm ∧ (s.belled sl).lnc = s.lnc ∧
    (s.belled sl).cfg = s.cfg := by
  simp [State.belled]

theorem belled_leaves (s : State) (sl : Slot) :
    (s.belled sl).ple = { resetPle with
      state := .bell, callId := s.svc.nextCallId, origin := .callback, limitStart := s.cfg.uptime,
      handsetLifted := hookReadsLifted s.cpi.hook, window := s.ple.window, route := some ⟨.slot sl, none⟩ } ∧
    (s.belled sl).svc = { s.svc with nextCallId := (s.svc.nextCallId + 1) % 256 } ∧
    (s.belled sl).cpi = { s.cpi with fastFlash := none }.setLamp .off s.clock.now ∧
    (s.belled sl).spm = { s.spm with timer := s.spm.timer.map fun d => min d (s.clock.now + 10000) } := by
  refine ⟨?_, ?_, ?_, ?_⟩
  · simp [State.belled, State.setPle, State.openRecord]
  · simp [State.belled, State.setPle, State.openRecord]
  · rw [State.belled, enterCallState_cpi]
    rfl
  · rw [State.belled, enterCallState_spm]
    rfl

/-! ### The offer (R30, R86) -/

/-- R30, R76: the slot OFFERED, the bell ringing and its timer running from `now`. -/
def State.offering (s : State) (sl : Slot) (now : Nat) : State :=
  let offered := s.setSlot sl fun r => { r.settled .offered with grant := .localCall }
  (offered.withCpi (offered.cpi.ringBell offered.clock.now)).setPle fun p =>
    { p with bellTimer := some (now + bellMs) }

@[simp] theorem State.offering_frame (s : State) (sl : Slot) (now : Nat) :
    (s.offering sl now).clock = s.clock ∧ (s.offering sl now).nwt = s.nwt ∧ (s.offering sl now).adv = s.adv ∧
    (s.offering sl now).cye = s.cye ∧ (s.offering sl now).lnc = s.lnc ∧ (s.offering sl now).spm = s.spm ∧
    (s.offering sl now).cfg = s.cfg ∧ (s.offering sl now).svc = s.svc ∧
    (s.offering sl now).ple = { s.ple with bellTimer := some (now + 60000) } := by
  simp [State.offering, State.setPle, bellMs]

theorem offering_slot (s : State) (sl : Slot) (now : Nat) : (s.offering sl now).slot sl = { s.slot sl with
    state := .offered, grant := .localCall, request := .nothing, deadline := none, repeatsDue := 0, rung := false,
    idleTimer := none } := by
  let offered := s.setSlot sl fun r => { r.settled .offered with grant := .localCall }
  rw [slot_of_slc (s := offered) (by simp [State.offering, offered]), State.setSlot_slot,
    settleIdle_not_idle _ _ (by simp [SlotRec.settled])]
  rfl

theorem offering_other (s : State) (sl : Slot) (now : Nat) : (s.offering sl now).slot (otherSlot sl) = s.slot (otherSlot sl) := by
  let offered := s.setSlot sl fun r => { r.settled .offered with grant := .localCall }
  rw [slot_of_slc (s := offered) (by simp [State.offering, offered]), State.setSlot_otherSlot]

theorem setLamp_bell (c : Cpi) (mode : LampMode) (now : Nat) : (c.setLamp mode now).bell = c.bell := by
  unfold Cpi.setLamp
  split <;> rfl

/-- R163: what the offer makes of lamp and bell. -/
theorem offering_cpi {s : State} {c : Cpi} {now : Nat} (cpi : c.ButOut s.cpi) (sl : Slot) (clock : s.clock.now = now) :
    (s.offering sl now).cpi.lamp = c.lamp ∧
    (c.bell = .silent → (s.offering sl now).cpi.bell = .ringing true ∧ (s.offering sl now).cpi.bellCadence = some (now + 1000)) := by
  let offered := s.setSlot sl fun r => { r.settled .offered with grant := .localCall }
  have kept : c.ButOut offered.cpi := cpi.trans (setSlot_butOut s sl _)
  have done : (s.offering sl now).cpi = offered.cpi.ringBell now := by
    rw [← clock]
    simp [State.offering, offered]
  rw [done, Cpi.ringBell]
  have bell : offered.cpi.bell = c.bell := kept.read Cpi.bell
  have lamp : offered.cpi.lamp = c.lamp := kept.read Cpi.lamp
  refine ⟨?_, fun silent => ?_⟩
  · split <;> exact lamp
  · rw [bell, silent]
    exact ⟨rfl, rfl⟩

/-! ### A CALLIN in IDLE and in SCANNING (R30, R73, R86) -/

theorem takeCallin_idle {s : State} {sl : Slot} (window : s.ple.window ≠ none) (idle : s.ple.state = .idle)
    (grant : (s.slot sl).grant = .nobody) : s.takeCallin sl = (s.belled sl).offering sl s.clock.now := by
  have free : ((s.belled sl).slot sl).grant = .nobody := by rwa [slot_of_slc (s := s) (by simp)]
  refine (if_pos ⟨Option.isSome_iff_ne_none.2 window, idle, by rw [grant]; nofun⟩).trans (congrArg (State.offering · sl _) ?_)
  change (match ((s.belled sl).slot sl).grant with
    | .scan kind => ((s.belled sl).closeScan sl).reportScanEnd sl kind
    | _ => s.belled sl) = s.belled sl
  rw [free]

/-- R73: of a call that does not wait, a scan's end is reported to ADV alone. -/
theorem reportScanEnd_notWaiting {s : State} (state : s.ple.state ≠ .waiting) (sl : Slot) (kind : ScanKind) :
    s.reportScanEnd sl kind = s.advScanEnded := by
  cases kind with
  | periodic => rfl
  | emergency => exact congrArg State.advScanEnded (if_neg fun h => state h.1)

theorem takeCallin_scanning {s : State} {sl : Slot} {kind : ScanKind} (window : s.ple.window ≠ none)
    (idle : s.ple.state = .idle) (grant : (s.slot sl).grant = .scan kind) :
    s.takeCallin sl = ((s.belled sl).closeScan sl).advScanEnded.offering sl s.clock.now := by
  have scans : ((s.belled sl).slot sl).grant = .scan kind := by rwa [slot_of_slc (s := s) (by simp)]
  have bell : ((s.belled sl).closeScan sl).ple.state ≠ .waiting := by
    simp [(belled_leaves s sl).1]
  refine (if_pos ⟨Option.isSome_iff_ne_none.2 window, idle, by rw [grant]; nofun⟩).trans (congrArg (State.offering · sl _) ?_)
  change (match ((s.belled sl).slot sl).grant with
    | .scan kind => ((s.belled sl).closeScan sl).reportScanEnd sl kind
    | _ => s.belled sl) = ((s.belled sl).closeScan sl).advScanEnded
  rw [scans]
  exact reportScanEnd_notWaiting bell sl kind

theorem takeCallin_refused {s : State} {sl : Slot}
    (shut : s.ple.window = none ∨ s.ple.state ≠ .idle ∨ ∃ id, (s.slot sl).grant = .carry id) :
    s.takeCallin sl = s.refuseCallin sl := by
  refine if_neg ?_
  rintro ⟨window, idle, free⟩
  obtain closed | busy | ⟨id, carry⟩ := shut
  · simp [closed] at window
  · exact busy idle
  · exact free (by rw [carry]; rfl)

/-- R73: a slot whose scan is closed. -/
theorem closeScan_slot (s : State) (sl : Slot) : (s.closeScan sl).slot sl = { s.slot sl with
    state := .idle, grant := .nobody, waitingScan := false, request := .nothing, deadline := none, repeatsDue := 0,
    rung := false, scanTimer := s.scanLength.map (s.clock.now + ·), idleTimer := ((s.closeScan sl).slot sl).idleTimer } := by
  rw [State.closeScan, State.setSlot_slot]
  exact settleIdle_eq ..

@[simp] theorem closeScan_other (s : State) (sl : Slot) : (s.closeScan sl).slot (otherSlot sl) = s.slot (otherSlot sl) :=
  State.setSlot_otherSlot ..

/-! ### The REACH that the end of a first scan brings (R133) -/

theorem advScanEnded_startWait {s : State} {w : Nat} (waits : s.adv.timer = .startWait w) : s.advScanEnded = s.buildReach := by
  unfold State.advScanEnded
  rw [waits]

theorem advScanEnded_other {s : State} (past : ∀ w, s.adv.timer ≠ .startWait w) : s.advScanEnded = s := by
  unfold State.advScanEnded
  split
  · exact absurd ‹_› (past _)
  · rfl

theorem exec_callin_free {s : State} {sl : Slot} (ms : Nat) (running : s.phase = .running)
    (state : (s.slot sl).state = .idle ∨ (s.slot sl).state = .scanning) :
    exec (.callin sl ms) s = .next ((s.heard sl ms).takeCallin sl) := by
  have past : isPastWarmUp (s.slot sl).state = true := by obtain state | state := state <;> rw [state] <;> rfl
  refine congrArg Host.Outcome.next ((hear_pastWarmUp ms _ running past).trans ?_)
  have heard : (((s.arrive ms).hearModule sl).slot sl).state = _ := heard_state s sl ms
  obtain state | state := state <;> rw [state] at heard <;> rw [heard] <;> rfl

theorem exec_callin_busy {s : State} {sl : Slot} (ms : Nat) (running : s.phase = .running)
    (state : (s.slot sl).state = .dialling ∨ (s.slot sl).state = .ringing ∨ (s.slot sl).state = .talking ∨
      (s.slot sl).state = .clearing) : exec (.callin sl ms) s = .next ((s.heard sl ms).refuseCallin sl) := by
  have past : isPastWarmUp (s.slot sl).state = true := by
    obtain state | state | state | state := state <;> rw [state] <;> rfl
  refine congrArg Host.Outcome.next ((hear_pastWarmUp ms _ running past).trans ?_)
  have heard : (((s.arrive ms).hearModule sl).slot sl).state = _ := heard_state s sl ms
  obtain state | state | state | state := state <;> rw [state] at heard <;> rw [heard] <;> rfl

/-- R2, R30, R163, R171: record, log counter, supply monitor and call point of an offer. -/
theorem offering_leaves {s y : State} {sl : Slot} {ms : Nat} (ple : y.ple = ((s.heard sl ms).belled sl).ple)
    (svc : y.svc = ((s.heard sl ms).belled sl).svc) (spm : y.spm = ((s.heard sl ms).belled sl).spm)
    (cpi : ((s.heard sl ms).belled sl).cpi.ButOut y.cpi) (clock : y.clock = (s.arrive ms).clock) :
    let now := (s.arrive ms).clock.now
    let t := y.offering sl now
    t.ple.state = .bell ∧ t.ple.origin = .callback ∧ t.ple.callId = s.svc.nextCallId ∧
    t.svc = { s.svc with nextCallId := (s.svc.nextCallId + 1) % 256 } ∧ t.ple.route = some ⟨.slot sl, none⟩ ∧
    t.ple.window = s.ple.window ∧ t.ple.rounds = 0 ∧ t.ple.bellTimer = some (now + 60000) ∧ t.cpi.lamp = .off ∧
    (s.cpi.bell = .silent → t.cpi.bell = .ringing true ∧ t.cpi.bellCadence = some (now + 1000)) ∧
    t.spm = { s.spm with timer := s.spm.timer.map fun d => min d (now + 10000) } := by
  intro now t
  let v := s.heard sl ms
  obtain ⟨record, counter, lamp, supply⟩ := belled_leaves v sl
  have clock' : v.clock.now = now := by simp [v, now]
  obtain ⟨dark, rings⟩ := offering_cpi cpi sl (congrArg Clock.now clock)
  have kept : s.cpi.ButOut v.cpi := by
    simpa [v, State.heard, State.hearModule] using setSlot_butOut (s.arrive ms) sl fun r =>
      { r with heartbeat := some ((s.arrive ms).clock.now + heartbeatMs) }
  have silent : (v.belled sl).cpi.bell = s.cpi.bell := by
    rw [lamp, setLamp_bell]
    exact kept.read Cpi.bell
  obtain ⟨-, -, -, -, -, spm', -, svc', ple'⟩ := State.offering_frame y sl now
  rw [ple, record] at ple'
  rw [silent] at rings
  refine ⟨by rw [ple'], by rw [ple'], ?_, ?_, by rw [ple'], ?_, by rw [ple']; rfl, by rw [ple'], ?_, rings, ?_⟩
  · rw [ple']
    simp [v]
  · rw [svc', svc, counter]
    simp [v]
  · rw [ple']
    simp [v]
  · rw [dark, lamp]
    exact setLamp_lamp ..
  · rw [spm', spm, supply, clock']
    simp [v]

/-- R133: the REACH that the end of a first scan brings where a callback takes the slot tells of the call. -/
theorem buildReach_belled {s x : State} {sl : Slot} {ms : Nat} (state : (s.slot sl).state = .scanning)
    (closed : x = ((s.heard sl ms).belled sl).closeScan sl) :
    x.buildReach.adv.seq = (s.adv.seq + 1) % 256 ∧ x.buildReach.adv.lastBuild = some (s.arrive ms).clock.now ∧
    x.buildReach.lnc = (((s.arrive ms).withLnc { s.lnc with rng := rngStep s.lnc.rng }).hand 0 (.reach (reachPayload
      { seq := s.adv.seq, capacity := s.capacity, supply := s.spm.supply, localCall := true, items := advertItems s }))).lnc := by
  let v := (s.arrive ms).withPle x.ple
  have supply : x.spm.supply = s.spm.supply := by simp [closed, (belled_leaves (s.heard sl ms) sl).2.2.2]
  have same : v.SameAdvert x := by
    refine ⟨?_, ?_, ?_, ?_, ?_, supply.trans (by simp [v]), rfl, ?_, fun k => ?_⟩
    · simp [closed, v]
    · simp [closed, v]
    · simp [closed, v]
    · simp [closed, v]
    · simp [closed, v]
    · simp [closed, v]
    · rw [closed, show v.slot k = s.slot k from arrive_slot s ms k]
      by_cases at_ : k = sl
      · rw [at_, closeScan_slot, state]
        rfl
      · rw [slot_ne at_, closeScan_other, slot_of_slc (s := s.heard sl ms) (by simp), heard_other]
  have adv : x.adv = s.adv := same.adv.trans (by simp [v])
  have line : x.lnc = s.lnc := same.lnc.trans (by simp [v])
  have reach : reachNow x =
      { seq := s.adv.seq, capacity := s.capacity, supply := s.spm.supply, localCall := true, items := advertItems s } := by
    have bell : (x.ple.state != .idle) = true := by simp [closed, (belled_leaves (s.heard sl ms) sl).1]
    have items : advertItems x = advertItems s := same.items.trans (advertItems_congr (by simp [v]) (by simp [v]) (by simp [v]))
    have capacity : x.capacity = s.capacity := same.capacity.trans
      (capacity_congr (by simp [v]) (by simp [v]) (fun k => congrArg SlotRec.state (arrive_slot s ms k)) (by simp [v]))
    rw [reachNow, adv, capacity, supply, bell, items]
  rw [buildReach_lnc, reach, buildReach_adv, adv, line]
  exact ⟨rfl, congrArg some same.now, hand_lnc_own _ _ rfl (own_of_cfg same.cfg) same.now⟩

/-- Settles O42: the offer in IDLE and in SCANNING, and the refusals. -/
theorem incomingCallIsOfferedOrRefused : Obligations.IncomingCallIsOfferedOrRefused := by
  unfold Obligations.IncomingCallIsOfferedOrRefused
  intro s sl ms running now
  let v := s.heard sl ms
  have ple : v.ple = s.ple := by simp [v]
  have clock : v.clock.now = now := by simp [v, now]
  have grant : (v.slot sl).grant = (s.slot sl).grant := by rw [heard_slot]
  have slots (k : Slot) : (v.belled sl).slot k = v.slot k := slot_of_slc (by simp) k
  refine ⟨fun state window idle free => ?_, fun state window idle scans => ?_, fun refused => ?_⟩
  · have done := takeCallin_idle (s := v) (by rwa [ple]) (by rwa [ple]) (grant.trans free)
    rw [clock] at done
    obtain ⟨bell, origin, callId, svc, route, kept, rounds, timer, lamp, rings, spm⟩ :=
      offering_leaves (s := s) (sl := sl) (ms := ms) rfl rfl rfl (.refl _) (by simp)
    refine ⟨_, (exec_callin_free ms running (.inl state)).trans (congrArg _ done), bell, origin, callId, svc, route, kept,
      rounds, timer, lamp, rings, ?_, ?_, ?_, ?_, ?_, ?_, spm, ?_⟩
    · rw [offering_slot]
    · rw [offering_slot]
    · rw [offering_slot, slots, heard_slot]
    · rw [offering_other, slots, heard_other]
    all_goals simp [v]
  · obtain ⟨kind, scan⟩ := scans
    let x := (v.belled sl).closeScan sl
    have done : v.takeCallin sl = x.advScanEnded.offering sl now :=
      clock ▸ takeCallin_scanning (by rwa [ple]) (by rwa [ple]) (grant.trans scan)
    obtain ⟨bell, origin, callId, svc, route, kept, rounds, timer, lamp, rings, spm⟩ :=
      offering_leaves (s := s) (y := x.advScanEnded) (sl := sl) (ms := ms) (by simp [x, v]) (by simp [x, v]) (by simp [x, v])
        (by rw [(State.advScanEnded_frame x).2.2.1]; exact setSlot_butOut ..) (by simp [x, v])
    have slot : (x.advScanEnded.offering sl now).slot sl = { s.slot sl with
        state := .offered, grant := .localCall, waitingScan := false, request := .nothing, deadline := none,
        repeatsDue := 0, rung := false, heartbeat := some (now + 15000), idleTimer := none,
        scanTimer := s.scanTimerFrom now } := by
      have length : ((v.belled sl).scanLength.map ((v.belled sl).clock.now + ·)) = s.scanTimerFrom now := by
        rw [State.scanLength, (belled_leaves v sl).2.2.2, show (v.belled sl).clock.now = now by simp [clock],
          show v.spm = s.spm by simp [v], show (v.belled sl).cfg = s.cfg by simp [v], State.scanTimerFrom]
        cases s.spm.supply <;> rfl
      rw [offering_slot, slot_of_slc (s := x) (by simp), closeScan_slot, slots, heard_slot, length]
    refine ⟨x.advScanEnded.offering sl now, (exec_callin_free ms running (.inr state)).trans (congrArg _ done), bell, origin, callId, svc, route, kept,
      rounds, timer, lamp, rings, ?_, ?_, ?_, ?_, ?_, ?_, ?_, ?_, ?_, ?_, ?_, ?_, spm, fun w waits => ?_, fun past => ?_⟩
    case refine_10 =>
      rw [offering_other, slot_of_slc (s := x) (by simp), closeScan_other, slots, heard_other]
    case refine_11 => simp [x, v]
    case refine_12 => simp [x, v]
    case refine_13 =>
      have built := advScanEnded_startWait (s := x) (w := w) (by simpa [x, v] using waits)
      obtain ⟨seq, last, line⟩ := buildReach_belled (x := x) state rfl
      simp only [State.offering_frame, built]
      exact ⟨seq, last, line⟩
    case refine_14 =>
      have quiet := advScanEnded_other (s := x) (by simpa [x, v] using past)
      simp only [State.offering_frame, quiet]
      simp [x, v]
    all_goals rw [slot]
    rfl
  · obtain busy | ⟨free, shut⟩ := refused
    · exact exec_callin_busy ms running busy
    · refine (exec_callin_free ms running free).trans (congrArg _ (takeCallin_refused ?_))
      rwa [ple, grant]

end Sys2Proof.Machine
end

section
/-! GONE, by the state of the slot and the holder of its grant: O40 (R27, R28, R31, R75, R84, R101, R102, R108). -/

namespace Sys2Proof.Machine

/-! ### The command (R75, R84) -/

theorem exec_gone_call {s : State} {sl : Slot} (cause : GoneCause) (ms : Nat) (running : s.phase = .running)
    (state : (s.slot sl).state = .dialling ∨ (s.slot sl).state = .ringing ∨ (s.slot sl).state = .talking) :
    exec (.gone sl cause ms) s = .next ((s.settledIdle sl ms).reportSlot sl (.gone cause)) := by
  have past : isPastWarmUp (s.slot sl).state = true := by obtain state | state | state := state <;> rw [state] <;> rfl
  refine congrArg Host.Outcome.next ((hear_pastWarmUp ms _ running past).trans ?_)
  have heard : (((s.arrive ms).hearModule sl).slot sl).state = _ := heard_state s sl ms
  obtain state | state | state := state <;> rw [state] at heard <;> rw [heard] <;> rfl

theorem exec_gone_clearing {s : State} {sl : Slot} (cause : GoneCause) (ms : Nat) (running : s.phase = .running)
    (state : (s.slot sl).state = .clearing) : exec (.gone sl cause ms) s = .next ((s.settledIdle sl ms).arbiter sl) := by
  refine congrArg Host.Outcome.next ((hear_pastWarmUp ms _ running (by rw [state]; rfl)).trans ?_)
  have heard : (((s.arrive ms).hearModule sl).slot sl).state = _ := heard_state s sl ms
  rw [state] at heard
  rw [heard]
  rfl

/-- R84: the slot of an offer that the modem takes back. -/
def State.withdrawnOffer (s : State) (sl : Slot) (ms : Nat) : State :=
  (s.heard sl ms).setSlot sl fun r => { r.settled .idle with grant := .nobody }

theorem exec_gone_offered {s : State} {sl : Slot} (cause : GoneCause) (ms : Nat) (running : s.phase = .running)
    (state : (s.slot sl).state = .offered) : exec (.gone sl cause ms) s =
      .next (((s.withdrawnOffer sl ms).reportHolder sl (s.slot sl).grant (.gone cause)).arbiter sl) := by
  refine congrArg Host.Outcome.next ((hear_pastWarmUp ms _ running (by rw [state]; rfl)).trans ?_)
  have heard : (((s.arrive ms).hearModule sl).slot sl).state = _ := heard_state s sl ms
  have grant : ((s.heard sl ms).slot sl).grant = (s.slot sl).grant := by rw [heard_slot]
  rw [state] at heard
  rw [heard, ← grant]
  rfl

@[simp] theorem State.withdrawnOffer_frame (s : State) (sl : Slot) (ms : Nat) :
    (s.withdrawnOffer sl ms).clock = (s.arrive ms).clock ∧ (s.withdrawnOffer sl ms).nwt = s.nwt ∧
    (s.withdrawnOffer sl ms).nbt = s.nbt ∧ (s.withdrawnOffer sl ms).ple = s.ple ∧ (s.withdrawnOffer sl ms).cye = s.cye ∧
    (s.withdrawnOffer sl ms).tkm = s.tkm ∧ (s.withdrawnOffer sl ms).lnc = s.lnc ∧
    (s.withdrawnOffer sl ms).cfg = s.cfg ∧ (s.withdrawnOffer sl ms).svc = s.svc := by
  simp [State.withdrawnOffer]

theorem withdrawnOffer_slot (s : State) (sl : Slot) (ms : Nat) : (s.withdrawnOffer sl ms).slot sl =
    { (s.slot sl).settled .idle with
      grant := .nobody, heartbeat := some ((s.arrive ms).clock.now + 15000),
      idleTimer := ((s.withdrawnOffer sl ms).slot sl).idleTimer } := by
  rw [State.withdrawnOffer, State.setSlot_slot, heard_slot]
  exact settleIdle_eq ..

/-! ### The local call (R16, R27, R28) -/

theorem localReport_gone_attempt {s : State} (sl : Slot) (state : s.ple.state = .dialling ∨ s.ple.state = .ringing)
    (cause : GoneCause) : s.localReport sl (.gone cause) = s.endOwnAttempt sl (goneOutcome cause) := by
  unfold State.localReport
  obtain state | state := state <;> rw [state]

theorem localReport_gone_bell {s : State} (sl : Slot) (state : s.ple.state = .bell) (cause : GoneCause) :
    s.localReport sl (.gone cause) = s.finishCall .callerCleared := by
  unfold State.localReport
  rw [state]

theorem localReport_gone_cleared {s : State} (sl : Slot) (state : s.ple.state = .talking) :
    s.localReport sl (.gone .farCleared) = s.farEndClear := by
  unfold State.localReport
  rw [state]

theorem localReport_gone_lost {s : State} (sl : Slot) (state : s.ple.state = .talking) {cause : GoneCause}
    (lost : cause ≠ .farCleared) : s.localReport sl (.gone cause) = s.loseTalk := by
  unfold State.localReport
  rw [state]
  cases cause with
  | farCleared => contradiction
  | lost | localCleared => rfl

theorem ownReport_gone (cause : GoneCause) : ownReport (goneOutcome cause) = .failure := by cases cause <;> rfl

section
variable {s : State} {sl : Slot} {ms : Nat} (busy : (s.slot sl).state ≠ .idle) (grant : (s.slot sl).grant = .localCall)
  (quiet : (s.slot sl).NoClaims)
include busy grant quiet

/-- R70: the local call lets a slot go that its modem has let go. -/
theorem settledIdle_release : (s.settledIdle sl ms).release sl .localCall = (s.arrive ms).idled sl :=
  (release_letsGo ((settledIdle_grant ..).trans grant) (settledIdle_letsGo ms quiet)).trans
    (settledIdle_letGo ms busy (by rw [grant]; nofun))

/-- R16, R26, R84: an attempt that the modem ends. -/
theorem gone_attempt (state : s.ple.state = .dialling ∨ s.ple.state = .ringing) (cause : GoneCause) :
    (s.settledIdle sl ms).reportSlot sl (.gone cause) = ((s.arrive ms).idled sl).endAttempt (goneOutcome cause) := by
  rw [reportSlot_local ((settledIdle_grant ..).trans grant), localReport_gone_attempt sl (by simpa using state),
    State.endOwnAttempt, settledIdle_release busy grant quiet]

/-- R28, R84: a far-end clear. -/
theorem gone_cleared {code : Option Nat} (route : s.ple.route = some ⟨.slot sl, code⟩) (state : s.ple.state = .talking) :
    (s.settledIdle sl ms).reportSlot sl (.gone .farCleared) = ((s.arrive ms).idled sl).finishCall .talked := by
  have cleared : (s.settledIdle sl ms).farEndClear = ((s.settledIdle sl ms).release sl .localCall).finishCall .talked := by
    have named : (s.settledIdle sl ms).ple.route = some ⟨.slot sl, code⟩ := by simpa using route
    unfold State.farEndClear
    rw [named]
  rw [reportSlot_local ((settledIdle_grant ..).trans grant), localReport_gone_cleared sl (by simpa using state), cleared,
    settledIdle_release busy grant quiet]

/-- R25, R27: the loss of an own route, charged and released. -/
theorem settledIdle_talkLost {code : Nat} (route : s.ple.route = some ⟨.slot sl, some code⟩) :
    (s.settledIdle sl ms).talkLost = ((s.arrive ms).idled sl).reportEntry sl code .failure := by
  let u := s.settledIdle sl ms
  have named : u.ple.route = some ⟨.slot sl, some code⟩ := by simpa [u] using route
  have slot : (u.reportEntry sl code .failure).slot sl = u.slot sl := slot_of_slc (by simp) sl
  have lost : u.talkLost = (u.reportEntry sl code .failure).release sl .localCall := by
    rw [State.talkLost, named]
    exact congrArg (State.release · sl .localCall) (reportOutcome_slot named .lost)
  rw [lost, release_letsGo (by rw [slot]; exact (settledIdle_grant ..).trans grant) (by rw [slot]; exact settledIdle_letsGo ms quiet),
    setSlot_reportEntry rfl, settledIdle_letGo ms busy (by rw [grant]; nofun)]

/-- R27: of a callback no entry is charged (log 16). -/
theorem settledIdle_talkLost_codeless (route : s.ple.route = some ⟨.slot sl, none⟩) :
    (s.settledIdle sl ms).talkLost = (s.arrive ms).idled sl := by
  let u := s.settledIdle sl ms
  have named : u.ple.route = some ⟨.slot sl, none⟩ := by simpa [u] using route
  have lost : u.talkLost = u.release sl .localCall := by
    rw [State.talkLost, named]
    exact congrArg (State.release · sl .localCall) (reportOutcome_codeless named .lost)
  rw [lost, settledIdle_release busy grant quiet]

end

/-! ### The line at the end of a carry that is charged (R102, R108, R132) -/

/-- R108, R132, R147: the frames of a carry's end, and the early advert that its charge makes due after them. -/
theorem endCarry_reported_lnc {s u : State} {c : CarryRec} (same : s.SameAdvert u)
    (owned : (u.trunk c.trunk).owner = some c.id) (told : Option CprgReason)
    (carries : ((u.tell c told).giveUpSlot c).cye.length = s.cye.length)
    (out : ∀ sl, isOut (((u.tell c told).giveUpSlot c).slot sl).state = isOut (s.slot sl).state) (r : Report) (o : LogOutcome) :
    (u.endCarry c told true (some r) o).lnc =
      (((s.tell c told).hand 0 (.tfre (trunkNum c.trunk))).reportEntry c.slot c.code r).lnc := by
  let z := (s.tell c told).hand 0 (.tfre (trunkNum c.trunk))
  have line : (u.tell c told).lnc = (s.tell c told).lnc := by
    unfold State.tell
    split
    · exact hand_lnc_own _ _ same.lnc (own_of_cfg same.cfg) same.now
    · exact same.lnc
  have like : z.SameAdvert (u.carryFreed c told) := by
    refine ⟨?_, ?_, ?_, ?_, ?_, ?_, ?_, ?_, fun sl => ?_⟩
    · simpa [z] using same.now
    · exact (carryFreed_lnc owned told).trans
        (hand_lnc_own _ _ line (own_of_cfg (by simpa using same.cfg)) (by simpa using same.now))
    · simpa [z] using same.adv
    · simpa [z] using same.nwt
    · simpa [z] using same.cfg
    · simpa [z] using same.supply
    · simpa [z] using same.call
    · simpa [z] using carries
    · rw [slot_of_slc (State.carryFreed_frame u c told).2.2.2.2.2.2.2.2.1, slot_of_slc (s := s) (t := z) (by simp [z])]
      exact out sl
  exact (endCarry_leaves u c told (some r) o).2.1.trans (like.reportEntry c.slot c.code r).1

/-! ### The clauses of O40 -/

theorem slot_idled {s t : State} {sl : Slot} {ms : Nat} (slc : t.slc = ((s.arrive ms).idled sl).slc) :
    (t.slot sl).state = .idle ∧ (t.slot sl).grant = .nobody ∧ (t.slot sl).request = .nothing ∧ (t.slot sl).deadline = none ∧
    (t.slot sl).sent = (s.slot sl).sent ∧ t.slot (otherSlot sl) = s.slot (otherSlot sl) := by
  rw [slot_of_slc slc, slot_of_slc slc, idled_slot, idled_other, arrive_slot, arrive_slot]
  exact ⟨rfl, rfl, rfl, rfl, rfl, rfl⟩

/-- R28: a far-end clear closes the call as TALKED and charges nothing. -/
theorem farCleared_closes (s : State) (sl : Slot) (ms : Nat) :
    s.ClosesCall (((s.arrive ms).idled sl).finishCall .talked) (s.arrive ms).clock.now .talked := by
  have closes := finishCall_closes (s := s) (v := (s.arrive ms).idled sl) .talked (by simp [State.closeLog]) (by simp) (by simp)
  rwa [(State.idled_frame (s.arrive ms) sl).1] at closes

/-- R27: the sixth loss, with the slot let go by its modem. -/
theorem lost_closes {s : State} {sl : Slot} {ms : Nat} (sixth : 5 ≤ s.ple.resumptions) :
    s.ClosesCall (s.settledIdle sl ms).loseTalk (s.arrive ms).clock.now .lost := by
  have closes := (loseTalk_closes (s := s.settledIdle sl ms) (by simpa using sixth)).1
  rw [(State.settledIdle_frame s sl ms).1] at closes
  exact ClosesCall.congr (by simp) (by simp) (by simp) closes

/-- R27: a loss in TALKING. -/
theorem exec_gone_lost {s : State} {sl : Slot} {cause : GoneCause} (ms : Nat) (running : s.phase = .running)
    (grant : (s.slot sl).grant = .localCall) (state : (s.slot sl).state = .talking) (call : s.ple.state = .talking) (lost : cause ≠ .farCleared) :
    exec (.gone sl cause ms) s = .next (s.settledIdle sl ms).loseTalk := by
  rw [exec_gone_call cause ms running (.inr (.inr state)), reportSlot_local ((settledIdle_grant ..).trans grant),
    localReport_gone_lost sl (by simpa using call) lost]

/-- R27, R84: GONE in TALKING that is a loss before the sixth. -/
theorem gone_talking_resumes {s : State} {sl : Slot} {cause : GoneCause} (ms : Nat) (running : s.phase = .running)
    (grant : (s.slot sl).grant = .localCall) (state : (s.slot sl).state = .talking) (call : s.ple.state = .talking)
    (lost : cause ≠ .farCleared) (few : s.ple.resumptions < 5) :
    let u := (s.settledIdle sl ms).talkLost
    ∃ t, exec (.gone sl cause ms) s = .next t ∧ s.Resumes t (s.arrive ms).clock.now ∧
      u.StartsRound t (s.arrive ms).clock.now ∧ t.nbt = u.nbt ∧ t.nwt = u.nwt ∧ t.adv = u.adv ∧ t.tkm = s.tkm := by
  intro u
  obtain ⟨resumes, starts, neighbours, networks, advert, trunks⟩ :=
    loseTalk_resumes (s := s.settledIdle sl ms) (by simpa using few)
  rw [(State.settledIdle_frame s sl ms).1] at resumes starts
  exact ⟨_, exec_gone_lost ms running grant state call lost, Resumes.congr (by simp) (by simp) (by simp) resumes,
    starts, neighbours, networks, advert, trunks.trans (by simp)⟩

section
variable {s : State} {sl : Slot} (cause : GoneCause) (ms : Nat) (running : s.phase = .running) (grant : (s.slot sl).grant = .localCall)
  (quiet : (s.slot sl).NoClaims)
include running grant quiet

theorem exec_gone_cleared {code : Option Nat} (state : (s.slot sl).state = .talking) (call : s.ple.state = .talking)
    (route : s.ple.route = some ⟨.slot sl, code⟩) :
    exec (.gone sl .farCleared ms) s = .next (((s.arrive ms).idled sl).finishCall .talked) :=
  (exec_gone_call .farCleared ms running (.inr (.inr state))).trans
    (congrArg _ (gone_cleared (by rw [state]; nofun) grant quiet route call))

/-- R27, R28, R84: GONE in TALKING that closes the call. -/
theorem gone_talking_closes {code : Nat} (state : (s.slot sl).state = .talking) (call : s.ple.state = .talking)
    (route : s.ple.route = some ⟨.slot sl, some code⟩) (sixth : cause ≠ .farCleared → s.ple.resumptions = 5) :
    let now := (s.arrive ms).clock.now
    ∃ t, exec (.gone sl cause ms) s = .next t ∧ s.ClosesCall t now (if cause = .farCleared then .talked else .lost) ∧
      t.slc = ((s.arrive ms).idled sl).slc ∧
      t.table sl = ((s.table sl).map fun e =>
        if e.code = code ∧ cause ≠ .farCleared then { e with quality := e.quality.report now .failure } else e) ∧
      t.table (otherSlot sl) = s.table (otherSlot sl) ∧ t.cye = s.cye ∧ t.tkm = s.tkm ∧ t.nbt = s.nbt := by
  intro now
  let v := (s.arrive ms).idled sl
  by_cases far : cause = .farCleared
  · subst far
    refine ⟨v.finishCall .talked, exec_gone_cleared ms running grant quiet state call route, farCleared_closes s sl ms,
      by simp [v], ?_, ?_, by simp [v], by simp [v], by simp [v]⟩
    · rw [table_of_nwt (s := s) (by simp [v])]
      simp
    · rw [table_of_nwt (s := s) (by simp [v])]
  · have lost := settledIdle_talkLost (ms := ms) (by rw [state]; nofun) grant quiet route
    obtain ⟨-, slots, carries, -, networks, neighbours, -, -⟩ :=
      loseTalk_closes (s := s.settledIdle sl ms) (by simpa using (sixth far).ge)
    rw [lost] at slots carries networks neighbours
    refine ⟨_, exec_gone_lost ms running grant state call far, ?_, slots.trans (by simp), ?_, ?_, carries.trans (by simp),
      by simp [loseTalk_eq, State.setPle], neighbours.trans (by simp)⟩
    · rw [if_neg far]
      exact lost_closes (sixth far).ge
    · rw [table_of_nwt networks]
      refine (tableEvent_table ..).trans ?_
      rw [table_of_nwt (s := s) (by simp)]
      simp [updateEntry, far, now]
    · rw [table_of_nwt networks]
      exact (tableEvent_other ..).trans (table_of_nwt (by simp) _)

end

/-! ### A carry (R101, R102, R108) -/

/-- R101: the reason told of a carry that the modem ends. -/
def goneTold (cause : GoneCause) : CprgReason := if cause = .farCleared then .farCleared else .lost

theorem carryReport_gone {s : State} {c : CarryRec} (found : findCarry s.cye c.id = some c) (cause : GoneCause) :
    s.carryReport c.id (.gone cause) = s.endCarry c (some (goneTold cause)) true
      (if cause = .farCleared ∧ c.state = .talking then none else some .failure)
      (if cause = .farCleared ∧ c.state = .talking then .talked else .failed (goneTold cause)) := by
  unfold State.carryReport
  rw [found]
  cases cause with
  | farCleared =>
    dsimp only
    by_cases talking : c.state = .talking <;> simp [talking, goneTold]
  | lost | localCleared => rfl

/-- R101, R102, R108, R132: GONE at the carry that holds the grant. -/
theorem gone_carry {s : State} {c : CarryRec} (cause : GoneCause) (ms : Nat) (running : s.phase = .running)
    (quiet : (s.slot c.slot).NoClaims) (sound : s.CarriesSound) (mem : c ∈ s.cye) (grant : (s.slot c.slot).grant = .carry c.id)
    (states : (s.slot c.slot).state = .dialling ∧ c.state = .dialling ∨ (s.slot c.slot).state = .ringing ∧ c.state = .ringing ∨
      (s.slot c.slot).state = .talking ∧ c.state = .talking) :
    let now := (s.arrive ms).clock.now
    let u := (s.arrive ms).handAll [some ⟨c.id.requester, .cprg c.id.callId (.failed (goneTold cause))⟩,
      some ⟨0, .tfre (trunkNum c.trunk)⟩]
    ∃ t, exec (.gone c.slot cause ms) s = .next t ∧
      s.EndsCarry t c (if cause = .farCleared ∧ c.state = .talking then .talked else .failed (goneTold cause)) ∧
      t.slc = ((s.arrive ms).idled c.slot).slc ∧
      (cause = .farCleared → c.state = .talking → t.nwt = s.nwt ∧ t.adv = s.adv ∧ t.lnc = u.lnc) ∧
      (cause ≠ .farCleared ∨ c.state ≠ .talking →
        t.table c.slot = ((s.table c.slot).map fun e =>
          if e.code = c.code then { e with quality := e.quality.report now .failure } else e) ∧
        t.table (otherSlot c.slot) = s.table (otherSlot c.slot) ∧ t.lnc = (u.reportEntry c.slot c.code .failure).lnc) ∧
      t.ple = s.ple ∧ t.nbt = s.nbt := by
  intro now u
  obtain ⟨queue, ⟨trunks, -⟩, -⟩ := sound
  let w := s.settledIdle c.slot ms
  let told : Option CprgReason := some (goneTold cause)
  let report : Option Report := if cause = .farCleared ∧ c.state = .talking then none else some .failure
  let o : LogOutcome := if cause = .farCleared ∧ c.state = .talking then .talked else .failed (goneTold cause)
  have taken : (s.slot c.slot).state = .dialling ∨ (s.slot c.slot).state = .ringing ∨ (s.slot c.slot).state = .talking :=
    states.imp And.left (Or.imp And.left And.left)
  have busy : (s.slot c.slot).state ≠ .idle := by obtain state | state | state := taken <;> rw [state] <;> nofun
  have live : isOut (s.slot c.slot).state = false := by obtain state | state | state := taken <;> rw [state] <;> rfl
  have past : c.state ≠ .queued := by obtain ⟨-, state⟩ | ⟨-, state⟩ | ⟨-, state⟩ := states <;> rw [state] <;> nofun
  have cye : w.cye = s.cye := by simp [w]
  have done : w.reportSlot c.slot (.gone cause) = w.endCarry c told true report o :=
    (reportSlot_carry ((settledIdle_grant ..).trans grant) _).trans
      (carryReport_gone (by rw [cye]; exact findCarry_mem queue mem) cause)
  have owned : (w.trunk c.trunk).owner = some c.id :=
    (congrArg TrunkEntry.owner (trunk_of_tkm (by simp [w]) _)).trans (trunks c mem)
  obtain ⟨slots, stands⟩ := endCarry_idled (w := w) rfl (by simp [w]) busy quiet grant past told
  obtain ⟨queue', free, others, log, joins, waiting⟩ := endCarry_ends owned stands report o
  obtain ⟨slc, lnc, -, -, nbt, ple, -⟩ := endCarry_leaves w c told report o
  have same : (s.arrive ms).SameAdvert w := by
    refine ⟨by simp [w], by simp [w], by simp [w], by simp [w], by simp [w], by simp [w], by simp [w], by simp [w], fun k => ?_⟩
    rw [arrive_slot]
    by_cases at_ : k = c.slot
    · rw [at_, settledIdle_state, live]
      rfl
    · rw [slot_ne at_]
      simp [w, State.settledIdle]
  refine ⟨_, (exec_gone_call cause ms running taken).trans (congrArg _ done), ⟨queue'.trans (by rw [cye]), free,
    fun k ne => (others k ne).trans (trunk_of_tkm (by simp [w]) k), log.trans (by simp [w, o]), joins, waiting⟩, slc.trans slots,
    fun far talking => ?_, fun charged => ?_, ple.trans (by simp [w]), nbt.trans (by simp [w])⟩
  · have none : report = none := if_pos ⟨far, talking⟩
    rw [none] at lnc ⊢
    obtain ⟨nwt, adv⟩ := endCarry_unreported w c told o
    refine ⟨nwt.trans (by simp [w]), adv.trans (by simp [w]), lnc.trans ((carryFreed_lnc owned told).trans ?_)⟩
    exact hand_lnc_own _ _ (hand_lnc_own _ _ same.lnc (own_of_cfg same.cfg) same.now) (own_of_cfg (by simp [w, told]))
      (by simp [w, told])
  · have failure : report = some .failure := if_neg (by tauto)
    rw [failure]
    obtain ⟨table, other⟩ := endCarry_reported w c told .failure o
    refine ⟨?_, ?_, ?_⟩
    · rw [table, table_of_nwt (s := s) (by simp [w])]
      simp [w, now]
    · rw [other, table_of_nwt (s := s) (by simp [w])]
    · refine endCarry_reported_lnc same owned told (by rw [stands, cye]; simp) (fun k => ?_) .failure o
      rw [slot_of_slc slots, arrive_slot]
      by_cases at_ : k = c.slot
      · rw [at_, idled_slot, live]
        rfl
      · rw [slot_ne at_, idled_other, arrive_slot]

/-- Settles O40: GONE by the state of the slot and the holder of its grant. -/
theorem callEndsWhenTheModemLetsGo : Obligations.CallEndsWhenTheModemLetsGo := by
  unfold Obligations.CallEndsWhenTheModemLetsGo
  refine ⟨?_, ?_, ?_, ?_, ?_, ?_, ?_⟩
  · intro s sl cause ms code running state grant quiet call route talk sixth now
    obtain ⟨t, done, ⟨ple, svc, -, -, -, lamp⟩, slc, table, other, cye, tkm, nbt⟩ :=
      gone_talking_closes cause ms running grant quiet state call route sixth
    obtain ⟨idle, nobody, -, -, sent, stands⟩ := slot_idled slc
    have through : s.ple.talkRoute.or s.ple.route = some ⟨.slot sl, some code⟩ := by rw [talk, route]; rfl
    rw [talk, route] at ple
    rw [through] at svc
    refine ⟨t, done, idle, nobody, sent, stands, ple, ⟨_, congrArg Svc.log svc, rfl, rfl, rfl, rfl, rfl⟩, table, other, cye,
      tkm, nbt, fun far => ?_, fun lost => ?_⟩
    · simp only [if_pos far] at lamp
      exact lamp.1
    · simp only [if_neg lost] at lamp
      exact lamp.1
  · intro s sl cause ms code running state grant quiet call route lost few now
    obtain ⟨t, done, ⟨count, start, limit, -, -, -, callId, origin, lifted, reached, talk, seconds, pause, -, lamp, log⟩,
      starts, nbt, nwt, -, tkm⟩ := gone_talking_resumes ms running grant state call lost few
    have charged := settledIdle_talkLost (ms := ms) (by rw [state]; nofun) grant quiet route
    rw [charged] at starts nbt nwt
    have written : (((s.arrive ms).reportEntry sl code .failure).setSlot sl fun r =>
        { r with state := .idle, grant := .nobody, request := .nothing, deadline := none, repeatsDue := 0, rung := false,
                 heartbeat := some (now + 15000), idleTimer := none }) =
        ((s.arrive ms).idled sl).reportEntry sl code .failure :=
      setSlot_reportEntry (by rw [arrive_slot, state]; rfl) sl code .failure
    refine ⟨t, done, ?_, ?_, written ▸ starts, count, start, limit, callId, origin, lifted, reached, talk, seconds, pause,
      lamp, log, nbt.trans (by simp), tkm⟩
    · rw [table_of_nwt nwt]
      refine (tableEvent_table ..).trans ?_
      rw [table_of_nwt (s := s) (by simp)]
      simp [updateEntry, now]
    · rw [table_of_nwt nwt]
      exact (tableEvent_other ..).trans (table_of_nwt (by simp) _)
  · intro s sl cause ms running state grant quiet call route now idle
    have busy : (s.slot sl).state ≠ .idle := by rw [state]; nofun
    have uncharged := settledIdle_talkLost_codeless (ms := ms) busy grant quiet route
    have idles {t : State} (slc : t.slc = ((s.arrive ms).idled sl).slc) (lnc : t.lnc = s.lnc) : idle t := by
      obtain ⟨st, nobody, -, deadline, sent, other⟩ := slot_idled slc
      exact ⟨st, nobody, deadline, sent, other, lnc⟩
    by_cases far : cause = .farCleared
    · subst far
      refine ⟨_, exec_gone_cleared ms running grant quiet state call route, ?_, ?_, ?_, ?_,
        fun _ => ⟨farCleared_closes s sl ms, idles (by simp) (by simp), by simp⟩, fun h => absurd rfl h, fun h => absurd rfl h⟩ <;>
        simp
    · by_cases few : s.ple.resumptions < 5
      · obtain ⟨t, done, resumes, starts, nbt, nwt, adv, tkm⟩ := gone_talking_resumes ms running grant state call far few
        rw [uncharged] at starts nbt nwt adv
        exact ⟨t, done, nwt.trans (by simp), nbt.trans (by simp), adv.trans (by simp), tkm, fun h => absurd h far,
          fun _ _ => ⟨starts, resumes⟩, fun _ h => absurd few (by omega)⟩
      · obtain ⟨-, slots, carries, line, networks, neighbours, advert, -⟩ :=
          loseTalk_closes (s := s.settledIdle sl ms) (by simpa using not_lt.1 few)
        rw [uncharged] at slots carries line networks neighbours advert
        exact ⟨_, exec_gone_lost ms running grant state call far, networks.trans (by simp), neighbours.trans (by simp),
          advert.trans (by simp), by simp [loseTalk_eq, State.setPle], fun h => absurd h far, fun _ h => absurd h few,
          fun _ _ => ⟨lost_closes (not_lt.1 few), idles slots (line.trans (by simp)), carries.trans (by simp)⟩⟩
  · intro s sl cause ms running state grant quiet
    have same : (s.settledIdle sl ms).arbiter sl = s.settledIdle sl ms :=
      arbiter_noClaims _ _ (by rw [settledIdle_slot]; exact quiet)
    have other : (s.settledIdle sl ms).slot (otherSlot sl) = s.slot (otherSlot sl) := by simp [State.settledIdle]
    refine ⟨_, (exec_gone_clearing cause ms running state).trans (congrArg _ same), ?_, ?_, ?_, ?_, ?_, other, ?_, ?_, ?_, ?_⟩
    case refine_6 | refine_7 | refine_8 | refine_9 => simp
    all_goals rw [settledIdle_slot]; rfl
  · intro s sl cause ms code running grant quiet route states now
    let v := (s.arrive ms).idled sl
    have ple : v.ple = s.ple := by simp [v]
    have call : s.ple.state = .dialling ∨ s.ple.state = .ringing := states.imp And.right And.right
    have busy : (s.slot sl).state ≠ .idle := by obtain ⟨state, -⟩ | ⟨state, -⟩ := states <;> rw [state] <;> nofun
    obtain ⟨ends, table, other⟩ := endAttempt_own (s := v) (goneOutcome cause) (by rwa [ple])
      (by rw [ple]; obtain call | call := call <;> rw [call] <;> nofun)
    obtain ⟨-, svc, -, cye, -, nbt, -⟩ := ends.stands
    have clock : v.clock = (s.arrive ms).clock := by simp [v]
    rw [ownReport_gone, clock] at ends table
    refine ⟨_, (exec_gone_call cause ms running (states.imp And.left (.inl ∘ And.left))).trans
      (congrArg _ (gone_attempt busy grant quiet call cause)), ends, fun all => ?_, ?_, ?_, ?_, ?_, ?_⟩
    · obtain ⟨idle, nobody, deadline, nothing, sent, stands, waiting, -⟩ :=
        endAttempt_idled (v := v) rfl ple (by simp [v]) clock (goneOutcome cause) all
      exact ⟨idle, nobody, nothing, deadline, sent, stands, waiting⟩
    · rw [table, table_of_nwt (s := s) (by simp [v])]
    · rw [other, table_of_nwt (s := s) (by simp [v])]
    · rw [nbt]
      simp [v]
    · rw [cye]
      simp [v]
    · rw [svc]
      simp [v]
  · intro s sl cause ms running state grant quiet call
    let w := s.withdrawnOffer sl ms
    have slot : (w.finishCall .callerCleared).slot sl = w.slot sl := slot_of_slc (by simp) sl
    have done : (w.reportHolder sl (s.slot sl).grant (.gone cause)).arbiter sl = w.finishCall .callerCleared := by
      rw [grant]
      refine (congrArg (State.arbiter · sl) (localReport_gone_bell sl (by simpa [w] using call) cause)).trans
        (arbiter_noClaims _ _ ?_)
      rw [slot, withdrawnOffer_slot]
      exact quiet
    have closes := finishCall_closes (s := s) (v := w) .callerCleared (by simp [State.closeLog, w]) (by simp [w]) (by simp [w])
    rw [show w.clock = (s.arrive ms).clock by simp [w]] at closes
    have other : (w.finishCall .callerCleared).slot (otherSlot sl) = s.slot (otherSlot sl) :=
      (slot_of_slc (s := w) (by simp) _).trans (by simp [w, State.withdrawnOffer])
    refine ⟨_, (exec_gone_offered cause ms running state).trans (congrArg _ done), closes, ?_, ?_, ?_, ?_, other, ?_, ?_, ?_,
      ?_, ?_⟩
    case refine_5 | refine_6 | refine_7 | refine_8 | refine_9 => simp [w]
    all_goals exact (congrArg _ (slot.trans (withdrawnOffer_slot s sl ms))).trans rfl
  · intro s sl cause ms c running quiet sound mem at_c grant states now told u
    subst at_c
    obtain ⟨t, done, ends, slc, far, charged, ple, nbt⟩ := gone_carry cause ms running quiet sound mem grant states
    obtain ⟨idle, nobody, -, deadline, sent, other⟩ := slot_idled slc
    exact ⟨t, done, ends, idle, nobody, deadline, sent, other, far, charged, ple, nbt⟩

end Sys2Proof.Machine
end

section
/-! The frames of the carrier that move an attempt on or end it: CPRG and CNAK, and O50 (R18, R20, R22, R25 to R28). -/

namespace Sys2Proof.Machine

/-! ### The commands (R18, R20, R23) -/

theorem Ple.isMatch_iff {p : Ple} {src callId : Nat} :
    p.isMatch src callId = true ↔ p.relayCarrier = some src ∧ p.callId = callId := by
  simp [Ple.isMatch]

theorem exec_cprg_mine {s : State} {h : Header} (callId : Nat) (stage : CprgStage) (ms : Nat) (hears : s.Hears h)
    (mine : s.own = some h.dst) :
    exec (.cprg h callId stage ms) s = .next ((s.frameHeard ms).takeCprg h.src callId stage) := by
  simp [exec, execCprg, receive_hears _ _ _ hears, frameHeard_isMine, mine]

theorem exec_cprg_other {s : State} {h : Header} (callId : Nat) (stage : CprgStage) (ms : Nat) (hears : s.Hears h)
    (other : s.own ≠ some h.dst) : exec (.cprg h callId stage ms) s = .next (s.frameHeard ms) := by
  simp [exec, execCprg, receive_hears _ _ _ hears, frameHeard_isMine, other]

theorem exec_cnak_mine {s : State} {h : Header} (callId : Nat) (reason : CnakReason) (ms : Nat) (hears : s.Hears h)
    (mine : s.own = some h.dst) :
    exec (.cnak h callId reason ms) s = .next ((s.frameHeard ms).takeCnak h.src callId reason) := by
  simp [exec, execCnak, receive_hears _ _ _ hears, frameHeard_isMine, mine]

theorem exec_cnak_other {s : State} {h : Header} (callId : Nat) (reason : CnakReason) (ms : Nat) (hears : s.Hears h)
    (other : s.own ≠ some h.dst) : exec (.cnak h callId reason ms) s = .next (s.frameHeard ms) := by
  simp [exec, execCnak, receive_hears _ _ _ hears, frameHeard_isMine, other]

/-- R22: a frame of the carrier has been heard. -/
def State.carrierHeard (s : State) (ms : Nat) : State := (s.frameHeard ms).restartSilence

theorem carrierHeard_eq (s : State) (ms : Nat) : s.carrierHeard ms = (s.frameHeard ms).withPle
    { s.ple with carrierSilence := some ((s.frameHeard ms).clock.now + 8000) } := rfl

@[simp] theorem State.carrierHeard_frame (s : State) (ms : Nat) :
    (s.carrierHeard ms).clock = (s.frameHeard ms).clock ∧ (s.carrierHeard ms).xpt = s.xpt ∧
    (s.carrierHeard ms).slc = s.slc ∧ (s.carrierHeard ms).nwt = s.nwt ∧ (s.carrierHeard ms).nbt = s.nbt ∧
    (s.carrierHeard ms).adv = s.adv ∧ (s.carrierHeard ms).rsl = s.rsl ∧ (s.carrierHeard ms).cye = s.cye ∧
    (s.carrierHeard ms).tkm = s.tkm ∧ (s.carrierHeard ms).lnc = (s.frameHeard ms).lnc ∧
    (s.carrierHeard ms).cfg = s.cfg ∧ (s.carrierHeard ms).svc = s.svc ∧
    (s.carrierHeard ms).ple = { s.ple with carrierSilence := some ((s.frameHeard ms).clock.now + 8000) } := by
  simp [carrierHeard_eq]

theorem takeCprg_matched {s : State} {src callId : Nat} (ms : Nat) (carrier : s.ple.relayCarrier = some src)
    (call : s.ple.callId = callId) (trunk : s.ple.trunk.isSome = true) (stage : CprgStage) :
    (s.frameHeard ms).takeCprg src callId stage = (s.carrierHeard ms).takeStage stage :=
  if_pos ⟨Ple.isMatch_iff.2 ⟨carrier, call⟩, trunk⟩

theorem takeCprg_ignored {s : State} {src callId : Nat}
    (other : s.ple.relayCarrier ≠ some src ∨ s.ple.callId ≠ callId ∨ s.ple.trunk = none) (stage : CprgStage) :
    s.takeCprg src callId stage = s := by
  refine if_neg ?_
  rw [Ple.isMatch_iff]
  rintro ⟨⟨carrier, call⟩, trunk⟩
  obtain other | other | none := other
  · exact other carrier
  · exact other call
  · simp [none] at trunk

/-! ### The stages (R20) -/

theorem takeStage_ringing {s : State} (state : s.ple.state = .relaying) : s.takeStage .ringing =
    (s.enterCallState .ringing).setPle fun p => { p with ringLimit := some (s.clock.now + ringLimitMs) } := by
  unfold State.takeStage
  rw [state]

theorem takeStage_talking {s : State} (state : s.ple.state = .relaying ∨ s.ple.state = .ringing) :
    s.takeStage .talking = s.enterTalking.reportOutcome .connected := by
  unfold State.takeStage
  obtain state | state := state <;> rw [state]

theorem takeStage_failed {s : State} (state : s.ple.state = .relaying ∨ s.ple.state = .ringing) (r : CprgReason) :
    s.takeStage (.failed r) = s.endAttempt (failedOutcome r) := by
  unfold State.takeStage
  obtain state | state := state <;> rw [state]

theorem takeStage_cleared {s : State} (state : s.ple.state = .talking) :
    s.takeStage (.failed .farCleared) = s.farEndClear := by
  unfold State.takeStage
  rw [state]

theorem takeStage_lost {s : State} (state : s.ple.state = .talking) {r : CprgReason} (lost : r ≠ .farCleared) :
    s.takeStage (.failed r) = s.loseTalk := by
  unfold State.takeStage
  rw [state]
  cases r with
  | farCleared => contradiction
  | _ => rfl

/-- R20: a stage already reached changes nothing. -/
theorem takeStage_repeated {s : State} {stage : CprgStage}
    (again : stage = .ringing ∧ (s.ple.state = .ringing ∨ s.ple.state = .talking) ∨ stage = .talking ∧ s.ple.state = .talking) :
    s.takeStage stage = s := by
  unfold State.takeStage
  obtain ⟨rfl, state | state⟩ | ⟨rfl, state⟩ := again <;> rw [state]

/-! ### What the carrier-silence timer does not bear on -/

/-- R26: the silence timer of the record before does not bear on how it goes on. -/
theorem endsAttempt_silence {v t : State} {now : Nat} {x : Option Nat}
    (h : State.EndsAttempt (v.withPle { v.ple with carrierSilence := x }) t now) : v.EndsAttempt t now := by
  let w := v.withPle { v.ple with carrierSilence := x }
  obtain ⟨ple, answer, pause, takes, rest⟩ := h
  exact ⟨ple, answer, pause, TakesRoutes.congr (w := w) rfl rfl rfl rfl rfl rfl rfl rfl rfl rfl takes, rest⟩

theorem startsRound_silence {v t : State} {now : Nat} {x : Option Nat}
    (h : State.StartsRound (v.withPle { v.ple with carrierSilence := x }) t now) : v.StartsRound t now :=
  StartsRound.congr (w := v.withPle { v.ple with carrierSilence := x }) rfl rfl rfl rfl rfl rfl rfl rfl rfl rfl rfl h

/-! ### An attempt that the carrier ends (R18, R20, R25, R26) -/

/-- R43: the neighbour's counter after a report that is a failure or changes nothing. -/
theorem reported_map (nbt : List NeighbourEntry) (n now : Nat) {r : Report} {charged : Prop} [Decidable charged]
    (report : r = if charged then .failure else .noChange) :
    (nbt.map fun e => if e.addr = n then { e with quality := e.quality.report now r } else e) =
      nbt.map fun e => if e.addr = n ∧ charged then { e with quality := e.quality.report now .failure } else e := by
  refine List.map_congr_left fun e _ => ?_
  by_cases charge : charged
  · simp [report, charge]
  · have same : ({ e with quality := e.quality.report now r } : NeighbourEntry) = e := by
      rw [report, if_neg charge]
      rfl
    simp [same, charge]

theorem failedReport_eq (reason : CprgReason) : relayReport (failedOutcome reason) =
    if reason ≠ .busy ∧ reason ≠ .noTrunk ∧ reason ≠ .barred then .failure else .noChange := by
  cases reason <;> rfl

/-- R20, R25, R26: a CPRG FAILED before TALKING. -/
theorem cprg_failed_ends {s : State} {h : Header} {callId : Nat} (ms : Nat) {code : Option Nat} (reason : CprgReason)
    (hears : s.Hears h) (mine : s.own = some h.dst) (route : s.ple.route = some ⟨.box h.src, code⟩)
    (call : s.ple.callId = callId) (state : s.ple.state = .relaying ∨ s.ple.state = .ringing)
    (trunk : s.ple.trunk.isSome = true) :
    let now := (s.frameHeard ms).clock.now
    ∃ t, exec (.cprg h callId (.failed reason) ms) s = .next t ∧
      t.nbt = (s.nbt.map fun e =>
        if e.addr = h.src ∧ reason ≠ .busy ∧ reason ≠ .noTrunk ∧ reason ≠ .barred then
          { e with quality := e.quality.report now .failure }
        else e) ∧
      State.EndsAttempt ((s.frameHeard ms).withNbt t.nbt) t now ∧
      (s.AllTried →
        t.ple = { s.ple with
          state := .waiting, trunk := none, answerTimer := none, holdRefresh := none, carrierSilence := none,
          ringLimit := none, pauseTimer := some (now + s.ple.pauseLength * 1000) } ∧
        t.lnc = (s.frameHeard ms).lnc ∧ t.slc = s.slc) ∧
      t.nwt = s.nwt ∧ t.cye = s.cye ∧ t.tkm = s.tkm ∧ t.svc = s.svc := by
  intro now
  let v := s.carrierHeard ms
  have carrier := Ple.relayCarrier_box route (state.imp_right .inl)
  have active : v.ple.state ≠ .idle := by obtain state | state := state <;> simp [v, state]
  obtain ⟨nbt, ends, waits⟩ := endAttempt_relay (s := v) (failedOutcome reason) (by simpa [v] using route) active
  obtain ⟨-, svc, tkm, cye, nwt, -⟩ := ends.stands
  have done := (exec_cprg_mine callId (.failed reason) ms hears mine).trans (congrArg _
    ((takeCprg_matched ms carrier call trunk (.failed reason)).trans (takeStage_failed (s := v) (by simpa [v] using state) reason)))
  refine ⟨_, done, ?_, endsAttempt_silence ends, fun all => waits all, nwt.trans ?_, cye.trans ?_, tkm.trans ?_, svc.trans ?_⟩
  · exact nbt.trans (reported_map _ _ _ (failedReport_eq reason))
  all_goals simp [v]

theorem cnakReport_eq (reason : CnakReason) : relayReport (cnakOutcome reason) =
    if reason = .noNetwork ∨ reason = .notCarrying then .failure else .noChange := by
  cases reason <;> rfl

/-- R18, R25, R26: a CNAK that answers the attempt. -/
theorem cnak_ends {s : State} {h : Header} {callId : Nat} (ms : Nat) (reason : CnakReason) (hears : s.Hears h)
    (mine : s.own = some h.dst) (carrier : s.ple.relayCarrier = some h.src) (call : s.ple.callId = callId)
    (answer : s.ple.answerTimer.isSome = true) :
    let now := (s.frameHeard ms).clock.now
    ∃ t, exec (.cnak h callId reason ms) s = .next t ∧
      t.nbt = (s.nbt.map fun e =>
        if e.addr = h.src ∧ (reason = .noNetwork ∨ reason = .notCarrying) then
          { e with quality := e.quality.report now .failure }
        else e) ∧
      State.EndsAttempt ((s.frameHeard ms).withNbt t.nbt) t now ∧
      (s.AllTried →
        t.ple = { s.ple with
          state := .waiting, trunk := none, answerTimer := none, holdRefresh := none, carrierSilence := none,
          ringLimit := none, pauseTimer := some (now + s.ple.pauseLength * 1000) } ∧
        t.lnc = (s.frameHeard ms).lnc ∧ t.slc = s.slc) ∧
      t.nwt = s.nwt ∧ t.cye = s.cye ∧ t.tkm = s.tkm ∧ t.svc = s.svc := by
  intro now
  obtain ⟨code, route, state⟩ := relayCarrier_route carrier
  let v := s.frameHeard ms
  have active : v.ple.state ≠ .idle := by obtain state | state | state := state <;> simp [v, state]
  obtain ⟨nbt, ends, waits⟩ := endAttempt_relay (s := v) (cnakOutcome reason) (by simpa [v] using route) active
  obtain ⟨-, svc, tkm, cye, nwt, -⟩ := ends.stands
  have taken : v.takeCnak h.src callId reason = v.endAttempt (cnakOutcome reason) :=
    if_pos ⟨Ple.isMatch_iff.2 ⟨carrier, call⟩, answer⟩
  refine ⟨_, (exec_cnak_mine callId reason ms hears mine).trans (congrArg _ taken), ?_, ends, fun all => waits all,
    nwt.trans ?_, cye.trans ?_, tkm.trans ?_, svc.trans ?_⟩
  · exact nbt.trans (reported_map _ _ _ (cnakReport_eq reason))
  all_goals simp [v]

/-- R18, R23: any other CNAK. -/
theorem cnak_ignored {s : State} {h : Header} {callId : Nat} (ms : Nat) (reason : CnakReason) (hears : s.Hears h)
    (other : s.own ≠ some h.dst ∨ s.ple.relayCarrier ≠ some h.src ∨ s.ple.callId ≠ callId ∨ s.ple.answerTimer = none) :
    exec (.cnak h callId reason ms) s = .next (s.frameHeard ms) := by
  by_cases mine : s.own = some h.dst
  · refine (exec_cnak_mine callId reason ms hears mine).trans (congrArg _ (if_neg ?_))
    rw [Ple.isMatch_iff]
    rintro ⟨⟨carrier, call⟩, answer⟩
    obtain other | other | other | silent := other
    · exact other mine
    · exact other carrier
    · exact other call
    · simp [silent] at answer
  · exact exec_cnak_other callId reason ms hears mine

/-! ### CPRG while the attempt goes on, and in TALKING (R20, R22, R27, R28) -/

section
variable {s : State} {h : Header} {callId : Nat} (ms : Nat) {code : Option Nat} (hears : s.Hears h) (mine : s.own = some h.dst)
  (route : s.ple.route = some ⟨.box h.src, code⟩) (call : s.ple.callId = callId) (trunk : s.ple.trunk.isSome = true)
include hears mine route call trunk

theorem exec_cprg_stage (state : s.ple.state = .relaying ∨ s.ple.state = .ringing ∨ s.ple.state = .talking) (stage : CprgStage) :
    exec (.cprg h callId stage ms) s = .next ((s.carrierHeard ms).takeStage stage) :=
  (exec_cprg_mine callId stage ms hears mine).trans
    (congrArg _ (takeCprg_matched ms (Ple.relayCarrier_box route state) call trunk stage))

/-- R20, R24: RINGING. -/
theorem cprg_ringing (state : s.ple.state = .relaying) :
    ∃ t, exec (.cprg h callId .ringing ms) s = .next t ∧
      t.ple = { s.ple with
        state := .ringing, ringLimit := some ((s.frameHeard ms).clock.now + 120000),
        carrierSilence := some ((s.frameHeard ms).clock.now + 8000) } ∧
      t.cpi.lamp = .slow ∧ t.nbt = s.nbt ∧ t.slc = s.slc ∧ t.lnc = (s.frameHeard ms).lnc := by
  let v := s.carrierHeard ms
  refine ⟨_, (exec_cprg_stage ms hears mine route call trunk (.inl state) .ringing).trans
    (congrArg _ (takeStage_ringing (s := v) (by simpa [v] using state))), ?_, ?_, ?_, ?_, ?_⟩
  · simp [v, State.setPle, ringLimitMs]
  · rw [State.setPle, State.withPle_cpi, enterCallState_cpi]
    exact setLamp_lamp ..
  all_goals simp [v, State.setPle]

/-- R20, R25: TALKING, with the credit of the neighbour. -/
theorem cprg_talking (state : s.ple.state = .relaying ∨ s.ple.state = .ringing) :
    let now := (s.frameHeard ms).clock.now
    ∃ t, exec (.cprg h callId .talking ms) s = .next t ∧
      t.ple = { s.ple with
        state := .talking, reachedTalking := true, talkRoute := s.ple.route, ringLimit := none, placementLimit := none,
        carrierSilence := some (now + 8000) } ∧
      t.nbt = (s.nbt.map fun e => if e.addr = h.src then { e with quality := e.quality.report now .credit } else e) ∧
      t.cpi.lamp = .steady ∧ t.slc = s.slc ∧ t.xpt = s.xpt ∧ t.lnc = (s.frameHeard ms).lnc := by
  intro now
  let v := s.carrierHeard ms
  let w := v.enterTalking
  have named : w.ple.route = some ⟨.box h.src, code⟩ := by simpa [w, v, State.enterTalking, State.setPle] using route
  refine ⟨_, (exec_cprg_stage ms hears mine route call trunk (state.imp_right .inl) .talking).trans
    (congrArg _ (takeStage_talking (s := v) (by simpa [v] using state))), ?_, ?_, ?_, ?_, ?_, ?_⟩
  · simp [v, State.enterTalking, State.setPle, now]
  · rw [reportOutcome_box named, reportNeighbour_eq]
    simp [w, v, now, relayReport]
  · have cpi : (w.reportOutcome .connected).cpi = w.cpi := by simp
    rw [cpi]
    simp only [w, State.enterTalking, State.setPle, State.withPle_cpi, enterCallState_cpi]
    exact setLamp_lamp ..
  · simp [v]
  · simp [v]
  · rw [reportOutcome_box named, reportNeighbour_eq]
    simp [w, v]

/-- R28: FAILED(FAR_CLEARED) in TALKING. -/
theorem cprg_cleared (state : s.ple.state = .talking) :
    ∃ t, exec (.cprg h callId (.failed .farCleared) ms) s = .next t ∧
      s.ClosesCall t (s.frameHeard ms).clock.now .talked ∧ t.nbt = s.nbt ∧ t.lnc = (s.frameHeard ms).lnc := by
  let v := s.carrierHeard ms
  have named : v.ple.route = some ⟨.box h.src, code⟩ := by simpa [v] using route
  have cleared : v.farEndClear = v.finishCall .talked := by
    unfold State.farEndClear
    rw [named]
  have closes := finishCall_closes (s := s) (v := v) .talked (by simp [State.closeLog, v]) (by simp [v, Ple.windowAfterClose])
    (by simp [v])
  rw [show v.clock = (s.frameHeard ms).clock by simp [v]] at closes
  exact ⟨_, (exec_cprg_stage ms hears mine route call trunk (.inr (.inr state)) (.failed .farCleared)).trans
    (congrArg _ ((takeStage_cleared (s := v) (by simpa [v] using state)).trans cleared)), closes, by simp [v], by simp [v]⟩

/-- R27: a FAILED in TALKING that is a loss before the sixth. -/
theorem cprg_resumes (state : s.ple.state = .talking) (few : s.ple.resumptions < 5) {reason : CprgReason}
    (lost : reason ≠ .farCleared) :
    let now := (s.frameHeard ms).clock.now
    ∃ t, exec (.cprg h callId (.failed reason) ms) s = .next t ∧
      t.nbt = (s.nbt.map fun e => if e.addr = h.src then { e with quality := e.quality.report now .failure } else e) ∧
      State.StartsRound ((s.frameHeard ms).withNbt t.nbt) t now ∧ s.Resumes t now ∧
      t.nwt = s.nwt ∧ t.adv = s.adv ∧ t.tkm = s.tkm := by
  intro now
  let v := s.carrierHeard ms
  obtain ⟨-, -, -, nwt, nbt, adv, -, -, tkm, -, cfg, svc, ple⟩ := State.carrierHeard_frame s ms
  have charged := talkLost_relay (s := v) (by rw [ple]; exact route)
  obtain ⟨resumes, starts, neighbours, networks, advert, trunks⟩ := loseTalk_resumes (s := v) (by rw [ple]; exact few)
  have same := neighbours
  rw [charged] at neighbours networks advert starts
  have counted : v.loseTalk.nbt = (s.nbt.map fun e =>
      if e.addr = h.src then { e with quality := e.quality.report now .failure } else e) := neighbours.trans rfl
  refine ⟨_, (exec_cprg_stage ms hears mine route call trunk (.inr (.inr state)) (.failed reason)).trans
    (congrArg _ (takeStage_lost (s := v) (by rw [ple]; exact state) lost)), counted, ?_, ?_, networks.trans nwt,
    advert.trans adv, trunks.trans tkm⟩
  · rw [counted]
    exact startsRound_silence starts
  · exact resumes

/-- R27: the sixth loss of a relayed call. -/
theorem cprg_sixth (state : s.ple.state = .talking) (sixth : s.ple.resumptions = 5) {reason : CprgReason}
    (lost : reason ≠ .farCleared) :
    let now := (s.frameHeard ms).clock.now
    ∃ t, exec (.cprg h callId (.failed reason) ms) s = .next t ∧
      t.nbt = (s.nbt.map fun e => if e.addr = h.src then { e with quality := e.quality.report now .failure } else e) ∧
      s.ClosesCall t now .lost ∧ t.lnc = (s.frameHeard ms).lnc ∧ t.slc = s.slc ∧ t.cye = s.cye ∧
      t.nwt = s.nwt ∧ t.adv = s.adv ∧ t.tkm = s.tkm := by
  intro now
  let v := s.carrierHeard ms
  obtain ⟨-, -, slc, nwt, nbt, adv, -, cye, tkm, lnc, cfg, svc, ple⟩ := State.carrierHeard_frame s ms
  have charged := talkLost_relay (s := v) (by rw [ple]; exact route)
  obtain ⟨closes, slots, carries, line, networks, neighbours, advert, -⟩ :=
    loseTalk_closes (s := v) (by rw [ple]; exact sixth.ge)
  rw [charged] at slots carries line networks neighbours advert
  exact ⟨_, (exec_cprg_stage ms hears mine route call trunk (.inr (.inr state)) (.failed reason)).trans
    (congrArg _ (takeStage_lost (s := v) (by rw [ple]; exact state) lost)), neighbours.trans rfl, closes, line.trans lnc,
    slots.trans slc, carries.trans cye, networks.trans nwt, advert.trans adv, by simp [loseTalk_eq, State.setPle, v]⟩

end

/-- Settles O50: CPRG by its stage and the state of the attempt. -/
theorem carryProgressMovesTheAttempt : Obligations.CarryProgressMovesTheAttempt := by
  unfold Obligations.CarryProgressMovesTheAttempt
  refine ⟨?_, fun s h callId ms code reason hears mine route call state trunk =>
    cprg_failed_ends ms reason hears mine route call state trunk, ?_, ?_⟩
  · intro s h callId ms code hears mine route call now
    refine ⟨fun state trunk => cprg_ringing ms hears mine route call trunk state,
      fun state trunk => cprg_talking ms hears mine route call trunk state, fun state trunk => ?_,
      fun state trunk few reason lost => ?_,
      fun state trunk sixth reason lost => cprg_sixth ms hears mine route call trunk state sixth lost, fun none stage => ?_⟩
    · obtain ⟨t, done, ⟨ple, svc, joins, -, -, lamp⟩, nbt, lnc⟩ := cprg_cleared ms hears mine route call trunk state
      exact ⟨t, done, by rw [ple]; rfl, ⟨_, congrArg Svc.log svc, rfl⟩, nbt, lamp.1, lnc, joins⟩
    · obtain ⟨t, done, nbt, starts, ⟨count, start, limit, taken, hold, silence, kept, origin, lifted, reached, talk, seconds, -,
        -, lamp, log⟩, nwt, adv, tkm⟩ := cprg_resumes ms hears mine route call trunk state few lost
      exact ⟨t, done, nbt, starts, count, start, limit, taken, hold, silence, kept, origin, lifted, reached, talk, seconds,
        lamp, nwt, adv, log, tkm⟩
    · exact (exec_cprg_mine callId stage ms hears mine).trans
        (congrArg _ (takeCprg_ignored (s := s.frameHeard ms) (.inr (.inr none)) stage))
  · intro s h callId ms stage hears other
    by_cases mine : s.own = some h.dst
    · exact (exec_cprg_mine callId stage ms hears mine).trans (congrArg _
        (takeCprg_ignored (s := s.frameHeard ms) (other.resolve_left (not_not_intro mine)) stage))
    · exact exec_cprg_other callId stage ms hears mine
  · intro s h callId ms stage hears mine carrier call trunk again
    exact (exec_cprg_mine callId stage ms hears mine).trans (congrArg _ ((takeCprg_matched ms carrier call trunk stage).trans
      (takeStage_repeated (s := s.carrierHeard ms) again)))

end Sys2Proof.Machine
end

section
/-! CACK and TMOV for this box, taken by PLE and by the trunk map in either order: O49 and O51 (R18, R19, R21, R23, R119,
R122, R127, R157). -/

namespace Sys2Proof.Machine

/-! ### Frames handed one after the other (R147) -/

@[simp] theorem State.handAll_frame (s : State) (fs : List (Option TxFrame)) :
    (s.handAll fs).clock = s.clock ∧ (s.handAll fs).cfg = s.cfg := by
  unfold State.handAll
  induction fs generalizing s with
  | nil => exact ⟨rfl, rfl⟩
  | cons f fs ih =>
    cases f with
    | none => exact ih s
    | some f =>
      obtain ⟨clock, cfg⟩ := ih (s.hand f.dst f.body)
      exact ⟨clock.trans (by simp), cfg.trans (by simp)⟩

theorem handAll_lnc_congr {x y : State} (fs : List (Option TxFrame)) (lnc : y.lnc = x.lnc) (own : y.own = x.own)
    (now : y.clock.now = x.clock.now) : (y.handAll fs).lnc = (x.handAll fs).lnc := by
  unfold State.handAll
  induction fs generalizing x y with
  | nil => exact lnc
  | cons f fs ih =>
    cases f with
    | none => exact ih lnc own now
    | some f =>
      exact ih (hand_lnc_own _ _ lnc own now) ((own_of_cfg (by simp)).trans (own.trans (own_of_cfg (by simp)).symm)) (by simpa using now)

/-! ### The trunk map's side (R119, R122) -/

/-- What `MapTakesAnnouncement` reads of the two states. -/
theorem MapTakesAnnouncement.congr {s x t t' : State} {now src : Nat} {tr : Trunk} (before : x.tkm = s.tkm)
    (own : x.ownNum = s.ownNum) (after : t'.tkm = t.tkm) (h : x.MapTakesAnnouncement t now tr src) :
    s.MapTakesAnnouncement t' now tr src := by
  simpa only [State.MapTakesAnnouncement, trunk_of_tkm before, trunk_of_tkm after, own, before, after] using h

theorem announcementFrame_congr {s x : State} (trunks : x.tkm = s.tkm) (own : x.ownNum = s.ownNum) (tr : Trunk) (src : Nat) :
    x.announcementFrame tr src = s.announcementFrame tr src := by
  simp only [State.announcementFrame, trunk_of_tkm trunks, own]

/-- R122: where this box loses no claim, the map's side changes neither slots nor carries, connections or lamps. -/
theorem mapAnnounced_keeps {x : State} {tr : Trunk} {src : Nat}
    (kept : ¬ ∃ id g b y, x.trunk tr = .claiming id g b y ∧ src < x.ownNum) :
    let t := x.mapAnnounced src (trunkNum tr)
    t.slc = x.slc ∧ t.cye = x.cye ∧ t.cpi = x.cpi ∧ t.svc = x.svc ∧ t.xpt = x.xpt := by
  intro t
  simp only [t, State.mapAnnounced, trunkOf_trunkNum]
  split
  · exact ⟨rfl, rfl, rfl, rfl, rfl⟩
  · unfold State.trunkAnnounced
    split
    · simp
    · simp
    · rename_i id g b y claimed
      rw [if_neg fun lower => kept ⟨id, g, b, y, claimed, lower⟩]
      simp
    · simp [State.holdFrame]

/-! ### PLE's side -/

/-- What PLE makes of an announcement that names trunk `tr`, from `x` to `y`: the record, the frame handed to LNC, and
whether HANDSET is joined to the trunk; all else stands. -/
structure State.PleActs (x y : State) (tr : Trunk) (p : Ple) (frame : Option TxFrame) (joins : Bool) : Prop where
  ple : y.ple = p
  lnc : y.lnc = (x.handAll [frame]).lnc
  xpt : y.xpt = (if joins then x.xptJoin .localCall .handset (.trunk tr) else x).xpt
  clock : y.clock = x.clock
  cpi : y.cpi = x.cpi
  slc : y.slc = x.slc
  nwt : y.nwt = x.nwt
  nbt : y.nbt = x.nbt
  cye : y.cye = x.cye
  tkm : y.tkm = x.tkm
  cfg : y.cfg = x.cfg
  svc : y.svc = x.svc

/-- R119, R122, R157: what an announcement for this box leaves, whichever of PLE and the trunk map takes it first (log 6). -/
theorem takeAnnouncement_leaves {s : State} {h : Header} {ms : Nat} {tr : Trunk} {f : Trunk → State → State} {p : Ple}
    {frame : Option TxFrame} {joins : Bool} (mine : s.own = some h.dst) (tool : h.src ≠ 63)
    (known : ∀ id, (s.trunk tr).owner = some id → ∃ c ∈ s.cye, c.id = id)
    (acts : ∀ x : State, x.ple = s.ple → x.cfg = s.cfg → x.clock = (s.frameHeard ms).clock →
      x.PleActs (f tr x) tr p frame joins) :
    let u := s.frameHeard ms
    let t := u.takeAnnouncement h (trunkNum tr) f
    let map := s.announcementFrame tr h.src
    s.MapTakesAnnouncement t u.clock.now tr h.src ∧ t.ple = p ∧ t.nbt = s.nbt ∧ t.cfg = s.cfg ∧
    (t.lnc = (u.handAll [frame, map]).lnc ∨ t.lnc = (u.handAll [map, frame]).lnc) ∧
    (¬ (∃ id g b x, s.trunk tr = .claiming id g b x ∧ h.src < h.dst) →
      t.slc = s.slc ∧ t.cye = s.cye ∧ t.cpi = s.cpi ∧ t.svc = s.svc ∧
      t.xpt = (if joins then u.xptJoin .localCall .handset (.trunk tr) else u).xpt) := by
  intro u t map
  have own : s.ownNum = h.dst := by simp [State.ownNum, mine]
  obtain ⟨c, order⟩ := takeAnnouncement_mine s h ms tr f mine
  let y := u.withChoices c
  have joined {x : State} (xpt : x.xpt = u.xpt) (clock : x.clock = u.clock) :
      (if joins then x.xptJoin .localCall .handset (.trunk tr) else x).xpt =
        (if joins then u.xptJoin .localCall .handset (.trunk tr) else u).xpt := by
    split
    · exact xptJoin_congr _ _ _ xpt clock
    · exact xpt
  obtain first | later := order
  · let z := f tr y
    have acted : y.PleActs z tr p frame joins := acts y (by simp [y, u]) (by simp [y, u]) rfl
    have tkm : z.tkm = s.tkm := acted.tkm.trans (by simp [y, u])
    have num : z.ownNum = s.ownNum := ownNum_of_cfg (acted.cfg.trans (by simp [y, u]))
    have cye : z.cye = s.cye := acted.cye.trans (by simp [y, u])
    obtain ⟨takes, line⟩ := mapAnnounced_takes z tr h.src tool (by rwa [trunk_of_tkm tkm, cye])
    have done : t = z.mapAnnounced h.src (trunkNum tr) := first
    rw [announcementFrame_congr tkm num] at line
    rw [acted.clock] at takes
    refine ⟨MapTakesAnnouncement.congr tkm num (by rw [done]) takes, ?_, ?_, ?_, .inl ?_, fun kept => ?_⟩
    · rw [done]
      simpa using acted.ple
    · rw [done]
      simpa [y, u] using acted.nbt
    · rw [done]
      simpa [y, u] using acted.cfg
    · rw [done, line]
      refine (handAll_lnc_congr (x := y.handAll [frame]) [map] acted.lnc (own_of_cfg ?_) ?_).trans
        (handAll_lnc_congr (x := u) (y := y) [frame, map] rfl rfl rfl)
      · simpa using acted.cfg
      · simpa using congrArg Clock.now acted.clock
    · obtain ⟨slc, cye', cpi, svc, xpt⟩ := mapAnnounced_keeps (x := z) (tr := tr) (src := h.src)
        (by rwa [trunk_of_tkm tkm, num, own])
      rw [done]
      exact ⟨slc.trans (acted.slc.trans (by simp [y, u])), cye'.trans cye, cpi.trans (acted.cpi.trans (by simp [y, u])),
        svc.trans (acted.svc.trans (by simp [y, u])), xpt.trans (acted.xpt.trans (joined rfl rfl))⟩
  · let z := y.mapAnnounced h.src (trunkNum tr)
    have acted : z.PleActs (f tr z) tr p frame joins := acts z (by simp [z, y, u]) (by simp [z, y, u])
      (by simp [z, y, u])
    have tkm : y.tkm = s.tkm := by simp [y, u]
    have num : y.ownNum = s.ownNum := ownNum_of_cfg (by simp [y, u])
    have cye : y.cye = s.cye := by simp [y, u]
    obtain ⟨takes, line⟩ := mapAnnounced_takes y tr h.src tool (by rwa [trunk_of_tkm tkm, cye])
    have done : t = f tr z := later
    rw [announcementFrame_congr tkm num] at line
    refine ⟨MapTakesAnnouncement.congr tkm num (by rw [done]; exact acted.tkm) takes, ?_, ?_, ?_, .inr ?_, fun kept => ?_⟩
    · rw [done]
      exact acted.ple
    · rw [done]
      exact acted.nbt.trans (by simp [z, y, u])
    · rw [done]
      exact acted.cfg.trans (by simp [z, y, u])
    · rw [done, acted.lnc]
      exact (handAll_lnc_congr (x := y.handAll [map]) (y := z) [frame] line (own_of_cfg (by simp [z])) (by simp [z])).trans
        (handAll_lnc_congr (x := u) (y := y) [map, frame] rfl rfl rfl)
    · obtain ⟨slc, cye', cpi, svc, xpt⟩ := mapAnnounced_keeps (x := y) (tr := tr) (src := h.src)
        (by rwa [trunk_of_tkm tkm, num, own])
      rw [done]
      exact ⟨acted.slc.trans (slc.trans (by simp [y, u])), acted.cye.trans (cye'.trans cye),
        acted.cpi.trans (cpi.trans (by simp [y, u])), acted.svc.trans (svc.trans (by simp [y, u])),
        acted.xpt.trans (joined xpt (by simp [z, y]))⟩

/-! ### CACK and TMOV at PLE (R19, R21, R23) -/

/-- R19, R21: PLE takes a trunk. -/
theorem takeTrunk_leaves (x : State) (n : Nat) (tr : Trunk) :
    (x.takeTrunk n tr).ple = { x.ple with trunk := some tr } ∧
    (x.takeTrunk n tr).lnc = (x.handAll [some ⟨0, .thld (trunkNum tr) n x.ownNum x.ple.callId⟩]).lnc ∧
    (x.takeTrunk n tr).xpt = (x.xptJoin .localCall .handset (.trunk tr)).xpt := by
  refine ⟨by simp [State.takeTrunk, State.setPle], ?_, ?_⟩
  · exact hand_lnc_own _ _ (by simp [State.setPle]) (own_of_cfg (by simp [State.setPle])) (by simp [State.setPle])
  · exact ((State.hand_frame ..).2.2.2.1).trans (xptJoin_congr _ _ _ (by simp [State.setPle]) (by simp [State.setPle]))

/-- R21: an announcement of the trunk in use leaves it. -/
theorem Ple.trunk_stands {p : Ple} {tr : Trunk} (trunk : p.trunk = some tr) (silence : Option Nat) :
    ({ p with trunk := some tr, carrierSilence := silence } : Ple) = { p with carrierSilence := silence } := by
  rw [← trunk]

/-- R21: a further announcement of the carrier. -/
theorem moveToTrunk_acts {x : State} {src callId : Nat} {tr old : Trunk} (call : x.ple.callId = callId)
    (trunk : x.ple.trunk = some old) :
    x.PleActs (x.moveToTrunk src tr) tr { x.ple with trunk := some tr, carrierSilence := some (x.clock.now + 8000) }
      (if old = tr then none else some ⟨0, .thld (trunkNum tr) src x.ownNum callId⟩) (old ≠ tr) := by
  have frame := State.moveToTrunk_frame x src tr
  obtain ⟨-, clock, cpi, slc, nwt, nbt, -, -, cye, tkm, -, cfg, svc, -⟩ := frame
  by_cases same : old = tr
  · subst same
    have done : x.moveToTrunk src old = x.restartSilence := if_pos trunk
    exact ⟨by rw [done]; exact (Ple.trunk_stands trunk _).symm, by rw [done, if_pos rfl]; rfl, by rw [done]; simp, clock, cpi, slc, nwt, nbt, cye, tkm, cfg, svc⟩
  · have done : x.moveToTrunk src tr = (x.takeTrunk src tr).restartSilence :=
      if_neg (by rw [trunk]; simpa using same)
    obtain ⟨ple, lnc, xpt⟩ := takeTrunk_leaves x src tr
    rw [call] at lnc
    refine ⟨?_, ?_, ?_, clock, cpi, slc, nwt, nbt, cye, tkm, cfg, svc⟩
    · rw [done, State.restartSilence, State.setPle, ple]
      simp [silenceMs]
    · rw [done, if_neg same, ← lnc]
      simp
    · rw [done]
      simpa [same] using xpt

section
variable {x : State} {src callId : Nat} {tr : Trunk} (carrier : x.ple.relayCarrier = some src) (call : x.ple.callId = callId)
include carrier call

/-- R19: the CACK that answers the attempt. -/
theorem takeCack_answers (answer : x.ple.answerTimer.isSome = true) :
    x.PleActs (x.takeCack src callId tr) tr
      { x.ple with answerTimer := none, trunk := some tr, carrierSilence := some (x.clock.now + 8000),
                   holdRefresh := some (x.clock.now + 2000) }
      (some ⟨0, .thld (trunkNum tr) src x.ownNum callId⟩) true := by
  let y := x.setPle fun p => { p with answerTimer := none }
  have done : x.takeCack src callId tr = (y.takeTrunk src tr).restartSilence.setPle fun p =>
      { p with holdRefresh := some (x.clock.now + holdRefreshMs) } :=
    (if_pos (Ple.isMatch_iff.2 ⟨carrier, call⟩)).trans (if_pos answer)
  obtain ⟨ple, lnc, xpt⟩ := takeTrunk_leaves y src tr
  obtain ⟨-, clock, cpi, slc, nwt, nbt, -, -, cye, tkm, -, cfg, svc, -⟩ := State.takeCack_frame x src callId tr
  refine ⟨?_, ?_, ?_, clock, cpi, slc, nwt, nbt, cye, tkm, cfg, svc⟩
  · rw [done, State.setPle, State.restartSilence, State.setPle, ple]
    simp [y, State.setPle, silenceMs, holdRefreshMs]
  · have handed : (y.takeTrunk src tr).lnc = (x.handAll [some ⟨0, .thld (trunkNum tr) src x.ownNum callId⟩]).lnc := by
      rw [lnc, show y.ownNum = x.ownNum from ownNum_of_cfg rfl, show y.ple.callId = callId from call]
      exact handAll_lnc_congr _ rfl rfl rfl
    rw [done, ← handed]
    simp [State.setPle]
  · have joined : (y.takeTrunk src tr).xpt = (x.xptJoin .localCall .handset (.trunk tr)).xpt :=
      xpt.trans (xptJoin_congr _ _ _ rfl rfl)
    rw [done, if_pos rfl, ← joined]
    simp [State.setPle]

/-- R21: a further CACK of the carrier. -/
theorem takeCack_moves (answer : x.ple.answerTimer = none) (trunk : x.ple.trunk.isSome = true) :
    x.takeCack src callId tr = x.moveToTrunk src tr :=
  (if_pos (Ple.isMatch_iff.2 ⟨carrier, call⟩)).trans ((if_neg (by simp [answer])).trans (if_pos trunk))

theorem takeTmov_moves (trunk : x.ple.trunk.isSome = true) : x.takeTmov src callId tr = x.moveToTrunk src tr :=
  if_pos ⟨Ple.isMatch_iff.2 ⟨carrier, call⟩, trunk⟩

end

/-- R23: a CACK that does not fit. -/
theorem takeCack_stray {x : State} {src callId : Nat} {tr : Trunk}
    (stray : x.ple.relayCarrier ≠ some src ∨ x.ple.callId ≠ callId ∨ x.ple.answerTimer = none ∧ x.ple.trunk = none) :
    x.PleActs (x.takeCack src callId tr) tr x.ple (some ⟨src, .cend callId .limit⟩) false := by
  have done : x.takeCack src callId tr = x.hand src (.cend callId .limit) := by
    unfold State.takeCack
    split
    · rename_i fits
      obtain ⟨carrier, call⟩ := Ple.isMatch_iff.1 fits
      obtain other | other | ⟨answer, trunk⟩ := stray
      · exact absurd carrier other
      · exact absurd call other
      · rw [if_neg (by simp [answer]), if_neg (by simp [trunk])]
    · rfl
  obtain ⟨-, clock, cpi, slc, nwt, nbt, -, -, cye, tkm, -, cfg, svc, -⟩ := State.takeCack_frame x src callId tr
  exact ⟨by rw [done]; simp, by rw [done]; rfl, by rw [done]; simp, clock, cpi, slc, nwt, nbt, cye, tkm, cfg, svc⟩

/-- R23: a TMOV that does not fit. -/
theorem takeTmov_stray {x : State} {src callId : Nat} {tr : Trunk}
    (stray : x.ple.relayCarrier ≠ some src ∨ x.ple.callId ≠ callId ∨ x.ple.trunk = none) :
    x.PleActs (x.takeTmov src callId tr) tr x.ple none false := by
  have done : x.takeTmov src callId tr = x := by
    refine if_neg ?_
    rw [Ple.isMatch_iff]
    rintro ⟨⟨carrier, call⟩, trunk⟩
    obtain other | other | lacks := stray
    · exact other carrier
    · exact other call
    · simp [lacks] at trunk
  rw [done]
  exact ⟨rfl, rfl, rfl, rfl, rfl, rfl, rfl, rfl, rfl, rfl, rfl, rfl⟩

/-! ### The announcement at this box (O49, O51) -/

section
variable {s : State} {h : Header} {ms : Nat} {tr : Trunk} {f : Trunk → State → State} {p : Ple} {frame : Option TxFrame}
  {joins : Bool} {callId : Nat} (mine : s.own = some h.dst)

include mine in
/-- R119: an announcement of a trunk that this box neither claims nor has settled. -/
theorem takeAnnouncement_held (tool : h.src ≠ 63) (unclaimed : ∀ id g b x, s.trunk tr ≠ .claiming id g b x)
    (unowned : ∀ id x, s.trunk tr ≠ .owned id x)
    (acts : ∀ x : State, x.ple = s.ple → x.cfg = s.cfg → x.clock = (s.frameHeard ms).clock →
      x.PleActs (f tr x) tr p frame joins) :
    let u := s.frameHeard ms
    let t := u.takeAnnouncement h (trunkNum tr) f
    t.ple = p ∧ t.lnc = (u.handAll [frame]).lnc ∧
    t.xpt = (if joins then u.xptJoin .localCall .handset (.trunk tr) else u).xpt ∧
    t.trunk tr = .held h.src (u.clock.now + 8000) ∧ (∀ v, v ≠ tr → t.trunk v = s.trunk v) ∧
    t.slc = s.slc ∧ t.cye = s.cye ∧ t.nbt = s.nbt ∧ t.cpi = s.cpi := by
  intro u t
  have foreign : s.announcementFrame tr h.src = none ∧ (s.trunk tr).owner = none ∧
      (s.MapTakesAnnouncement t u.clock.now tr h.src →
        t.trunk tr = .held h.src (u.clock.now + 8000) ∧ ∀ v, v ≠ tr → t.trunk v = s.trunk v) := by
    cases entry : s.trunk tr with
    | claiming id g b x => exact absurd entry (unclaimed id g b x)
    | owned id x => exact absurd entry (unowned id x)
    | free => simp [State.announcementFrame, State.MapTakesAnnouncement, entry, TrunkEntry.owner]
    | held n x => simp [State.announcementFrame, State.MapTakesAnnouncement, entry, TrunkEntry.owner]
  obtain ⟨silent, unknown, taken⟩ := foreign
  obtain ⟨takes, ple, nbt, -, lnc, kept⟩ := takeAnnouncement_leaves mine tool (by simp [unknown]) acts
  obtain ⟨slc, cye, cpi, -, xpt⟩ := kept fun ⟨id, g, b, x, claimed, _⟩ => unclaimed id g b x claimed
  obtain ⟨held, others⟩ := taken takes
  rw [silent] at lnc
  exact ⟨ple, lnc.elim (·.trans (by cases frame <;> rfl)) (·.trans (by cases frame <;> rfl)), xpt, held, others, slc, cye, nbt, cpi⟩

variable (x : State) (ple : x.ple = s.ple)
include ple

/-- R23: a CACK that does not fit, in any state that agrees with `s` on PLE, address and clock. -/
theorem cack_stray
    (stray : s.ple.relayCarrier ≠ some h.src ∨ s.ple.callId ≠ callId ∨ s.ple.answerTimer = none ∧ s.ple.trunk = none) :
    x.PleActs (x.takeCack h.src callId tr) tr s.ple (some ⟨h.src, .cend callId .limit⟩) false := by
  rw [← ple] at stray ⊢
  exact takeCack_stray stray

/-- R23: a TMOV that does not fit. -/
theorem tmov_stray (stray : s.ple.relayCarrier ≠ some h.src ∨ s.ple.callId ≠ callId ∨ s.ple.trunk = none) :
    x.PleActs (x.takeTmov h.src callId tr) tr s.ple none false := by
  rw [← ple] at stray ⊢
  exact takeTmov_stray stray

variable (cfg : x.cfg = s.cfg) (clock : x.clock = (s.frameHeard ms).clock)
include mine cfg clock

/-- R21: what a further announcement of the carrier makes of the attempt. -/
theorem announced_moves {old : Trunk} (call : s.ple.callId = callId) (trunk : s.ple.trunk = some old) :
    x.PleActs (x.moveToTrunk h.src tr) tr
      { s.ple with trunk := some tr, carrierSilence := some ((s.frameHeard ms).clock.now + 8000) }
      (if old = tr then none else some ⟨0, .thld (trunkNum tr) h.src h.dst callId⟩) (old ≠ tr) := by
  have own : x.ownNum = h.dst := (ownNum_of_cfg cfg).trans (by simp [State.ownNum, mine])
  rw [← ple] at call trunk ⊢
  rw [← clock, ← own]
  exact moveToTrunk_acts call trunk

variable (carrier : s.ple.relayCarrier = some h.src) (call : s.ple.callId = callId)
include carrier call

/-- R19: the CACK that answers the attempt. -/
theorem cack_answers (answer : s.ple.answerTimer.isSome = true) :
    x.PleActs (x.takeCack h.src callId tr) tr
      { s.ple with answerTimer := none, trunk := some tr, carrierSilence := some ((s.frameHeard ms).clock.now + 8000),
                   holdRefresh := some ((s.frameHeard ms).clock.now + 2000) }
      (some ⟨0, .thld (trunkNum tr) h.src h.dst callId⟩) true := by
  have own : x.ownNum = h.dst := (ownNum_of_cfg cfg).trans (by simp [State.ownNum, mine])
  rw [← ple] at carrier call answer ⊢
  rw [← clock, ← own]
  exact takeCack_answers carrier call answer

/-- R21: a further CACK of the carrier. -/
theorem cack_moves (answer : s.ple.answerTimer = none) {old : Trunk} (trunk : s.ple.trunk = some old) :
    x.PleActs (x.takeCack h.src callId tr) tr
      { s.ple with trunk := some tr, carrierSilence := some ((s.frameHeard ms).clock.now + 8000) }
      (if old = tr then none else some ⟨0, .thld (trunkNum tr) h.src h.dst callId⟩) (old ≠ tr) := by
  have taken : x.takeCack h.src callId tr = x.moveToTrunk h.src tr :=
    takeCack_moves (by rwa [ple]) (by rwa [ple]) (by rwa [ple]) (by simp [ple, trunk])
  rw [taken]
  exact announced_moves mine x ple cfg clock call trunk

/-- R21: a TMOV of the carrier. -/
theorem tmov_moves {old : Trunk} (trunk : s.ple.trunk = some old) :
    x.PleActs (x.takeTmov h.src callId tr) tr
      { s.ple with trunk := some tr, carrierSilence := some ((s.frameHeard ms).clock.now + 8000) }
      (if old = tr then none else some ⟨0, .thld (trunkNum tr) h.src h.dst callId⟩) (old ≠ tr) := by
  have taken : x.takeTmov h.src callId tr = x.moveToTrunk h.src tr :=
    takeTmov_moves (by rwa [ple]) (by rwa [ple]) (by simp [ple, trunk])
  rw [taken]
  exact announced_moves mine x ple cfg clock call trunk

end

/-- R19, R21, R23: one of the three answers to a CACK applies. -/
theorem cack_cases (p : Ple) (src callId : Nat) :
    (p.relayCarrier ≠ some src ∨ p.callId ≠ callId ∨ p.answerTimer = none ∧ p.trunk = none) ∨
    p.relayCarrier = some src ∧ p.callId = callId ∧ (p.answerTimer.isSome = true ∨
      p.answerTimer = none ∧ ∃ old, p.trunk = some old) := by
  by_cases carrier : p.relayCarrier = some src
  · by_cases call : p.callId = callId
    · cases answer : p.answerTimer with
      | some x => exact .inr ⟨carrier, call, .inl rfl⟩
      | none =>
        cases trunk : p.trunk with
        | none => exact .inl (.inr (.inr ⟨rfl, rfl⟩))
        | some old => exact .inr ⟨carrier, call, .inr ⟨rfl, old, rfl⟩⟩
    · exact .inl (.inr (.inl call))
  · exact .inl (.inl carrier)

/-- R21, R23: one of the two answers to a TMOV applies. -/
theorem tmov_cases (p : Ple) (src callId : Nat) :
    (p.relayCarrier ≠ some src ∨ p.callId ≠ callId ∨ p.trunk = none) ∨
    p.relayCarrier = some src ∧ p.callId = callId ∧ ∃ old, p.trunk = some old := by
  by_cases carrier : p.relayCarrier = some src
  · by_cases call : p.callId = callId
    · cases trunk : p.trunk with
      | none => exact .inl (.inr (.inr rfl))
      | some old => exact .inr ⟨carrier, call, old, rfl⟩
    · exact .inl (.inr (.inl call))
  · exact .inl (.inl carrier)

/-- Settles O49: PLE's side of a CACK is one of three, and the map takes it before or after; W37 has the CNAK. -/
theorem carryAnswersMoveTheAttempt : Obligations.CarryAnswersMoveTheAttempt := by
  refine ⟨fun s h callId ms tr hears mine tool unclaimed unowned => ?_, fun s h callId ms tr hears mine tool known => ?_,
    fun s h callId ms reason hears => ?_⟩
  · intro u now
    refine ⟨fun carrier call answer => ?_, fun stray => ?_⟩
    · obtain ⟨ple, lnc, xpt, held, others, slc, cye, nbt, cpi⟩ := takeAnnouncement_held (ms := ms) (f := fun v x => x.takeCack h.src callId v) mine tool unclaimed unowned
        fun x ple cfg clock => cack_answers (tr := tr) mine x ple cfg clock carrier call answer
      exact ⟨_, exec_cack_hears callId (trunkNum tr) ms hears, ple, lnc, xpt, held, others, slc, cye, nbt, cpi⟩
    · obtain ⟨ple, lnc, xpt, held, others, slc, cye, nbt, -⟩ := takeAnnouncement_held (ms := ms) (f := fun v x => x.takeCack h.src callId v) mine tool unclaimed unowned
        fun x ple _ _ => cack_stray (callId := callId) (tr := tr) x ple (stray.imp_right .inl)
      exact ⟨_, exec_cack_hears callId (trunkNum tr) ms hears, ple, xpt.trans (by simp), lnc, held, others, slc, cye, nbt⟩
  · intro u now lost map hold joined
    have answered (carrier) (call) (answer) := takeAnnouncement_leaves (ms := ms) (f := fun v x => x.takeCack h.src callId v) mine tool known
      fun x ple cfg clock => cack_answers (callId := callId) (tr := tr) mine x ple cfg clock carrier call answer
    have moved (carrier) (call) (answer) (old) (trunk) := takeAnnouncement_leaves (ms := ms) (f := fun v x => x.takeCack h.src callId v) mine tool known
      fun x ple cfg clock => cack_moves (callId := callId) (tr := tr) (old := old) mine x ple cfg clock carrier call answer trunk
    have strayed (stray) := takeAnnouncement_leaves (ms := ms) (f := fun v x => x.takeCack h.src callId v) mine tool known
      fun x ple _ _ => cack_stray (callId := callId) (tr := tr) x ple stray
    let t := u.takeAnnouncement h (trunkNum tr) fun v x => x.takeCack h.src callId v
    have always : s.MapTakesAnnouncement t now tr h.src ∧ t.nbt = s.nbt ∧ t.cfg = s.cfg ∧
        (¬ lost → t.slc = s.slc ∧ t.cye = s.cye ∧ t.cpi = s.cpi ∧ t.svc = s.svc) := by
      obtain stray | ⟨carrier, call, answer | ⟨answer, old, trunk⟩⟩ := cack_cases s.ple h.src callId
      · obtain ⟨takes, -, nbt, cfg, -, kept⟩ := strayed stray
        exact ⟨takes, nbt, cfg, fun l => let ⟨slc, cye, cpi, svc, _⟩ := kept l; ⟨slc, cye, cpi, svc⟩⟩
      · obtain ⟨takes, -, nbt, cfg, -, kept⟩ := answered carrier call answer
        exact ⟨takes, nbt, cfg, fun l => let ⟨slc, cye, cpi, svc, _⟩ := kept l; ⟨slc, cye, cpi, svc⟩⟩
      · obtain ⟨takes, -, nbt, cfg, -, kept⟩ := moved carrier call answer old trunk
        exact ⟨takes, nbt, cfg, fun l => let ⟨slc, cye, cpi, svc, _⟩ := kept l; ⟨slc, cye, cpi, svc⟩⟩
    obtain ⟨takes, nbt, cfg, stands⟩ := always
    refine ⟨t, exec_cack_hears callId (trunkNum tr) ms hears, takes, nbt, cfg, stands, fun carrier call => ⟨fun answer => ?_, fun answer trunk => ?_,
      fun answer old trunk ne => ?_⟩, fun stray => ?_⟩
    · obtain ⟨-, ple, -, -, lnc, kept⟩ := answered carrier call answer
      exact ⟨ple, lnc, fun l => let ⟨_, _, _, _, xpt⟩ := kept l; xpt⟩
    · obtain ⟨-, ple, -, -, lnc, kept⟩ := moved carrier call answer tr trunk
      rw [if_pos rfl] at lnc
      exact ⟨ple.trans (Ple.trunk_stands trunk _), lnc.elim id id, fun l => let ⟨_, _, _, _, xpt⟩ := kept l; xpt.trans (by simp)⟩
    · obtain ⟨-, ple, -, -, lnc, kept⟩ := moved carrier call answer old trunk
      rw [if_neg ne] at lnc
      exact ⟨ple, lnc, fun l => let ⟨_, _, _, _, xpt⟩ := kept l; xpt.trans (by simp [ne, joined, u])⟩
    · obtain ⟨-, ple, -, -, lnc, kept⟩ := strayed stray
      exact ⟨ple, fun l => let ⟨_, _, _, _, xpt⟩ := kept l; xpt.trans (by simp), lnc⟩
  · exact ⟨fun mine carrier call answer => cnak_ends ms reason hears mine carrier call answer, cnak_ignored ms reason hears⟩

/-- Settles O51: PLE's side of a TMOV is one of two, and the map takes it before or after. -/
theorem trunkMoveMovesTheAttempt : Obligations.TrunkMoveMovesTheAttempt := by
  refine ⟨fun s h callId old ms tr hears mine tool unclaimed unowned carrier call trunk => ?_,
    fun s h callId old ms tr hears mine tool known => ?_⟩
  · intro u now
    obtain ⟨was, trunk⟩ := Option.isSome_iff_exists.1 trunk
    obtain ⟨ple, lnc, xpt, held, others, slc, cye, -⟩ := takeAnnouncement_held (ms := ms) (f := fun v x => x.takeTmov h.src callId v) mine tool unclaimed unowned
      fun x ple cfg clock => tmov_moves (tr := tr) mine x ple cfg clock carrier call trunk
    refine ⟨_, exec_tmov_hears callId (trunkNum tr) ms old hears, ple, lnc.trans ?_, xpt.trans ?_, held, others, slc, cye⟩
    · by_cases same : was = tr
      · rw [if_pos same, if_pos (trunk.trans (congrArg some same))]
        rfl
      · rw [if_neg same, if_neg (by simpa [trunk] using same)]
        rfl
    · by_cases same : was = tr
      · simp [same, trunk]
      · simp [same, trunk, u]
  · intro u now lost map hold
    have moved (carrier) (call) (was) (trunk) := takeAnnouncement_leaves (ms := ms) (f := fun v x => x.takeTmov h.src callId v) mine tool known
      fun x ple cfg clock => tmov_moves (callId := callId) (tr := tr) (old := was) mine x ple cfg clock carrier call trunk
    have strayed (stray) := takeAnnouncement_leaves (ms := ms) (f := fun v x => x.takeTmov h.src callId v) mine tool known
      fun x ple _ _ => tmov_stray (callId := callId) (tr := tr) x ple stray
    let t := u.takeAnnouncement h (trunkNum tr) fun v x => x.takeTmov h.src callId v
    have always : s.MapTakesAnnouncement t now tr h.src ∧ t.nbt = s.nbt ∧ t.cfg = s.cfg ∧
        (¬ lost → t.slc = s.slc ∧ t.cye = s.cye ∧ t.cpi = s.cpi ∧ t.svc = s.svc) := by
      obtain stray | ⟨carrier, call, was, trunk⟩ := tmov_cases s.ple h.src callId
      · obtain ⟨takes, -, nbt, cfg, -, kept⟩ := strayed stray
        exact ⟨takes, nbt, cfg, fun l => let ⟨slc, cye, cpi, svc, _⟩ := kept l; ⟨slc, cye, cpi, svc⟩⟩
      · obtain ⟨takes, -, nbt, cfg, -, kept⟩ := moved carrier call was trunk
        exact ⟨takes, nbt, cfg, fun l => let ⟨slc, cye, cpi, svc, _⟩ := kept l; ⟨slc, cye, cpi, svc⟩⟩
    obtain ⟨takes, nbt, cfg, stands⟩ := always
    refine ⟨t, exec_tmov_hears callId (trunkNum tr) ms old hears, takes, nbt, cfg, stands, fun carrier call => ⟨fun trunk => ?_,
      fun was trunk ne => ?_⟩, fun stray => ?_⟩
    · obtain ⟨-, ple, -, -, lnc, kept⟩ := moved carrier call tr trunk
      rw [if_pos rfl] at lnc
      exact ⟨ple.trans (Ple.trunk_stands trunk _), lnc.elim id id, fun l => let ⟨_, _, _, _, xpt⟩ := kept l; xpt.trans (by simp)⟩
    · obtain ⟨-, ple, -, -, lnc, kept⟩ := moved carrier call was trunk
      rw [if_neg ne] at lnc
      exact ⟨ple, lnc, fun l => let ⟨_, _, _, _, xpt⟩ := kept l; xpt.trans (by simp [ne, u])⟩
    · obtain ⟨-, ple, -, -, lnc, kept⟩ := strayed stray
      exact ⟨ple, lnc.elim id id, fun l => let ⟨_, _, _, _, xpt⟩ := kept l; xpt.trans (by simp)⟩

end Sys2Proof.Machine
end

section
/-! A trunk that this box loses to another box: the record moves to the lowest free one, or its carry ends with its trunk
not freed: O53 (R106, R107, R119, R122 to R126). -/

namespace Sys2Proof.Machine

/-! ### A carry that ends with its trunk lost (R107) -/

/-- R107, R108: the end of a carry whose trunk is lost frees no trunk and reports nothing. -/
theorem endCarry_lost_eq (s : State) (c : CarryRec) (told : Option CprgReason) (o : LogOutcome) :
    let v := ((s.tell c told).giveUpSlot c).xptBreak (.carry c.id)
    s.endCarry c told false none o = (v.logAppend (v.carryLog c o)).withCye (v.cye.filter fun d => d.id != c.id) := by
  cases told <;> rfl

/-- R107 to R109: what such an end leaves. -/
theorem endCarry_lost_leaves {s : State} {c : CarryRec} (queue : s.QueueSound) (claims : s.ClaimsAgree) (mem : c ∈ s.cye)
    (told : Option CprgReason) (o : LogOutcome) :
    let t := s.endCarry c told false none o
    t.tkm = s.tkm ∧ t.lnc = (s.tell c told).lnc ∧
    t.cye.map CarryRec.id = ((s.cye.map CarryRec.id).filter fun i => i != c.id) ∧
    t.svc.log = (c.loggedAs o s.cfg.uptime :: s.svc.log).take 32 ∧ s.GivesUpSlot t s.clock.now c ∧ t.nwt = s.nwt ∧
    t.ple = s.ple := by
  intro t
  have done := endCarry_lost_eq s c told o
  obtain ⟨clock, -, -, slots, -, -, -, -, -, cye, -⟩ := State.tell_frame s c told
  have gives : (s.tell c told).GivesUpSlot ((s.tell c told).giveUpSlot c) s.clock.now c :=
    clock ▸ giveUpSlot_gives (by simpa only [State.QueueSound, cye] using queue)
      (by simpa only [State.ClaimsAgree, tell_slot, cye] using claims) (by rwa [cye])
  refine ⟨?_, ?_, endCarry_ids .., ?_, GivesUpSlot.congr slots.symm ?_ gives, ?_, ?_⟩
  all_goals simp [t, done, State.logAppend, State.carryLog, CarryRec.loggedAs]

/-! ### The trunk lost (R125, R126) -/

/-- R114: a trunk that was not free and becomes HELD leaves the lowest free one. -/
theorem lowestFree_held {s : State} {tr : Trunk} {id : CarryId} (owned : (s.trunk tr).owner = some id) (n x : Nat) :
    (s.setTrunk tr (.held n x)).tkm.lowestFree = s.tkm.lowestFree := by
  have same (v : Trunk) : ((s.setTrunk tr (.held n x)).tkm.get v == .free) = (s.tkm.get v == .free) := by
    by_cases here : v = tr
    · subst here
      have held : (s.setTrunk v (.held n x)).tkm.get v = .held n x := setTrunk_trunk ..
      have taken : s.tkm.get v ≠ .free := fun free => by simp [State.trunk, free, TrunkEntry.owner] at owned
      rw [held]
      simpa using taken
    · exact congrArg (· == TrunkEntry.free) (setTrunk_trunk_ne s tr v _ here)
  simp only [Tkm.lowestFree, same]

/-- R107 to R109, R126: what is left where box `w` takes trunk `tr` of carry `c` and none is free. -/
structure State.CarryLost (s t : State) (now : Nat) (tr : Trunk) (w : Nat) (c : CarryRec) : Prop where
  trunk : t.trunk tr = .held w (now + 8000)
  others : ∀ v, v ≠ tr → t.trunk v = s.trunk v
  ids : t.cye.map CarryRec.id = ((s.cye.map CarryRec.id).filter fun i => i != c.id)
  log : t.svc.log = (c.loggedAs (.failed .noTrunk) s.cfg.uptime :: s.svc.log).take 32
  gives : s.GivesUpSlot t now c
  nwt : t.nwt = s.nwt

/-- What `CarryLost` reads of the two states. -/
theorem State.CarryLost.congr {s s' t t' : State} {now w : Nat} {tr : Trunk} {c : CarryRec} (lost : s.CarryLost t now tr w c)
    (before : s'.tkm = s.tkm ∧ s'.cye = s.cye ∧ s'.svc = s.svc ∧ s'.slc = s.slc ∧ s'.nwt = s.nwt ∧ s'.cfg = s.cfg)
    (after : t'.tkm = t.tkm ∧ t'.cye = t.cye ∧ t'.svc = t.svc ∧ t'.slc = t.slc ∧ t'.nwt = t.nwt) :
    s'.CarryLost t' now tr w c := by
  obtain ⟨tkm, cye, svc, slc, nwt, cfg⟩ := before
  obtain ⟨tkm', cye', svc', slc', nwt'⟩ := after
  refine ⟨(trunk_of_tkm tkm' _).trans lost.trunk, fun v other => ?_, ?_, ?_, GivesUpSlot.congr slc slc' lost.gives, ?_⟩
  · rw [trunk_of_tkm tkm', trunk_of_tkm tkm, lost.others v other]
  · rw [cye', cye, lost.ids]
  · rw [svc', svc, cfg, lost.log]
  · rw [nwt', nwt, lost.nwt]

theorem State.CarriesSound.congr {s t : State} (sound : s.CarriesSound) (slc : t.slc = s.slc) (cye : t.cye = s.cye)
    (tkm : t.tkm = s.tkm) : t.CarriesSound := by
  simpa only [State.CarriesSound, State.QueueSound, State.TrunksAgree, State.ClaimsAgree, slot_of_slc slc, cye, tkm,
    trunk_of_tkm tkm] using sound

section
variable {s : State} {tr : Trunk} {c : CarryRec} (sound : s.CarriesSound) (mem : c ∈ s.cye)
  (owned : (s.trunk tr).owner = some c.id) (w : Nat)
include sound mem owned

/-- R106, R125: the record moves to the lowest free trunk. -/
theorem loseTrunk_moves {v : Trunk} {x : Nat} (refresh : (s.trunk tr).refresh = some x) (lowest : s.tkm.lowestFree = some v) :
    let t := s.loseTrunk tr c.id w
    t.trunk tr = .held w (s.clock.now + 8000) ∧ t.trunk v = .claiming c.id (s.clock.now + 300) [] x ∧
    (∀ u, u ≠ tr → u ≠ v → t.trunk u = s.trunk u) ∧
    t.lnc = (s.hand c.id.requester (.tmov c.id.callId (trunkNum tr) (trunkNum v))).lnc ∧
    t.cye = (s.cye.map fun d => if d.id = c.id then { d with trunk := v } else d) ∧ t.slc = s.slc ∧
    t.xpt = (if c.state = .queued then s.xpt else (s.xptJoin (.carry c.id) (.slot c.slot) (.trunk v)).xpt) ∧
    t.svc = s.svc ∧ t.ple = s.ple ∧ t.nwt = s.nwt := by
  intro t
  let y := (s.setTrunk tr (.held w (s.clock.now + 8000))).setTrunk v (.claiming c.id (s.clock.now + 300) [] x)
  let m := y.hand c.id.requester (.tmov c.id.callId (trunkNum tr) (trunkNum v))
  have done : t = m.carryMoved c.id v := by
    simp only [t, State.loseTrunk, lowestFree_held owned, lowest, refresh, y, m]
    rfl
  have apart : v ≠ tr := by
    rintro rfl
    have free : s.tkm.get v = .free := by simpa using List.find?_some lowest
    simp [State.trunk, free, TrunkEntry.owner] at owned
  have trunk (u : Trunk) : t.trunk u = y.trunk u := trunk_of_tkm (by rw [done]; simp [m]) u
  have found : findCarry m.cye c.id = some c := by
    rw [show m.cye = s.cye by simp [m, y]]
    exact findCarry_mem sound.1 mem
  refine ⟨(trunk tr).trans ((setTrunk_trunk_ne _ _ _ _ apart.symm).trans (setTrunk_trunk ..)), (trunk v).trans (setTrunk_trunk ..),
    fun u here there => (trunk u).trans ((setTrunk_trunk_ne _ _ _ _ there).trans (setTrunk_trunk_ne _ _ _ _ here)),
    ?_, ?_, ?_, ?_, ?_, ?_, ?_⟩
  · rw [done]
    exact (by simp : (m.carryMoved c.id v).lnc = m.lnc).trans (hand_lnc_congr _ _ (by simp [y]) (by simp [y]) (by simp [y]))
  · rw [done, carryMoved_cye]
    simp [m, y, updateCarry]
  · simp [done, m, y]
  · rw [done, State.carryMoved, found]
    by_cases queued : c.state = .queued
    · simp [queued, m, y, State.setCarry]
    · simp only [if_neg queued]
      exact xptJoin_congr _ _ _ (by simp [m, y, State.setCarry]) (by simp [m, y, State.setCarry])
  all_goals simp [done, m, y]

/-- R107, R126: with no trunk free the carry ends. -/
theorem loseTrunk_ends (full : s.tkm.lowestFree = none) :
    let t := s.loseTrunk tr c.id w
    s.CarryLost t s.clock.now tr w c ∧ t.lnc = (s.hand c.id.requester (.cprg c.id.callId (.failed .noTrunk))).lnc ∧
    t.ple = s.ple := by
  intro t
  let y := s.setTrunk tr (.held w (s.clock.now + 8000))
  obtain ⟨queue, trunks, claims⟩ := sound
  have done : t = y.endCarry c (some .noTrunk) false none (.failed .noTrunk) := by
    have lost : t = y.carryTrunkLost c.id := by
      simp only [t, State.loseTrunk, lowestFree_held owned, full, y]
      rfl
    rw [lost, State.carryTrunkLost, show findCarry y.cye c.id = some c from findCarry_mem queue mem]
  obtain ⟨tkm, lnc, cye, log, gives, nwt, ple⟩ := endCarry_lost_leaves (s := y) queue claims mem (some .noTrunk) (.failed .noTrunk)
  rw [← done] at tkm lnc cye log gives nwt ple
  exact ⟨⟨(trunk_of_tkm tkm _).trans (setTrunk_trunk ..),
    fun v other => (trunk_of_tkm tkm v).trans (setTrunk_trunk_ne _ _ _ _ other), cye, log, gives, nwt⟩,
    lnc.trans (hand_lnc_congr _ _ rfl rfl rfl), ple⟩

end

/-! ### The frames that claim or hold a trunk of this box (R119, R120, R122 to R124) -/

section
variable {z : State} {tr : Trunk} {src : Nat}

theorem mapAnnounced_beaten (tool : src ≠ 63) {id : CarryId} {g x : Nat} {b : List Nat}
    (claimed : z.trunk tr = .claiming id g b x) (higher : z.ownNum ≤ src) :
    z.mapAnnounced src (trunkNum tr) = z.setTrunk tr (.claiming id g (if src ∈ b then b else b ++ [src]) x) := by
  simp only [State.mapAnnounced, trunkOf_trunkNum, if_neg tool, State.trunkAnnounced, claimed, if_neg (not_lt.2 higher),
    List.contains_iff_mem]

theorem mapAnnounced_owned (tool : src ≠ 63) {id : CarryId} {x : Nat} (settled : z.trunk tr = .owned id x) :
    z.mapAnnounced src (trunkNum tr) = z.hand 0 (.thld (trunkNum tr) z.ownNum id.requester id.callId) := by
  simp only [State.mapAnnounced, trunkOf_trunkNum, if_neg tool, State.trunkAnnounced, settled, State.holdFrame]

theorem mapAnnounced_lost (tool : src ≠ 63) {id : CarryId} {g x : Nat} {b : List Nat}
    (claimed : z.trunk tr = .claiming id g b x) (lower : src < z.ownNum) :
    z.mapAnnounced src (trunkNum tr) = z.loseTrunk tr id src := by
  simp only [State.mapAnnounced, trunkOf_trunkNum, if_neg tool, State.trunkAnnounced, claimed, if_pos lower]

end

section
variable {s : State} {h : Header} (ms callId : Nat) {tr : Trunk} (hears : s.Hears h)
include hears

/-- R119: an announcement for another box acts on the map alone. -/
theorem exec_announcement_map (old : Nat) (other : s.own ≠ some h.dst) :
    ∀ k ∈ [Instr.cack h callId (trunkNum tr) ms, .tmov h callId old (trunkNum tr) ms],
      exec k s = .next ((s.frameHeard ms).mapAnnounced h.src (trunkNum tr)) := by
  intro k member
  obtain rfl | rfl : k = .cack h callId (trunkNum tr) ms ∨ k = .tmov h callId old (trunkNum tr) ms := by simpa using member
  · rw [exec_cack_hears _ _ _ hears, takeAnnouncement_notMine _ _ _ _ _ other]
  · rw [exec_tmov_hears _ _ _ _ hears, takeAnnouncement_notMine _ _ _ _ _ other]

/-- R120: a THLD of another holder, with no relay attempt on a trunk, acts on the map alone. -/
theorem exec_thld_map {holder partner : Nat} (tool : h.src ≠ 63) (low : 1 ≤ holder) (high : holder ≤ 62) (plow : 1 ≤ partner)
    (phigh : partner ≤ 62) (foreign : s.own ≠ some holder) (free : s.ple.trunk = none) :
    exec (.thld h (trunkNum tr) holder partner callId ms) s = .next ((s.frameHeard ms).trunkHeld tr holder) := by
  let u := s.frameHeard ms
  have taken : u.mapHeld h.src (trunkNum tr) holder partner = u.trunkHeld tr holder := by
    rw [State.mapHeld, trunkOf_trunkNum]
    exact if_neg (by simp [tool, low, high, plow, phigh, u, foreign])
  have own : (u.mapHeld h.src (trunkNum tr) holder partner).own = s.own := own_of_cfg (by simp [u])
  have ple : (u.mapHeld h.src (trunkNum tr) holder partner).ple = s.ple := by simp [u]
  rw [exec_thld_hears _ _ _ _ _ hears, carryHeardHold_otherHolder _ _ _ (by rwa [own]),
    heardCarrier_noTrunk _ _ _ (by rwa [ple]), taken]

end

/-! ### A claim lost to an announcement with no trunk free (R107, R122, R126) -/

section
variable {s : State} {tr : Trunk} {src own g x : Nat} {b : List Nat} {c : CarryRec} (box : s.own = some own) (tool : src ≠ 63)
  (sound : s.CarriesSound) (mem : c ∈ s.cye) (claimed : s.trunk tr = .claiming c.id g b x) (lower : src < own)
  (full : s.tkm.lowestFree = none)
include box tool sound mem claimed lower full

/-- R122, R126: the map's side, in any state that agrees with `s` on what it reads. -/
theorem mapAnnounced_ends {z : State}
    (same : z.tkm = s.tkm ∧ z.cye = s.cye ∧ z.svc = s.svc ∧ z.slc = s.slc ∧ z.nwt = s.nwt ∧ z.cfg = s.cfg) :
    let t := z.mapAnnounced src (trunkNum tr)
    s.CarryLost t z.clock.now tr src c ∧
    t.lnc = (z.hand c.id.requester (.cprg c.id.callId (.failed .noTrunk))).lnc ∧ t.ple = z.ple := by
  intro t
  obtain ⟨tkm, cye, svc, slc, nwt, cfg⟩ := same
  have entry : z.trunk tr = .claiming c.id g b x := (trunk_of_tkm tkm tr).trans claimed
  have num : z.ownNum = own := by simp [State.ownNum, own_of_cfg cfg, box]
  have done : t = z.loseTrunk tr c.id src := mapAnnounced_lost tool entry (by rwa [num])
  obtain ⟨lost, lnc, ple⟩ := loseTrunk_ends (sound.congr slc cye tkm) (by rwa [cye])
    (by rw [entry, TrunkEntry.owner]) src (by rwa [tkm])
  rw [done]
  exact ⟨lost.congr ⟨tkm.symm, cye.symm, svc.symm, slc.symm, nwt.symm, cfg.symm⟩ ⟨rfl, rfl, rfl, rfl, rfl⟩, lnc, ple⟩

/-- R126, R157: an announcement for this box, whichever of PLE and the map takes it first (log 6). -/
theorem takeAnnouncement_ends {h : Header} (from_ : h.src = src) (mine : s.own = some h.dst) (ms : Nat) {f : Trunk → State → State} {p : Ple}
    {frame : Option TxFrame} {joins : Bool}
    (acts : ∀ y : State, y.ple = s.ple → y.cfg = s.cfg → y.clock = (s.frameHeard ms).clock →
      y.PleActs (f tr y) tr p frame joins) :
    s.CarryLost ((s.frameHeard ms).takeAnnouncement h (trunkNum tr) f) (s.frameHeard ms).clock.now tr src c := by
  subst from_
  let u := s.frameHeard ms
  have ends {z : State} (same) := mapAnnounced_ends (z := z) box tool sound mem claimed lower full same
  obtain ⟨n, order⟩ := takeAnnouncement_mine s h ms tr f mine
  let y := u.withChoices n
  obtain first | later := order
  · have acted : y.PleActs (f tr y) tr p frame joins := acts y (by simp [y, u]) (by simp [y, u]) rfl
    obtain ⟨lost, -, -⟩ := ends (z := f tr y) ⟨acted.tkm.trans (by simp [y, u]), acted.cye.trans (by simp [y, u]),
      acted.svc.trans (by simp [y, u]), acted.slc.trans (by simp [y, u]), acted.nwt.trans (by simp [y, u]),
      acted.cfg.trans (by simp [y, u])⟩
    rw [acted.clock] at lost
    rw [first]
    exact lost
  · let z := y.mapAnnounced h.src (trunkNum tr)
    obtain ⟨lost, -, -⟩ := ends (z := y) (by simp [y, u])
    have acted : z.PleActs (f tr z) tr p frame joins := acts z (by simp [z, y, u]) (by simp [z, y, u])
      (by simp [z, y, u])
    rw [later]
    exact lost.congr ⟨rfl, rfl, rfl, rfl, rfl, rfl⟩ ⟨acted.tkm, acted.cye, acted.svc, acted.slc, acted.nwt⟩

end

/-- R19, R21, R23: PLE has an answer to every CACK for this box. -/
theorem cack_acts {s : State} {h : Header} (ms callId : Nat) (tr : Trunk) (mine : s.own = some h.dst) :
    ∃ (p : Ple) (frame : Option TxFrame) (joins : Bool), ∀ y : State, y.ple = s.ple → y.cfg = s.cfg →
      y.clock = (s.frameHeard ms).clock → y.PleActs (y.takeCack h.src callId tr) tr p frame joins := by
  obtain stray | ⟨carrier, call, answer | ⟨answer, old, trunk⟩⟩ := cack_cases s.ple h.src callId
  · exact ⟨_, _, _, fun y ple _ _ => cack_stray y ple stray⟩
  · exact ⟨_, _, _, fun y ple cfg clock => cack_answers mine y ple cfg clock carrier call answer⟩
  · exact ⟨_, _, _, fun y ple cfg clock => cack_moves mine y ple cfg clock carrier call answer trunk⟩

/-- R21, R23: so to every TMOV. -/
theorem tmov_acts {s : State} {h : Header} (ms callId : Nat) (tr : Trunk) (mine : s.own = some h.dst) :
    ∃ (p : Ple) (frame : Option TxFrame) (joins : Bool), ∀ y : State, y.ple = s.ple → y.cfg = s.cfg →
      y.clock = (s.frameHeard ms).clock → y.PleActs (y.takeTmov h.src callId tr) tr p frame joins := by
  obtain stray | ⟨carrier, call, old, trunk⟩ := tmov_cases s.ple h.src callId
  · exact ⟨_, _, _, fun y ple _ _ => tmov_stray y ple stray⟩
  · exact ⟨_, _, _, fun y ple cfg clock => tmov_moves mine y ple cfg clock carrier call trunk⟩

/-- Settles O53: the map's answer to each frame, with `loseTrunk_moves` and `loseTrunk_ends` where the trunk is lost. -/
theorem trunkConflictsAreSettledByTheRules : Obligations.TrunkConflictsAreSettledByTheRules := by
  refine ⟨fun s h ms callId old g x own b tr id hears box other tool => ?_,
    fun s h ms callId g x own holder partner b tr c hears box tool sound mem taken low high foreign plow phigh idle => ?_,
    fun s h ms callId old g x own b tr c hears box tool sound mem claimed lower full => ?_⟩
  · intro u now
    have num : u.ownNum = own := by simp [State.ownNum, u, box]
    have trunk (v : Trunk) : u.trunk v = s.trunk v := trunk_of_tkm (by simp [u]) v
    have map := exec_announcement_map (tr := tr) ms callId hears old (by rw [box]; simpa using other)
    refine ⟨fun k member => ⟨fun claimed higher => ?_, fun settled => ?_, fun c v sound mem is claimed lower lowest => ?_⟩,
      fun holder partner low high plow phigh foreign idle => ⟨fun claimed beaten => ?_, fun settled lower => ?_⟩⟩
    · rw [map k member, mapAnnounced_beaten tool ((trunk tr).trans claimed) (by rw [num]; exact higher.le)]
    · rw [map k member, mapAnnounced_owned tool ((trunk tr).trans settled), num]
    · subst is
      have entry := (trunk tr).trans claimed
      obtain ⟨held, moved, others, lnc, cye, slc, xpt, svc, -, -⟩ := loseTrunk_moves (s := u)
        (sound.congr (by simp [u]) (by simp [u]) (by simp [u])) (by simpa [u] using mem) (by rw [entry, TrunkEntry.owner])
        h.src (v := v) (x := x) (by rw [entry, TrunkEntry.refresh]) (by simpa [u] using lowest)
      rw [map k member, mapAnnounced_lost tool entry (by rwa [num])]
      exact ⟨_, rfl, held, moved, fun w here there => (others w here there).trans (trunk w), lnc, by simpa [u] using cye,
        by simpa [u] using slc, by simpa [u] using xpt, by simpa [u] using svc, by simp [u]⟩
    · rw [exec_thld_map ms callId hears tool low high plow phigh (by rw [box]; simpa using foreign.symm) idle, State.trunkHeld, trunk,
        claimed]
      simp [beaten, u]
    · rw [exec_thld_map ms callId hears tool low high plow phigh (by rw [box]; simpa using foreign.symm) idle, State.trunkHeld, trunk,
        settled]
      simp [num, not_lt.2 lower.le, State.holdFrame, u]
  · intro u now
    have num : u.ownNum = own := by simp [State.ownNum, u, box]
    have trunk (v : Trunk) : u.trunk v = s.trunk v := trunk_of_tkm (by simp [u]) v
    have map : exec (.thld h (trunkNum tr) holder partner callId ms) s = .next (u.trunkHeld tr holder) :=
      exec_thld_map ms callId hears tool low high plow phigh (by rw [box]; simpa using foreign.symm) idle
    have lost : u.trunkHeld tr holder = u.loseTrunk tr c.id holder ∧ (u.trunk tr).owner = some c.id ∧
        (u.trunk tr).refresh = some x := by
      rw [State.trunkHeld, trunk]
      obtain ⟨claimed, unbeaten⟩ | ⟨settled, lower⟩ := taken
      · simp [claimed, unbeaten, TrunkEntry.owner, TrunkEntry.refresh]
      · simp [settled, num, lower, TrunkEntry.owner, TrunkEntry.refresh]
    obtain ⟨lost, owned, refresh⟩ := lost
    have sound' : u.CarriesSound := sound.congr (by simp [u]) (by simp [u]) (by simp [u])
    have mem' : c ∈ u.cye := by simpa [u] using mem
    rw [map, lost]
    refine ⟨fun full => ?_, fun v lowest => ?_⟩
    · obtain ⟨ended, lnc, -⟩ := loseTrunk_ends sound' mem' owned holder (by simpa [u] using full)
      obtain ⟨held, others, ids, log, gives, nwt⟩ := ended.congr (s' := s) (by simp [u]) ⟨rfl, rfl, rfl, rfl, rfl⟩
      exact ⟨_, rfl, held, others, lnc, ids, ⟨_, log, rfl, rfl, rfl⟩, gives, nwt, by simp [u]⟩
    · obtain ⟨held, moved, others, lnc, cye, slc, xpt, svc, -, nwt⟩ := loseTrunk_moves sound' mem' owned holder refresh
        (v := v) (by simpa [u] using lowest)
      exact ⟨_, rfl, held, moved, fun w here there => (others w here there).trans (trunk w), lnc, by simpa [u] using cye,
        by simpa [u] using slc, by simpa [u] using xpt, by simpa [u] using svc, by simp [u], by simpa [u] using nwt⟩
  · intro u k member
    by_cases mine : s.own = some h.dst
    · have ended : ∃ t, exec k s = .next t ∧ s.CarryLost t u.clock.now tr h.src c := by
        obtain rfl | rfl : k = .cack h callId (trunkNum tr) ms ∨ k = .tmov h callId old (trunkNum tr) ms := by
          simpa using member
        · obtain ⟨p, frame, joins, acts⟩ := cack_acts ms callId tr mine
          exact ⟨_, exec_cack_hears _ _ _ hears, takeAnnouncement_ends (f := fun v y => y.takeCack h.src callId v) box tool sound mem
            claimed lower full rfl mine ms acts⟩
        · obtain ⟨p, frame, joins, acts⟩ := tmov_acts ms callId tr mine
          exact ⟨_, exec_tmov_hears _ _ _ _ hears, takeAnnouncement_ends (f := fun v y => y.takeTmov h.src callId v) box tool sound mem
            claimed lower full rfl mine ms acts⟩
      obtain ⟨t, done, held, others, ids, log, gives, nwt⟩ := ended
      exact ⟨t, done, held, others, ids, ⟨_, log, rfl, rfl, rfl⟩, gives, nwt, fun away => absurd mine (by rw [box]; simpa using away)⟩
    · obtain ⟨⟨held, others, ids, log, gives, nwt⟩, lnc, ple⟩ := mapAnnounced_ends (z := u) box tool sound mem claimed lower full
        (by simp [u])
      exact ⟨_, exec_announcement_map ms callId hears old mine k member, held, others, ids, ⟨_, log, rfl, rfl, rfl⟩, gives, nwt,
        fun _ => ⟨lnc, ple.trans (by simp [u])⟩⟩

end Sys2Proof.Machine
end

section
/-! What the items of a NETS make of a network table: O35 (R48 to R52). -/

namespace Sys2Proof.Machine

/-! ### The items kept (R48) -/

/-- R48: an item whose radio type cannot be read is dropped. -/
theorem goodItems_unreadable {seen : List Nat} {i : NetItem} (is : List NetItem) (radio : i.radio = none) :
    goodItems seen (i :: is) = goodItems seen is := by
  rw [goodItems, radio]

/-- R48: the first item of a network code that has a radio type is kept, with its level taken as at most 31. -/
theorem goodItems_kept {seen : List Nat} {i : NetItem} (is : List NetItem) {ty : RadioType} (radio : i.radio = some ty)
    (code : isNetworkCode i.code = true) (new : i.code ∉ seen) : goodItems seen (i :: is) =
      { code := i.code, radio := ty, level := i.level.map (min · 31), permitted := i.permitted } ::
        goodItems (i.code :: seen) is := by
  rw [goodItems, radio]
  simp [code, new]

/-- R48: any other item is dropped. -/
theorem goodItems_dropped {seen : List Nat} {i : NetItem} (is : List NetItem)
    (dropped : ¬ (isNetworkCode i.code = true ∧ i.code ∉ seen)) : goodItems seen (i :: is) = goodItems seen is := by
  rw [goodItems]
  split
  · exact if_neg (by simpa using dropped)
  · rfl

theorem goodItems_cases (seen : List Nat) (i : NetItem) (is : List NetItem) :
    goodItems seen (i :: is) = goodItems seen is ∨ i.code ∉ seen ∧ ∃ g : GoodItem, g.code = i.code ∧
      goodItems seen (i :: is) = g :: goodItems (i.code :: seen) is := by
  by_cases kept : isNetworkCode i.code = true ∧ i.code ∉ seen
  · obtain ⟨code, new⟩ := kept
    cases radio : i.radio with
    | none => exact .inl (goodItems_unreadable is radio)
    | some ty => exact .inr ⟨new, _, rfl, goodItems_kept is radio code new⟩
  · exact .inl (goodItems_dropped is kept)

/-- R48: no code is kept twice, nor one of an earlier item. -/
theorem goodItems_codes (is : List NetItem) (seen : List Nat) :
    ((goodItems seen is).map GoodItem.code).Nodup ∧ (∀ g ∈ goodItems seen is, g.code ∉ seen) ∧
    ((goodItems seen is).map GoodItem.code).Sublist (is.map NetItem.code) := by
  induction is generalizing seen with
  | nil => simp [goodItems]
  | cons i is ih =>
    obtain same | ⟨new, g, code, done⟩ := goodItems_cases seen i is
    · obtain ⟨nodup, fresh, sub⟩ := ih seen
      rw [same]
      exact ⟨nodup, fresh, sub.cons _⟩
    · obtain ⟨nodup, fresh, sub⟩ := ih (i.code :: seen)
      rw [done, List.map_cons, List.map_cons, code]
      refine ⟨List.nodup_cons.2 ⟨fun h => ?_, nodup⟩, fun d hd => ?_, sub.cons_cons _⟩
      · obtain ⟨d, hd, again⟩ := List.mem_map.1 h
        exact fresh d hd (again ▸ List.mem_cons_self)
      · obtain rfl | hd := List.mem_cons.1 hd
        · rwa [code]
        · exact fun h => fresh d hd (List.mem_cons_of_mem _ h)

theorem goodItems_first {i : NetItem} {ty : RadioType} (code : isNetworkCode i.code = true) (radio : i.radio = some ty)
    (xs ys : List NetItem) (seen : List Nat) (new : i.code ∉ seen) (first : ∀ j ∈ xs, j.code = i.code → j.radio = none) :
    { code := i.code, radio := ty, level := i.level.map (min · 31), permitted := i.permitted } ∈
      goodItems seen (xs ++ i :: ys) := by
  induction xs generalizing seen with
  | nil =>
    rw [List.nil_append, goodItems_kept ys radio code new]
    exact List.mem_cons_self
  | cons j xs ih =>
    obtain ⟨here, later⟩ := List.forall_mem_cons.1 first
    rw [List.cons_append]
    by_cases same : j.code = i.code
    · rw [goodItems_unreadable _ (here same)]
      exact ih seen new later
    · obtain skipped | ⟨-, g, -, done⟩ := goodItems_cases seen j (xs ++ i :: ys)
      · rw [skipped]
        exact ih seen new later
      · rw [done]
        exact List.mem_cons_of_mem _ (ih _ (by simp [new, Ne.symm same]) later)

/-! ### The entry replaced (R51) -/

theorem replacedBefore_iff {x y : NetEntry} : replacedBefore x y = true ↔
    y.age < x.age ∨ y.age = x.age ∧ (levelRank x.level < levelRank y.level ∨
      levelRank x.level = levelRank y.level ∧ x.code < y.code) := by
  unfold replacedBefore
  split
  · rw [decide_eq_true_iff]
    omega
  · split <;> rw [decide_eq_true_iff] <;> omega

theorem pickReplaced_eq_none {es : List NetEntry} : pickReplaced es = none ↔ es = [] := by
  cases es with
  | nil => simp [pickReplaced]
  | cons x es =>
    rw [pickReplaced]
    split
    · split <;> simp
    · simp

/-- R51: no entry goes before the one picked. -/
theorem pickReplaced_first {es : List NetEntry} {d : NetEntry} (picked : pickReplaced es = some d) :
    ∀ e ∈ es, ¬ replacedBefore e d = true := by
  induction es generalizing d with
  | nil => simp
  | cons x es ih =>
    rw [pickReplaced] at picked
    rw [List.forall_mem_cons]
    cases rest : pickReplaced es with
    | none =>
      rw [rest] at picked
      obtain rfl := Option.some.inj picked
      rw [pickReplaced_eq_none.1 rest]
      simp [replacedBefore_iff]
    | some m =>
      rw [rest] at picked
      have least := ih rest
      by_cases first : replacedBefore x m = true
      · obtain rfl : x = d := by simpa [first] using picked
        refine ⟨by simp [replacedBefore_iff], fun e he before => least e he ?_⟩
        rw [replacedBefore_iff] at first before ⊢
        omega
      · obtain rfl : m = d := by simpa [first] using picked
        exact ⟨first, least⟩

/-! ### One item (R49 to R51) -/

theorem takeItem_matches {touched : List Nat} {i : GoodItem} {es : List NetEntry} {d : NetEntry}
    (found : findEntry es i.code = some d) : takeItem touched i es = updateEntry i.code (applyItem i) es := by
  rw [takeItem, found]

theorem takeItem_appends {touched : List Nat} {i : GoodItem} {es : List NetEntry} (new : ∀ e ∈ es, e.code ≠ i.code)
    (room : es.length < 8) : takeItem touched i es = es ++ [entryOf i] := by
  rw [takeItem, findEntry_eq_none.2 new]
  exact if_pos room

theorem takeItem_replaces {touched : List Nat} {i : GoodItem} {es : List NetEntry} {d : NetEntry}
    (new : ∀ e ∈ es, e.code ≠ i.code) (full : ¬ es.length < 8)
    (picked : pickReplaced (es.filter fun e => !touched.contains e.code) = some d) :
    takeItem touched i es = (es.filter fun e => e.code != d.code) ++ [entryOf i] := by
  rw [takeItem, findEntry_eq_none.2 new]
  simp only [if_neg full, picked]

/-- R51: a full table of distinct codes has an entry that fewer than 8 items did not touch. -/
theorem pickReplaced_untouched {touched : List Nat} {es : List NetEntry} (distinct : (es.map NetEntry.code).Nodup)
    (few : touched.length < es.length) : ∃ d, pickReplaced (es.filter fun e => !touched.contains e.code) = some d ∧
      d ∈ es ∧ d.code ∉ touched := by
  cases picked : pickReplaced (es.filter fun e => !touched.contains e.code) with
  | none =>
    have all : es.map NetEntry.code ⊆ touched := fun n hn => by
      obtain ⟨e, he, rfl⟩ := List.mem_map.1 hn
      simpa using List.filter_eq_nil_iff.1 (pickReplaced_eq_none.1 picked) e he
    have := (List.subperm_of_subset distinct all).length_le
    rw [List.length_map] at this
    omega
  | some d =>
    obtain ⟨mem, free⟩ := List.mem_filter.1 (pickReplaced_mem picked)
    exact ⟨d, rfl, mem, by simpa using free⟩

/-- The three ways in which a sound table takes an item. -/
theorem takeItem_cases {touched : List Nat} (i : GoodItem) {es : List NetEntry} (sound : tableSound es) (few : touched.length < 8) :
    (∃ d ∈ es, d.code = i.code ∧ takeItem touched i es = updateEntry i.code (applyItem i) es) ∨
    (∀ e ∈ es, e.code ≠ i.code) ∧ (es.length < 8 ∧ takeItem touched i es = es ++ [entryOf i] ∨
      es.length = 8 ∧ ∃ d ∈ es, d.code ∉ touched ∧ takeItem touched i es = (es.filter fun e => e.code != d.code) ++ [entryOf i]) := by
  obtain ⟨room, distinct, -⟩ := sound
  cases found : findEntry es i.code with
  | some d =>
    exact .inl ⟨d, List.mem_of_find?_eq_some found, by simpa using List.find?_some found, takeItem_matches found⟩
  | none =>
    have new := findEntry_eq_none.1 found
    by_cases free : es.length < 8
    · exact .inr ⟨new, .inl ⟨free, takeItem_appends new free⟩⟩
    · obtain ⟨d, picked, mem, untouched⟩ := pickReplaced_untouched distinct (few.trans_le (not_lt.1 free))
      exact .inr ⟨new, .inr ⟨by omega, d, mem, untouched, takeItem_replaces new free picked⟩⟩

section
variable {touched : List Nat} {i : GoodItem} {es : List NetEntry} (sound : tableSound es) (few : touched.length < 8)
include sound few

/-- R49, R50: the item's entry: its fields and age 0, and what the entry it matches had, or a fresh counter and no bar. -/
theorem takeItem_enters : ∃ e ∈ takeItem touched i es, e.code = i.code ∧ e.radio = i.radio ∧ e.level = i.level ∧
    e.permitted = i.permitted ∧ e.age = 0 ∧ ((e.quality = { value := 0, decay := none } ∧ e.barredUntil = none) ∨
      ∃ d ∈ es, d.code = i.code ∧ e.quality = d.quality ∧ e.barredUntil = d.barredUntil) := by
  obtain ⟨d, mem, code, done⟩ | ⟨-, ⟨-, done⟩ | ⟨-, d, -, -, done⟩⟩ := takeItem_cases i sound few <;> rw [done]
  · refine ⟨applyItem i d, List.mem_map.2 ⟨d, mem, if_pos code⟩, code, rfl, rfl, rfl, rfl, .inr ⟨d, mem, code, rfl, rfl⟩⟩
  all_goals exact ⟨entryOf i, by simp, rfl, rfl, rfl, rfl, rfl, .inl ⟨rfl, rfl⟩⟩

/-- R49 to R51: every other entry is one that stood there. -/
theorem takeItem_from : ∀ e ∈ takeItem touched i es, e.code = i.code ∨ e ∈ es := by
  intro e he
  obtain ⟨d, -, -, done⟩ | ⟨-, ⟨-, done⟩ | ⟨-, d, -, -, done⟩⟩ := takeItem_cases i sound few <;> rw [done] at he
  · obtain ⟨d, mem, rfl⟩ := List.mem_map.1 he
    split
    · exact .inl ‹_›
    · exact .inr mem
  · obtain he | rfl : e ∈ es ∨ e = entryOf i := by simpa using he
    · exact .inr he
    · exact .inl rfl
  · obtain he | rfl : (e ∈ es ∧ _) ∨ e = entryOf i := by simpa using he
    · exact .inr he.1
    · exact .inl rfl

/-- R51: an entry that an earlier item matched or made stands. -/
theorem takeItem_touched {e : NetEntry} (mem : e ∈ es) (was : e.code ∈ touched) (other : e.code ≠ i.code) :
    e ∈ takeItem touched i es := by
  obtain ⟨d, -, -, done⟩ | ⟨-, ⟨-, done⟩ | ⟨-, d, -, untouched, done⟩⟩ := takeItem_cases i sound few <;> rw [done]
  · exact List.mem_map.2 ⟨e, mem, if_neg other⟩
  · exact List.mem_append_left _ mem
  · exact List.mem_append_left _ (List.mem_filter.2 ⟨mem, by simpa using fun same : e.code = d.code => untouched (same ▸ was)⟩)

/-- R49, R50: while there is room none is lost. -/
theorem takeItem_room (room : es.length < 8) : (takeItem touched i es).length ≤ es.length + 1 ∧
    ∀ d ∈ es, ∃ e ∈ takeItem touched i es, e.code = d.code ∧ e.quality = d.quality ∧ e.barredUntil = d.barredUntil := by
  obtain ⟨d, -, -, done⟩ | ⟨-, ⟨-, done⟩ | ⟨full, -⟩⟩ := takeItem_cases i sound few
  · rw [done]
    refine ⟨by simp [updateEntry], fun d mem => ⟨_, List.mem_map.2 ⟨d, mem, rfl⟩, ?_⟩⟩
    split <;> simp [applyItem]
  · rw [done]
    exact ⟨by simp, fun d mem => ⟨d, List.mem_append_left _ mem, rfl, rfl, rfl⟩⟩
  · omega

end

/-! ### All items (R48) -/

theorem takeItems_append (xs ys : List GoodItem) (touched : List Nat) (es : List NetEntry) :
    takeItems touched (xs ++ ys) es =
      takeItems ((xs.map GoodItem.code).reverse ++ touched) ys (takeItems touched xs es) := by
  induction xs generalizing touched es with
  | nil => rfl
  | cons x xs ih => simpa [takeItems] using ih (x.code :: touched) (takeItem touched x es)

section
variable (is : List GoodItem) {touched : List Nat} {es : List NetEntry} (sound : tableSound es)
  (good : ∀ i ∈ is, i.Sound) (few : touched.length + is.length ≤ 8)
include sound good few

theorem takeItems_from : ∀ e ∈ takeItems touched is es, (∃ i ∈ is, i.code = e.code) ∨ e ∈ es := by
  induction is generalizing touched es with
  | nil => exact fun e he => .inr he
  | cons i is ih =>
    obtain ⟨here, later⟩ := List.forall_mem_cons.1 good
    rw [List.length_cons] at few
    intro e he
    obtain ⟨j, hj, code⟩ | he := ih (touched := i.code :: touched) (sound.takeItem touched here) later (by simp; omega) e he
    · exact .inl ⟨j, List.mem_cons_of_mem _ hj, code⟩
    · obtain code | he := takeItem_from sound (by omega) e he
      · exact .inl ⟨i, List.mem_cons_self, code.symm⟩
      · exact .inr he

theorem takeItems_touched {e : NetEntry} (mem : e ∈ es) (was : e.code ∈ touched) (others : ∀ i ∈ is, i.code ≠ e.code) :
    e ∈ takeItems touched is es := by
  induction is generalizing touched es with
  | nil => exact mem
  | cons i is ih =>
    obtain ⟨here, later⟩ := List.forall_mem_cons.1 good
    obtain ⟨other, others⟩ := List.forall_mem_cons.1 others
    rw [List.length_cons] at few
    exact ih (sound.takeItem touched here) later (by simp; omega) (takeItem_touched sound (by omega) mem was other.symm)
      (List.mem_cons_of_mem _ was) others

theorem takeItems_room (room : es.length + is.length ≤ 8) : ∀ d ∈ es, ∃ e ∈ takeItems touched is es,
    e.code = d.code ∧ e.quality = d.quality ∧ e.barredUntil = d.barredUntil := by
  induction is generalizing touched es with
  | nil => exact fun d mem => ⟨d, mem, rfl, rfl, rfl⟩
  | cons i is ih =>
    obtain ⟨here, later⟩ := List.forall_mem_cons.1 good
    rw [List.length_cons] at few room
    intro d mem
    obtain ⟨short, kept⟩ := takeItem_room (i := i) (touched := touched) sound (by omega) (by omega)
    obtain ⟨e, he, code, quality, bar⟩ := kept d mem
    obtain ⟨f, hf, code', quality', bar'⟩ := ih (touched := i.code :: touched) (sound.takeItem touched here) later (by simp; omega)
      (by omega) e he
    exact ⟨f, hf, code'.trans code, quality'.trans quality, bar'.trans bar⟩

end

/-- Settles O35: the kept list by `goodItems_codes` and `goodItems_first`, the table by the lemmas on one item and all. -/
theorem netsItemsEnterTheTable : Obligations.NetsItemsEnterTheTable := by
  intro es items sound short kept after rank
  obtain ⟨nodup, -, sub⟩ := goodItems_codes items []
  have good : ∀ i ∈ kept, i.Sound := goodItems_sound items []
  have few : kept.length ≤ 8 := by
    have shorter := sub.length_le
    rw [List.length_map, List.length_map] at shorter
    exact shorter.trans short
  refine ⟨nodup, sub, fun g hg => by simpa [isNetworkCode] using (good g hg).1, fun xs i ys ty here low high radio first => ?_,
    fun xs i ys here mid reached full new => ?_, fun i hi => ?_, takeItems_from kept sound good (by simpa using few),
    fun room => takeItems_room kept sound good (by simpa using few) room⟩
  · show _ ∈ goodItems [] items
    rw [here]
    exact goodItems_first (by simp [isNetworkCode, low, high]) radio xs ys [] (by simp) first
  · have count : xs.length < 8 := by
      rw [here, List.length_append, List.length_cons] at few
      omega
    have midSound : tableSound mid := reached ▸ sound.takeItems [] fun j hj => good j (here ▸ List.mem_append_left _ hj)
    obtain ⟨-, distinct, -⟩ := midSound
    obtain ⟨d, picked, mem, untouched⟩ := pickReplaced_untouched (touched := (xs.map GoodItem.code).reverse) distinct
      (by simp; omega)
    refine ⟨d, mem, by simpa using untouched, fun e he other free => ?_, ?_⟩
    · have notBefore := pickReplaced_first picked e (List.mem_filter.2 ⟨he, by simpa using free⟩)
      have level (x : NetEntry) : rank x = (levelRank x.level : Int) - 1 := by
        simp only [rank, levelRank]
        cases x.level <;> simp
      rw [replacedBefore_iff] at notBefore
      rw [level, level]
      omega
    · rw [takeItems_append, reached, List.append_nil]
      exact takeItem_replaces new (by omega) picked
  · obtain ⟨xs, ys, here⟩ := List.append_of_mem hi
    have count : xs.length + (ys.length + 1) ≤ 8 := by simpa [here] using few
    have split : goodItems [] items = xs ++ i :: ys := here
    rw [split, List.map_append, List.map_cons, List.nodup_append, List.nodup_cons] at nodup
    obtain ⟨-, ⟨notLater, -⟩, apart⟩ := nodup
    have goodBefore : ∀ j ∈ xs, j.Sound := fun j hj => good j (here ▸ List.mem_append_left _ hj)
    have goodAfter : ∀ j ∈ ys, j.Sound := fun j hj => good j (here ▸ List.mem_append_right _ (List.mem_cons_of_mem _ hj))
    let mid := takeItems [] xs es
    let touched := (xs.map GoodItem.code).reverse
    have midSound : tableSound mid := sound.takeItems [] goodBefore
    have done : after = takeItems (i.code :: touched) ys (takeItem touched i mid) := by
      simp only [after, here, takeItems_append, List.append_nil]
      rfl
    obtain ⟨e, he, code, radio, level, permitted, age, was⟩ :=
      takeItem_enters (i := i) (touched := touched) midSound (by simp [touched]; omega)
    refine ⟨e, ?_, code, radio, level, permitted, age, was.imp_right ?_⟩
    · rw [done]
      refine takeItems_touched ys (midSound.takeItem touched (good i hi)) goodAfter (by simp [touched]; omega) he (by simp [code])
        fun j hj same => notLater (List.mem_map.2 ⟨j, hj, same.trans code⟩)
    · rintro ⟨d, mem, same, kept⟩
      obtain ⟨j, hj, again⟩ | mem := takeItems_from xs sound goodBefore (by simp; omega) d mem
      · exact absurd (again.trans same) (apart _ (List.mem_map_of_mem hj) _ List.mem_cons_self)
      · exact ⟨d, mem, same, kept⟩

end Sys2Proof.Machine
end

section
/-! A scan that ends with its NETS or with its deadline: O36 (R12, R69, R72, R73, R78, R133). -/

namespace Sys2Proof.Machine

/-! ### What the arbiter leaves of a slot that no scan waits for (R69) -/

theorem arbiter_keeps {s : State} {sl : Slot} (idle : (s.slot sl).state = .idle) (free : (s.slot sl).grant = .nobody)
    (noScan : (s.slot sl).waitingScan = false) :
    ((s.arbiter sl).slot sl).waitingScan = false ∧ ((s.arbiter sl).slot sl).scanTimer = (s.slot sl).scanTimer ∧
    ((s.arbiter sl).slot sl).heartbeat = (s.slot sl).heartbeat := by
  cases waits : (s.slot sl).waitingLocal with
  | some k =>
    cases k with
    | dial =>
      rw [arbiter_dial idle free waits, grantLocal_slot idle]
      exact ⟨noScan, rfl, rfl⟩
    | emergencyScan =>
      rw [arbiter_emergency idle free waits, startScan_slot]
      exact ⟨noScan, rfl, rfl⟩
  | none =>
    cases first : s.cye.find? (fun d => (s.slot sl).waitingCarry.contains d.id) with
    | some c =>
      rw [arbiter_carry idle free waits first, (grantCarry_leaves idle c).1]
      exact ⟨noScan, rfl, rfl⟩
    | none =>
      have rest : s.arbiter sl = s := by
        simp only [State.arbiter, idle, free, waits, first, noScan, and_self, if_true]
        rfl
      rw [rest]
      exact ⟨noScan, rfl, rfl⟩

/-! ### The moment of the scan's end (R65, R73, R78) -/

/-- R65, R73, R78: the state as the scan is about to end: its NETS heard and taken, or its deadline reached. -/
def State.scanAnswered (s : State) (sl : Slot) (ms at_ : Nat) (items : List NetItem) (byNets : Bool) : State :=
  if byNets then (s.heard sl ms).takeNets sl items else s.advanceTo at_

section
variable (s : State) (sl : Slot) (ms at_ : Nat) (items : List NetItem) (byNets : Bool)

@[simp] theorem State.scanAnswered_frame :
    let v := s.scanAnswered sl ms at_ items byNets
    v.clock = (if byNets then s.arrive ms else s.advanceTo at_).clock ∧ v.xpt = s.xpt ∧ v.nbt = s.nbt ∧ v.ple = s.ple ∧
    v.cye = s.cye ∧ v.tkm = s.tkm ∧ v.spm = s.spm ∧ v.cfg = s.cfg ∧ v.svc = s.svc := by
  cases byNets <;> simp [State.scanAnswered]

theorem scanAnswered_now : (s.scanAnswered sl ms at_ items byNets).clock.now =
    if byNets then (s.arrive ms).clock.now else max s.clock.now at_ := by
  rw [(State.scanAnswered_frame ..).1]
  cases byNets
  · rfl
  · rfl

theorem scanAnswered_slot : (s.scanAnswered sl ms at_ items byNets).slot sl = { s.slot sl with
    heartbeat := if byNets then some ((s.arrive ms).clock.now + 15000) else (s.slot sl).heartbeat
    idleTimer := ((s.scanAnswered sl ms at_ items byNets).slot sl).idleTimer } := by
  cases byNets
  · rfl
  · have same : (s.scanAnswered sl ms at_ items true).slot sl = (s.heard sl ms).slot sl :=
      slot_of_slc (by simp [State.scanAnswered]) sl
    rw [same]
    exact heard_slot s sl ms

theorem scanAnswered_other : (s.scanAnswered sl ms at_ items byNets).slot (otherSlot sl) = s.slot (otherSlot sl) := by
  cases byNets
  · rfl
  · exact (slot_of_slc (s := s.heard sl ms) (by simp [State.scanAnswered]) _).trans (heard_other ..)

theorem scanAnswered_tables : (s.scanAnswered sl ms at_ items byNets).table sl =
      (if byNets then takeItems [] (goodItems [] items) (s.table sl) else s.table sl) ∧
    (s.scanAnswered sl ms at_ items byNets).table (otherSlot sl) = s.table (otherSlot sl) := by
  cases byNets
  · exact ⟨rfl, rfl⟩
  · exact ⟨(tableEvent_table ..).trans (congrArg _ (table_of_nwt (by simp) sl)),
      (tableEvent_other ..).trans (table_of_nwt (by simp) _)⟩

/-- R133: before the first REACH no early advert is due. -/
theorem watchAdvert_notYet {s : State} (first : s.adv.lastBest = .notYet) : s.watchAdvert = s := by
  unfold State.watchAdvert
  simp [first, isEarlyDue]

theorem scanAnswered_first {s : State} (first : s.adv.lastBest = .notYet) : (s.scanAnswered sl ms at_ items byNets).adv = s.adv := by
  cases byNets
  · rfl
  · refine (congrArg State.adv (watchAdvert_notYet (s := (s.heard sl ms).withTable sl _) ?_)).trans ?_ <;> simp [first]

theorem watchAdvert_past {s : State} (past : ∀ w, s.adv.timer ≠ .startWait w) (w : Nat) :
    s.watchAdvert.adv.timer ≠ .startWait w := by
  unfold State.watchAdvert
  split
  · split
    · rw [buildReach_adv]
      nofun
    · exact past w
  · exact past w

theorem scanAnswered_past {s : State} (past : ∀ w, s.adv.timer ≠ .startWait w) (w : Nat) :
    (s.scanAnswered sl ms at_ items byNets).adv.timer ≠ .startWait w := by
  cases byNets
  · exact past w
  · exact watchAdvert_past (s := (s.heard sl ms).withTable sl _) (by simpa using past) w

variable {s sl} {at_ ms} in
theorem exec_scanEnd (due : if byNets then s.phase = .running ∧ items.length ≤ 8 else s.Due (s.slot sl).deadline at_)
    (state : (s.slot sl).state = .scanning) :
    exec (if byNets then .nets sl items ms else .scanDeadlineExpiry sl) s =
      .next ((s.scanAnswered sl ms at_ items byNets).endScan sl) := by
  cases byNets
  · exact congrArg Host.Outcome.next (expire_due _ (by simpa [State.deadlineIn, state] using due))
  · obtain ⟨running, short⟩ := by simpa using due
    refine congrArg Host.Outcome.next ((if_pos short).trans ((hear_pastWarmUp _ _ running (by rw [state]; rfl)).trans (if_pos ?_)))
    exact (heard_state ..).trans state

end

/-! ### The reports of the scan's end (R12, R73, R133) -/

theorem scanLength_timer {s v : State} (supply : v.spm = s.spm) (cfg : v.cfg = s.cfg) (now : Nat) :
    v.scanLength.map (now + ·) = s.scanTimerFrom now := by
  rw [State.scanLength, State.scanTimerFrom, supply, cfg]
  cases s.spm.supply <;> rfl

theorem endScan_eq {v : State} {sl : Slot} {kind : ScanKind} (grant : (v.slot sl).grant = .scan kind) :
    v.endScan sl = ((v.closeScan sl).reportScanEnd sl kind).arbiter sl := by
  rw [State.endScan, grant]

/-- R12: an emergency scan that is not the last awaited. -/
theorem emergencyScanEnded_waits {x : State} {sl : Slot} (more : ¬ x.EndsWait sl) :
    x.emergencyScanEnded sl = x.withPle (x.ple.scanEnded sl) := by
  unfold State.emergencyScanEnded Ple.scanEnded
  by_cases waiting : x.ple.state = .waiting
  · by_cases awaited : sl ∈ x.ple.awaited
    · have others : ∃ o ∈ x.ple.awaited, o ≠ sl := by
        by_contra only
        push Not at only
        exact more ⟨waiting, awaited, only⟩
      rw [if_pos ⟨waiting, by simpa using awaited⟩, if_pos waiting]
      exact if_neg (by simpa [State.setPle] using others)
    · rw [if_neg fun h => awaited (by simpa using h.2), if_pos waiting]
      have all : (x.ple.awaited.filter (· != sl)) = x.ple.awaited :=
        List.filter_eq_self.2 fun o ho => by simpa using fun same : o = sl => awaited (same ▸ ho)
      rw [all]
      rfl
  · rw [if_neg fun h => waiting h.1, if_neg waiting]
    rfl

/-- R12: the last one ends the wait. -/
theorem emergencyScanEnded_last {x : State} {sl : Slot} (last : x.EndsWait sl) :
    x.emergencyScanEnded sl = (x.setPle fun p => { p with awaited := p.awaited.filter fun o => o != sl }).endWaiting := by
  obtain ⟨waiting, awaited, only⟩ := last
  refine (if_pos ⟨waiting, by simpa using awaited⟩).trans (if_pos ?_)
  simpa [State.setPle] using only

theorem reportScanEnd_goesOn {x : State} {sl : Slot} {kind : ScanKind} (more : kind = .emergency → ¬ x.EndsWait sl) :
    x.reportScanEnd sl kind =
      (x.withPle (if kind = .emergency then x.ple.scanEnded sl else x.ple)).advScanEnded := by
  cases kind with
  | periodic => rfl
  | emergency => exact congrArg State.advScanEnded (emergencyScanEnded_waits (more rfl))

theorem buildReach_first (s : State) : s.buildReach.adv.seq = (s.adv.seq + 1) % 256 ∧
    s.buildReach.adv.lastBuild = some s.clock.now ∧ ∃ p, s.buildReach.adv.timer = .periodic p := by
  rw [buildReach_adv]
  exact ⟨rfl, rfl, _, rfl⟩

/-! ### An end that does not end the wait -/

/-- R12, R73: the state before the arbiter, where the scan does not end a wait. -/
def State.scanReported (v : State) (sl : Slot) (kind : ScanKind) : State :=
  ((v.closeScan sl).withPle (if kind = .emergency then v.ple.scanEnded sl else v.ple)).advScanEnded

@[simp] theorem State.scanReported_frame (v : State) (sl : Slot) (kind : ScanKind) :
    let w := v.scanReported sl kind
    w.clock = v.clock ∧ w.slc = (v.closeScan sl).slc ∧ w.xpt = v.xpt ∧ w.nwt = v.nwt ∧ w.nbt = v.nbt ∧ w.cye = v.cye ∧
    w.tkm = v.tkm ∧ w.svc = v.svc ∧ w.ple = if kind = .emergency then v.ple.scanEnded sl else v.ple := by
  simp [State.scanReported, State.closeScan]

theorem endScan_goesOn {v : State} {sl : Slot} {kind : ScanKind} (grant : (v.slot sl).grant = .scan kind)
    (more : kind = .emergency → ¬ v.EndsWait sl) : v.endScan sl = (v.scanReported sl kind).arbiter sl := by
  have ple : (v.closeScan sl).ple = v.ple := by simp [State.closeScan]
  rw [endScan_eq grant, reportScanEnd_goesOn (by simpa only [State.EndsWait, ple] using more), ple]
  rfl

/-- R72, R73, R78: the command, and the slots before the arbiter, where the scan's end does not end a wait. -/
theorem scanEnd_goesOn {s : State} {sl : Slot} (ms at_ : Nat) (items : List NetItem) (byNets : Bool) {kind : ScanKind}
    (state : (s.slot sl).state = .scanning) (grant : (s.slot sl).grant = .scan kind)
    (more : kind = .emergency → ¬ s.EndsWait sl)
    (due : if byNets then s.phase = .running ∧ items.length ≤ 8 else s.Due (s.slot sl).deadline at_) :
    let now := if byNets then (s.arrive ms).clock.now else max s.clock.now at_
    let v := s.scanAnswered sl ms at_ items byNets
    let w := v.scanReported sl kind
    exec (if byNets then .nets sl items ms else .scanDeadlineExpiry sl) s = .next (w.arbiter sl) ∧
    w.slot sl = { s.slot sl with
      state := .idle, grant := .nobody, waitingScan := false, request := .nothing, deadline := none, repeatsDue := 0,
      rung := false, scanTimer := s.scanTimerFrom now, idleTimer := (w.slot sl).idleTimer,
      heartbeat := if byNets then some (now + 15000) else (s.slot sl).heartbeat } ∧
    w.slot (otherSlot sl) = s.slot (otherSlot sl) := by
  intro now v w
  have clock : v.clock.now = now := scanAnswered_now ..
  have slot := scanAnswered_slot s sl ms at_ items byNets
  have slots (k : Slot) : w.slot k = (v.closeScan sl).slot k := slot_of_slc (by simp [w]) k
  refine ⟨(exec_scanEnd items byNets due state).trans (congrArg _ (endScan_goesOn ?_ ?_)), ?_, ?_⟩
  · rw [slot]
    exact grant
  · simpa only [State.EndsWait, (State.scanAnswered_frame s sl ms at_ items byNets).2.2.2.1] using more
  · rw [slots, closeScan_slot, slot, scanLength_timer (s := s) (by simp [v]) (by simp [v]), clock]
    cases byNets <;> simp [now]
  · rw [slots, closeScan_other]
    exact scanAnswered_other ..

/-! ### The end of the last awaited scan (R11, R12) -/

theorem withdrawEmergency_none {s : State} {sl : Slot} (noLocal : (s.slot sl).waitingLocal = none) :
    s.withdrawEmergency sl = s := if_neg (by rw [noLocal]; nofun)

/-- R69: a claim placed on a free slot is granted. -/
theorem claimsLocal_busy {v t : State} {now : Nat} {sl : Slot} {k : LocalClaim} {code : Nat}
    (claims : v.ClaimsLocal t now sl k code) (idle : (v.slot sl).state = .idle) (free : (v.slot sl).grant = .nobody) :
    (t.slot sl).state ≠ .idle := by
  have granted := (if_pos (show (v.slot sl).state = .idle ∧ (v.slot sl).grant = .nobody from ⟨idle, free⟩)).mp claims
  cases k with
  | dial =>
    obtain ⟨-, state, -⟩ := granted
    simp [state]
  | emergencyScan =>
    obtain ⟨-, state, -⟩ := granted
    simp [state]

/-- R69: a round that starts with slot `sl` free of grant and claims leaves the arbiter nothing to grant there. -/
theorem startsRound_arbiter {v t : State} {now : Nat} (round : v.StartsRound t now) {sl : Slot}
    (idle : (v.slot sl).state = .idle) (free : (v.slot sl).grant = .nobody) (quiet : (v.slot sl).NoClaims) :
    t.arbiter sl = t := by
  have unchanged (same : t.slot sl = v.slot sl) : t.arbiter sl = t := arbiter_noClaims t sl (same ▸ quiet)
  obtain ⟨-, -, scans, routes⟩ := round
  by_cases empty : buildList v = []
  · obtain ⟨-, -, -, -, -, -, claims⟩ := scans empty
    have claimed := claims sl
    rw [if_pos (.inr (.inl idle))] at claimed
    exact arbiter_busy t sl (.inl (claimsLocal_busy claimed idle free))
  · obtain ⟨pre, c, post, -, -, -, -, begins⟩ | ⟨-, slc, -⟩ := (routes empty).cases
    · cases via : c.via with
      | box n =>
        rw [via] at begins
        obtain ⟨-, -, -, slc⟩ := begins
        exact unchanged (slot_of_slc slc sl)
      | slot k =>
        rw [via] at begins
        obtain ⟨-, -, claims, other⟩ := begins
        by_cases here : sl = k
        · subst here
          exact arbiter_busy t sl (.inl (claimsLocal_busy claims idle free))
        · exact unchanged (by rw [slot_ne here]; exact other)
    · exact unchanged (slot_of_slc slc sl)

/-- R65, R73: the scan closed after its NETS, as one change of the slot record. -/
theorem scanAnswered_closed {s : State} {sl : Slot} (ms at_ : Nat) (items : List NetItem) (byNets : Bool)
    (state : (s.slot sl).state = .scanning) (timer : (s.slot sl).idleTimer = none) :
    let u := if byNets then (s.arrive ms).takeNets sl items else s.advanceTo at_
    (s.scanAnswered sl ms at_ items byNets).closeScan sl = u.setSlot sl fun r =>
      { r with state := .idle, grant := .nobody, request := .nothing, deadline := none, repeatsDue := 0,
               rung := false, waitingScan := false, scanTimer := s.scanTimerFrom u.clock.now
               heartbeat := if byNets then some (u.clock.now + 15000) else r.heartbeat } := by
  intro u
  cases byNets
  · have length := scanLength_timer (s := s) (v := u) rfl rfl u.clock.now
    change u.closeScan sl = _
    rw [State.closeScan, length]
    rfl
  · let hear (r : SlotRec) : SlotRec := { r with heartbeat := some ((s.arrive ms).clock.now + heartbeatMs) }
    have heard : s.scanAnswered sl ms at_ items true = u.setSlot sl hear :=
      (setSlot_tableEvent (s := s.arrive ms) (g := hear) rfl sl _).symm
    have clock : u.clock = (s.arrive ms).clock := by simp [u]
    have slot : u.slot sl = s.slot sl := slot_of_slc (by simp [u]) sl
    have length := scanLength_timer (s := s) (v := u.setSlot sl hear) (by simp [u]) (by simp [u]) u.clock.now
    have unused : (hear (s.slot sl)).settleIdle u.clock.now = hear (s.slot sl) := by
      rw [settleIdle_not_idle _ _ (by rw [show (hear (s.slot sl)).state = (s.slot sl).state from rfl, state]; nofun)]
      simp [hear, timer]
    rw [heard, State.closeScan, show (u.setSlot sl hear).clock = u.clock by simp, length, setSlot_setSlot]
    refine setSlot_congr ?_
    rw [slot, unused, clock]
    rfl

/-- R12, R73: the last awaited emergency scan ends: the next round, then ADV, then the arbiter. -/
theorem scanEnd_endsWait {s : State} {sl : Slot} (ms at_ : Nat) (items : List NetItem) (byNets : Bool)
    (due : if byNets then s.phase = .running ∧ items.length ≤ 8 else s.Due (s.slot sl).deadline at_)
    (state : (s.slot sl).state = .scanning) (grant : (s.slot sl).grant = .scan .emergency) (last : s.EndsWait sl) :
    let x := (s.scanAnswered sl ms at_ items byNets).closeScan sl
    let y := x.setPle fun p => { p with awaited := p.awaited.filter fun o => o != sl }
    exec (if byNets then .nets sl items ms else .scanDeadlineExpiry sl) s = .next (y.endWaiting.advScanEnded.arbiter sl) := by
  intro x y
  have slot := scanAnswered_slot s sl ms at_ items byNets
  have scans : ((s.scanAnswered sl ms at_ items byNets).slot sl).grant = .scan .emergency := by
    rw [slot]
    exact grant
  have ple : x.ple = s.ple := by simp [x, State.closeScan]
  have awaits : x.EndsWait sl := by
    unfold State.EndsWait
    rw [ple]
    exact last
  refine (exec_scanEnd items byNets due state).trans (congrArg _ ((endScan_eq scans).trans ?_))
  exact congrArg (fun z : State => z.advScanEnded.arbiter sl) (emergencyScanEnded_last awaits)

/-- Settles O36: `scanEnd_goesOn` and what the arbiter grants then; `scanEnd_endsWait` and the round that starts. -/
theorem scanEndsWithNetsOrDeadline : Obligations.ScanEndsWithNetsOrDeadline := by
  refine ⟨fun s sl ms at_ items byNets kind state grant more due => ?_,
    fun s sl ms at_ items byNets due state grant last => ?_⟩
  · intro now r
    let v := s.scanAnswered sl ms at_ items byNets
    let w := v.scanReported sl kind
    have vclock : v.clock.now = now := scanAnswered_now ..
    obtain ⟨run, slot, other⟩ := scanEnd_goesOn ms at_ items byNets state grant more due
    obtain ⟨table, otherTable⟩ := scanAnswered_tables s sl ms at_ items byNets
    have clock : w.clock.now = now := by simpa [w] using vclock
    have cye : w.cye = s.cye := by simp [w, v]
    have xpt : w.xpt = s.xpt := by simp [w, v]
    have ple : w.ple = if kind = .emergency then s.ple.scanEnded sl else s.ple := by simp [w, v]
    have idle : (w.slot sl).state = .idle := by rw [slot]
    have free : (w.slot sl).grant = .nobody := by rw [slot]
    have noScan : (w.slot sl).waitingScan = false := by rw [slot]
    obtain ⟨scan, timer, heartbeat⟩ := arbiter_keeps idle free noScan
    refine ⟨w.arbiter sl, run, ?_, ?_, (arbiter_other ..).trans other, scan, ?_, ?_, fun wait waits first => ?_, ?_, ?_, ?_, ?_,
      fun noLocal noCarry => ?_, fun code waits route => ?_, fun waits => ?_, fun pre c post noLocal split member first => ?_⟩
    · exact (table_of_nwt (by simp [w, v]) sl).trans table
    · exact (table_of_nwt (by simp [w, v]) _).trans otherTable
    · rw [timer, slot]
    · rw [heartbeat, slot]
    · have built : w = ((v.closeScan sl).withPle (if kind = .emergency then v.ple.scanEnded sl else v.ple)).buildReach :=
        advScanEnded_startWait (w := wait) (by simp [State.closeScan, v, scanAnswered_first sl ms at_ items byNets first, waits])
      obtain ⟨seq, last, periodic⟩ := buildReach_first
        ((v.closeScan sl).withPle (if kind = .emergency then v.ple.scanEnded sl else v.ple))
      rw [← built] at seq last periodic
      rw [(State.arbiter_frame ..).2.2.2.2.1]
      refine ⟨seq.trans ?_, last.trans ?_, periodic⟩
      · simp [State.closeScan, v, scanAnswered_first sl ms at_ items byNets first]
      · simp [State.closeScan, vclock]
    · simpa using ple
    · simp [w, v]
    · simp [w, v]
    · simp [w, v]
    · rw [arbiter_noClaims w sl (by rw [slot]; exact ⟨noLocal, noCarry, rfl⟩), slot]
      exact ⟨rfl, rfl, rfl, rfl, rfl, cye, xpt⟩
    · have granted := arbiter_dial idle free (by rw [slot]; exact waits)
      have done := grantLocal_slot idle
      have dialled : (w.ple.route.bind Route.code).getD 0 = code := by
        rw [ple]
        unfold Ple.scanEnded
        repeat' split
        all_goals simp [route]
      rw [← granted, dialled, clock, slot] at done
      rw [done]
      refine ⟨rfl, rfl, rfl, rfl, rfl, rfl, rfl, ?_, ?_⟩ <;> rw [granted]
      · simpa using cye
      · simpa using xpt
    · have granted := arbiter_emergency idle free (by rw [slot]; exact waits)
      have done := startScan_slot w sl (fun r => { r with waitingLocal := none }) w.clock.now .emergency
      rw [← granted, clock, slot] at done
      rw [done]
      refine ⟨rfl, rfl, rfl, rfl, rfl, rfl, rfl, ?_, ?_⟩ <;> rw [granted]
      · simpa using cye
      · simpa using xpt
    · have found : w.cye.find? (fun d => (w.slot sl).waitingCarry.contains d.id) = some c := by
        rw [cye, slot, split, List.find?_append, List.find?_eq_none.2 (by simpa using first)]
        simp [show c.id ∈ (s.slot sl).waitingCarry from member]
      have granted := arbiter_carry idle free (by rw [slot]; exact noLocal) found
      obtain ⟨done, -, carries, joins⟩ := grantCarry_leaves idle c
      rw [← granted] at done carries joins
      rw [clock, slot] at done
      rw [done]
      refine ⟨rfl, rfl, rfl, rfl, rfl, rfl, by rw [carries, cye], joins.trans (xptJoin_congr _ _ _ ?_ ?_)⟩
      · rw [xpt]
        cases byNets <;> simp
      · simp [w, v]
  · let x := (s.scanAnswered sl ms at_ items byNets).closeScan sl
    let y := x.setPle fun p => { p with awaited := p.awaited.filter fun o => o != sl }
    obtain ⟨table, otherTable⟩ := scanAnswered_tables s sl ms at_ items byNets
    have nwt : y.nwt = (s.scanAnswered sl ms at_ items byNets).nwt := by simp [y, x, State.closeScan]
    have ple : y.ple = { s.ple with awaited := s.ple.awaited.filter fun o => o != sl } := by
      simp [y, x, State.setPle, State.closeScan]
    have starts := endWaiting_starts y
    obtain ⟨record, -⟩ := endWaiting_leaves y
    have state' := (startRound_goes y.pauseEnded).state
    let t := y.endWaiting.advScanEnded.arbiter sl
    have same : t.ple = y.endWaiting.ple := by simp [t]
    refine ⟨t, scanEnd_endsWait ms at_ items byNets due state grant last, ?_, ?_, ?_, ?_, ?_, ?_, same ▸ state',
      fun past quiet noCarry timer => ?_⟩
    · obtain ⟨-, rounds, -⟩ := starts
      rw [same, rounds]
      simp [ple]
    · rw [same]
      simpa [ple] using congrArg Ple.callId record
    · exact (table_of_nwt (by simp [t, nwt]) sl).trans table
    · exact (table_of_nwt (by simp [t, nwt]) _).trans otherTable
    · simp [t, y, x, State.closeScan]
    · simp [t, y, x, State.closeScan]
    · intro u now
      have slot : x.slot sl = { s.slot sl with
          state := .idle, grant := .nobody, waitingScan := false, request := .nothing, deadline := none, repeatsDue := 0,
          rung := false, heartbeat := (x.slot sl).heartbeat, scanTimer := (x.slot sl).scanTimer,
          idleTimer := (x.slot sl).idleTimer } := by
        rw [closeScan_slot, scanAnswered_slot]
      have noLocal (o : Slot) : (x.slot o).waitingLocal = none := by
        by_cases here : o = sl
        · rw [here, slot]
          exact quiet sl
        · rw [slot_ne here, closeScan_other, scanAnswered_other]
          exact quiet _
      have kept (o : Slot) : y.withdrawEmergency o = y := withdrawEmergency_none (noLocal o)
      rw [kept, kept] at starts
      have closed := scanAnswered_closed ms at_ items byNets state timer
      have clock : y.clock = u.clock := by
        have := congrArg State.clock closed
        simpa [y, x] using this
      have round : State.StartsRound (x.withPle s.ple.waitEnded) y.endWaiting now := by
        refine StartsRound.congr ?_ ?_ ?_ ?_ ?_ ?_ ?_ ?_ ?_ ?_ ?_ (clock ▸ starts)
        all_goals simp [y, ple, Ple.waitEnded, nextPause]
      have adv : y.endWaiting.adv = (s.scanAnswered sl ms at_ items byNets).adv := by simp [y, x, State.closeScan]
      have silent : y.endWaiting.advScanEnded = y.endWaiting :=
        advScanEnded_other fun w => adv ▸ scanAnswered_past sl ms at_ items byNets past w
      have done : t = y.endWaiting := (congrArg (State.arbiter · sl) silent).trans (startsRound_arbiter round (sl := sl)
        (by rw [slot_of_slc (s := x) (by simp), slot]) (by rw [slot_of_slc (s := x) (by simp), slot])
        (by rw [slot_of_slc (s := x) (by simp), slot]; exact ⟨quiet sl, noCarry, rfl⟩))
      rw [← done] at round
      rw [show x = _ from closed] at round
      exact round

end Sys2Proof.Machine
end

section
/-! O43 (R27, R66, R69, R70), which fails: in a state whose slots both name the local call as the holder of their grant, a
fault on the one slot has the local call release the other one, and the arbiter there grants a carry that waits. Its record
leaves QUEUED and is no longer the one that stood in the queue. -/

namespace Sys2Proof.Machine

/-- A carry that waits at SLOT_B. -/
def waitingCarryB : CarryRec :=
  { id := ⟨8, 1⟩, code := 47125, slot := .b, trunk := .t1, state := .queued, dialSent := false, queueTimer := some 100,
    silence := some 100, talkSeconds := 0 }

/-- The local call in TALKING on an own route of SLOT_B, its resumptions spent, and SLOT_A naming it as holder as well; the
heartbeat watch of SLOT_A is due, and SLOT_B is IDLE with the carry waiting there. -/
def twiceGranted : State :=
  { State.reset with
    phase := .running
    slc := { a := { resetSlot .talking [] with power := true, grant := .localCall, heartbeat := some 0 }
             b := { resetSlot .idle [] with power := true, grant := .localCall, waitingCarry := [⟨8, 1⟩] } }
    ple := { resetPle with state := .talking, route := some ⟨.slot .b, none⟩, resumptions := 5 }
    cye := [waitingCarryB]
    tkm := { resetTkm with t1 := .owned ⟨8, 1⟩ 100 } }


/-- R66: with no CARRY claim waiting there is none to tell of. -/
theorem carryClaimFaults_nil (s : State) : s.carryClaimFaults [] = s := by
  simp [State.carryClaimFaults]

/-- R27, R66: the fault at SLOT_A has the local call lose its talk. -/
theorem twiceGranted_loses (v : State) (slc : v.slc = twiceGranted.slc) (ple : v.ple = twiceGranted.ple) :
    v.slotFault .a = (v.faultCut .a).loseTalk := by
  have slot : v.slot .a = twiceGranted.slot .a := slot_of_slc slc .a
  have talking : (v.faultCut .a).ple.state = .talking := by simp [State.faultCut, ple, twiceGranted]
  have told : (v.faultCut .a).localReport .a (.fault true) = (v.faultCut .a).loseTalk := by
    unfold State.localReport
    rw [talking]
  rw [slotFault_eq, slot]
  exact (carryClaimFaults_nil _).trans told

/-- R27, R69, R70: the loss releases SLOT_B, where the carry that waits is granted. -/
theorem twiceGranted_cye {v : State} (slc : v.slc = twiceGranted.slc) (ple : v.ple = twiceGranted.ple)
    (cye : v.cye = twiceGranted.cye) : (v.slotFault .a).cye =
      [{ waitingCarryB with state := .dialling, dialSent := true, queueTimer := none }] := by
  let z := v.faultCut .a
  have route : z.ple.route = some ⟨.slot .b, none⟩ := by simp [z, State.faultCut, ple, twiceGranted]
  have slot : z.slot .b = twiceGranted.slot .b := (faultCut_other v .a).trans (slot_of_slc slc .b)
  have queue : z.cye = [waitingCarryB] := by simp [z, State.faultCut, cye, twiceGranted]
  let freed := z.setSlot .b fun r => { r with grant := .nobody }
  have lost : z.talkLost = freed.arbiter .b := by
    unfold State.talkLost
    rw [route]
    dsimp only
    rw [reportOutcome_codeless route, State.release, slot]
    rfl
  have record : freed.slot .b = { twiceGranted.slot .b with grant := .nobody, idleTimer := (freed.slot .b).idleTimer } := by
    rw [State.setSlot_slot, slot]
    exact settleIdle_eq ..
  have granted : freed.arbiter .b = freed.grantCarry .b waitingCarryB := by
    refine arbiter_carry ?_ ?_ ?_ ?_
    all_goals rw [record]
    case refine_4 =>
      rw [show freed.cye = [waitingCarryB] by simp [freed, queue]]
      rfl
    all_goals rfl
  obtain ⟨-, -, stands, -⟩ := loseTalk_closes (s := z) (by simp [z, State.faultCut, ple, twiceGranted])
  obtain ⟨-, -, dialled, -⟩ := grantCarry_leaves (s := freed) (sl := .b) (by rw [record]; rfl) waitingCarryB
  rw [twiceGranted_loses v slc ple, stands, lost, granted, dialled, show freed.cye = [waitingCarryB] by simp [freed, queue]]
  rfl

/-- The carry queue, the trunk map and the slots of `twiceGranted` tell of the same carry. -/
theorem twiceGranted_carriesSound : twiceGranted.CarriesSound := by
  refine ⟨⟨by decide, by decide⟩, ⟨by decide, fun t id owned => ?_⟩, fun sl id => ?_⟩
  · cases t <;> simp [twiceGranted, resetTkm, Tkm.get, TrunkEntry.owner] at owned
    exact ⟨waitingCarryB, List.mem_cons_self, owned, rfl⟩
  · cases sl <;> simp [twiceGranted, waitingCarryB, State.slot, resetSlot, eq_comm]

/-- Refutes O43: its fifth part, at `twiceGranted`, where no carry waits at SLOT_A or is granted there; the record in the
queue should stand, and has been granted SLOT_B. -/
theorem not_faultsRestartOrDisableTheSlot : ¬ Obligations.FaultsRestartOrDisableTheSlot := by
  rintro ⟨-, -, -, -, carries, -, -⟩
  let v := twiceGranted.advanceTo 0
  have due : twiceGranted.Due (twiceGranted.slot .a).heartbeat 0 := ⟨rfl, by decide⟩
  have faults : twiceGranted.FaultsAt .a (.heartbeatWatchExpiry .a) v := .inr (.inr (.inl ⟨0, rfl, due, rfl⟩))
  have run : exec (.heartbeatWatchExpiry .a) twiceGranted = .next (v.slotFault .a) :=
    (exec_faultTimer twiceGranted .a (.inr (.inr ⟨rfl, rfl⟩))).trans (congrArg _ (expire_due _ due))
  obtain ⟨t, run', cye, -⟩ := carries twiceGranted v .a (.heartbeatWatchExpiry .a) faults twiceGranted_carriesSound
  obtain rfl := Host.Outcome.next.inj (run.symm.trans run')
  rw [twiceGranted_cye (v := v) rfl rfl rfl] at cye
  have stands : waitingCarryB ∈ twiceGranted.cye.filter fun k =>
      ¬ (k.id ∈ (twiceGranted.slot .a).waitingCarry ∨ (twiceGranted.slot .a).grant = .carry k.id) :=
    List.mem_filter.2 ⟨List.mem_cons_self, by simp [twiceGranted, State.slot, resetSlot]⟩
  rw [show twiceGranted.cye.filter _ = _ from cye.symm] at stands
  simp [waitingCarryB] at stands

end Sys2Proof.Machine
end
